-- ==== Sys2Proof/Word.lean ====
section
/-! DEFINITION. The word types of the model: the 32-bit register word (R10), bytes, and the plainest rounding
arithmetic. Nothing here depends on the machine. -/

namespace Sys2Proof

/-- A register word: every register is 32 bits wide (00_scope, "Register access codes"). -/
abbrev Word := BitVec 32

/-- A byte of a frame, of the OTP array or of the bobbin. -/
abbrev Byte := BitVec 8

/-- Bits [msb:lsb] of a word as a number (R6: a field value is aligned at bit 0). -/
def bits (w : Word) (msb lsb : Nat) : Nat :=
  (w.toNat >>> lsb) % 2 ^ (msb + 1 - lsb)

/-- One bit of a word. -/
def bit (w : Word) (k : Nat) : Bool := w.getLsbD k

/-- A number placed with its bit 0 at bit `lsb` of a word. -/
def place (v lsb : Nat) : Word := BitVec.ofNat 32 (v <<< lsb)

/-- A flag placed at bit `k` of a word. -/
def flag (b : Bool) (k : Nat) : Word := if b then BitVec.ofNat 32 (1 <<< k) else 0

/-- Increment that saturates at `top`. -/
def satInc (n top : Nat) : Nat := if n < top then n + 1 else top

/-- Addition that saturates at `top`. -/
def satAdd (n k top : Nat) : Nat := min (n + k) top

/-- Division of an integer by a positive number, rounded to the nearest integer, halves away from zero
(R151, R166, R275). -/
def divRound (a : Int) (d : Nat) : Int :=
  if 0 ≤ a then ((2 * a.toNat + d) / (2 * d) : Nat) else -(((2 * (-a).toNat + d) / (2 * d) : Nat) : Int)

/-- Rounding to the nearest integer with halves rounded up (R162). -/
def divRoundUp (a : Int) (d : Nat) : Int := (2 * a + d).fdiv (2 * d)

/-- An integer as a two's complement field of `w` bits, saturated at the ends of its range. -/
def signedSat (w : Nat) (v : Int) : Nat :=
  let hi : Int := 2 ^ (w - 1) - 1
  let lo : Int := -(2 ^ (w - 1))
  let c := if v > hi then hi else if v < lo then lo else v
  (if c < 0 then c + 2 ^ w else c).toNat

/-- A field of `w` bits read as a two's complement integer. -/
def toSigned (w : Nat) (v : Nat) : Int :=
  if v < 2 ^ (w - 1) then (v : Int) else (v : Int) - 2 ^ w

/-- The bytes of a word, high byte first (R115). -/
def wordBytes (w : Word) : List Byte :=
  [BitVec.ofNat 8 (w.toNat >>> 24), BitVec.ofNat 8 (w.toNat >>> 16),
   BitVec.ofNat 8 (w.toNat >>> 8), BitVec.ofNat 8 w.toNat]

/-- The big-endian bytes of a number, `n` of them. -/
def natBytes : Nat → Nat → List Byte
  | 0, _ => []
  | n + 1, v => BitVec.ofNat 8 (v >>> (8 * n)) :: natBytes n v

/-- The number that a list of bytes spells, high byte first. -/
def bytesNat (l : List Byte) : Nat := l.foldl (fun a b => a * 256 + b.toNat) 0

/-- Element `i` of a list changed by `f`; a list too short is unchanged. -/
def updAt {α : Type} (l : List α) (i : Nat) (f : α → α) : List α := l.modify i f

/-- The numbers below `n` at which a predicate holds, as a 32-bit map. -/
def mapBits (n : Nat) (p : Nat → Bool) : Word :=
  BitVec.ofNat 32 ((List.range n).foldl (fun a k => if p k then a + 2 ^ k else a) 0)

/-- The number of set bits of a bit vector. -/
def popCount {w : Nat} (v : BitVec w) : Nat :=
  (List.range w).foldl (fun a k => if v.getLsbD k then a + 1 else a) 0

end Sys2Proof
end

