-- ==== Sys2Proof/Syntax.lean ====
section
/-! DEFINITION. The commands of the block: one constructor of `Instr` for every row of spec/opcode_table.json, in
the table's order, with the operands that the outside world supplies (frames, pin levels, conversions, words of the
ring, radio frames). Every operand is plain data. -/

namespace Sys2Proof

/-- The two safety channels (01_architecture, "Two technologies"). -/
inductive Chan | a | b deriving DecidableEq, Repr

/-- The two Ibeel ports (R298). -/
inductive Port | l | u deriving DecidableEq, Repr

/-- The two streams of the ring (R298). -/
inductive Stream | out | back deriving DecidableEq, Repr

/-- Header, CRC and timing of one host frame (R112, R115, R117). The reserved header bits are operands, because
R120 judges them; `us` is the time of the last CRC bit after the boundary of the slot, in µs; `handled` says that link service
handles a transaction of address 1 at once (R43). -/
structure HostHdr where
  /-- SPI mode 3 detected at the falling edge of CS_N (R112). -/
  mode3 : Bool
  /-- µs since the last slot boundary, 0 to 124. -/
  us : BitVec 7
  rsvTag : BitVec 2
  tag : BitVec 6
  rsvAddr : BitVec 2
  addr : BitVec 6
  reg : BitVec 16
  len : BitVec 8
  crc : BitVec 16
  handled : Bool
  deriving DecidableEq, Repr

/-- One received word of the ring: its type, its payload, and whether a bit time lacked a mid-bit transition (R302). -/
structure LinkWord where
  ty : BitVec 4
  payload : Word
  violation : Bool
  deriving DecidableEq, Repr

/-- Bits of one 72-bit storage word that flipped since the word was last written (R465): bits [63:0] the data bits,
bits [71:64] the check bits. -/
structure Upset where
  word : Nat
  flips : BitVec 72
  deriving DecidableEq, Repr

/-- One sub-sample: µV (cells), 100 µV (stack) or 40 nV (shunt), and its overload mark (R153): 1 positive,
-1 negative, 0 none. -/
structure Sub where
  v : Int
  ovl : Int
  deriving DecidableEq, Repr

/-- What the converters and pins show in a slot: the conversions of the slot that begins, and the levels sampled at
its boundary (R24, R16, R195, R216, R413, ACK_N of 03_modes_startup). -/
structure SlotIn where
  /-- Number of the slot that begins. -/
  slot : Fin 8
  /-- Sub-samples of cells 1 to 32. -/
  cells : List Sub
  stack : Sub
  shunt : Sub
  /-- Point sample of the shunt, in the slot that holds the capture instant (R189). -/
  point : Sub
  /-- ISP or ISN beyond a threshold of its window comparator at this boundary (R195). -/
  ispOut : Bool
  /-- Levels read back on PCA, PCB, PDA, PDB, bits 3 to 0 as `SAFE.PERMIT.RB`. -/
  permitRb : BitVec 4
  tpaRb : Bool
  tpbRb : Bool
  /-- Samples of the four SI pins at this boundary, bits 3 to 0 as `SIO.IN.RAW` (R414, R427). -/
  si : BitVec 4
  /-- ACK_N level at this slot's sample. -/
  ackN : Bool
  /-- Bleed switches in current limit, bit n - 1 for cell n (R216). -/
  ilim : Word
  /-- Switch current of the cell under BST, µA (R245). -/
  bstCurrent : Nat
  /-- VREG in mV, and the buck in its switch current limit (R480). -/
  vreg : BitVec 13
  buckLimit : Bool
  /-- Ratio codes of TS(2n) and TS(2n + 1) (R274). -/
  tsEven : BitVec 16
  tsOdd : BitVec 16
  /-- Ratio code of the half-VTREF tap, converted in slot 7 (R252, R274). -/
  tap : BitVec 16
  deriving DecidableEq, Repr

/-- One copy of the collector's state (R434, R440): enable bits, dynamic and latched bits, assigned and effective levels,
escalation steps, counters, and INJ and REAL bits of the 128 sources. -/
structure ColCopy where
  en : BitVec 128
  dyn : BitVec 128
  lat : BitVec 128
  inj : BitVec 128
  real : BitVec 128
  lvl : List (BitVec 2)
  eff : List (BitVec 2)
  steps : List Nat
  cnt : List (BitVec 8)
  deriving DecidableEq, Repr

/-- What the HWSL's copies of R17 hold at a boundary: the safety state (coded as `SAFE.STATE`), the collector's state, the
words of the sealed set in the order of R419, and whether a word of either collector copy fails its parity (R440). -/
structure CopyB where
  safety : BitVec 2
  col : ColCopy
  sealSet : List Word
  parityErr : Bool
  deriving DecidableEq, Repr

/-- What the factory port does in FACTORY (R458, R465, R538): it commands the state of the recorder engine (coded as
`REC.STAT.STATE`), or accesses a storage word of the bobbin: a read, a write of the whole word, or one of the bytes that a mask
names (bit 7 the byte at the lowest address). -/
inductive PortOp
  | engine (st : Fin 4)
  | read (word : Nat)
  | write (word : Nat) (data : BitVec 64)
  | masked (word : Nat) (mask : BitVec 8) (data : BitVec 64)
  deriving DecidableEq, Repr

/-- What the part finds at a stitch boundary about the stitch that ends (R17, R18, R38, R283, R324, R319). -/
structure BoundaryIn where
  /-- SOSC periods counted across the stitch that ends (R18). -/
  sosc : BitVec 16
  /-- Busy time of the core in the stitch that ends, per mille (R38). -/
  load : BitVec 10
  /-- Counts of RO0 to RO7 over 500 µs of MOSC in the stitch that ends (R283; log 51). -/
  dies : List Nat
  /-- Closure STARTs that returned to the head in the stitch that ends, with their loop delays in ns (R324). -/
  closeOut : Option (BitVec 16)
  closeBack : Option (BitVec 16)
  /-- The HWSL's copies of R17, once the stitch that ends has been evaluated; none: they equal the core's, and no parity
  fails (log 67). -/
  copyB : Option CopyB
  /-- The payload of the IDLE words that the port received from word 0 to the guard of the stitch that ends; none where another
  word came (R303, R323). -/
  readyL : Option Word
  readyU : Option Word
  /-- Word errors of each port in the stitch that ends in words that no command carried (R302). -/
  werrL : BitVec 8
  werrU : BitVec 8
  /-- Buck input current of the last window, µA (R159). -/
  iin : BitVec 16
  /-- VBAK in mV and charger current in 10 µA (`KA.VBAK`). -/
  vbak : BitVec 12
  ichg : BitVec 12
  /-- Comparisons of the latched trim targets with OTP that find a difference (R263): 0, 1 or 2. -/
  trimDiff : Fin 3
  /-- What the factory port did in the stitch that ends, in its order; nothing outside FACTORY (R465; log 41). -/
  factory : List PortOp := []
  deriving DecidableEq, Repr

/-- How the core met a word of its SRAM (R442, R538). -/
inductive CoreAccess | read | write | masked deriving DecidableEq, Repr

/-- R442: the ACCESS code. -/
def CoreAccess.code : CoreAccess → Nat
  | .read => 1 | .write => 2 | .masked => 3

/-- What the memory patrols and the core's own accesses met by the end of the safety task (R252, R244, R471, R538). -/
structure TaskIn where
  /-- Completion of the task, µs after the boundary. -/
  doneUs : BitVec 10
  /-- ROM byte address of a parity error found by the patrol. -/
  romErr : Option Nat
  /-- SRAM words corrected by the patrol, and byte addresses of uncorrectable ones. -/
  sramCe : List Nat
  sramUe : List Nat
  /-- ROM byte address of a parity error that a core fetch met; SRAM byte addresses that core accesses met corrected and
  uncorrectable. -/
  romFetch : Option Nat
  coreCe : List (Nat × CoreAccess)
  coreUe : List (Nat × CoreAccess)
  deriving DecidableEq, Repr

/-- The situations of R125 at the completion bound. -/
inductive BoundCase | notServed | noPath | noReply | seqLost deriving DecidableEq, Repr

/-- What a breath check converts in its 8 stitches (R24, R274, R283, R493): the coarse codes of cells 1 to 32 in the 64 slots,
the ratio codes of TS0 to TS15, and the counts of RO0 to RO7. -/
structure BreathIn where
  /-- Per cell, slot by slot. -/
  coarse : List (List (BitVec 12))
  /-- Per thermistor, stitch by stitch. -/
  ts : List (List (BitVec 16))
  /-- Per stitch, the eight counts. -/
  dies : List (List Nat)
  deriving DecidableEq, Repr

/-- The commands, in the order of spec/opcode_table.json. -/
inductive Instr
  | rd (h : HostHdr)
  | wr (h : HostHdr) (words : List Word)
  | mwr (h : HostHdr) (mask value : Word)
  | snap (h : HostHdr) (stitchWord : Word)
  | snrd (h : HostHdr) (snapWord : Word)
  | bulk (h : HostHdr) (offset : Word) (ups : List Upset)
  | next (h : HostHdr)
  | fetch (h : HostHdr)
  | refetch (h : HostHdr)
  | frameAbort
  | registerWrite (addr : BitVec 16) (v : Word)
  /-- `handled`: link service runs at once (R43). -/
  | commandFrameReceive (stream : Stream) (us : BitVec 7) (words : List LinkWord) (ups : List Upset) (handled : Bool)
  | replyFrameReceive (port : Port) (words : List LinkWord)
  | transactionRetry (tag : BitVec 6)
  | linkServiceBusy (words : List LinkWord)
  | transactionBoundExpiry (tag : BitVec 6) (c : BoundCase)
  | unreservedFrameExpiry (tag : BitVec 6)
  | broadcastApply
  | snapshotCapture
  | modeReq (v : Word) (bcast : Bool)
  | modeChange
  | memberRunAdmit (addr : BitVec 6)
  | roleCfgWrite (v : Word)
  | kaCfgWrite (v : Word)
  | stackPowerUp
  | stackPowerDown
  | vregQualified
  | coreRelease
  | headListenEnd
  | startPassComplete
  | rstLow (lowNs : Nat) (taken : Bool)
  | rstRelease (ms : Word)
  | ackNPulse
  | ackStuck
  | ackRearm
  | hostAck (v : Word)
  | ackApply
  | unlock (v : Word)
  | csnWake (lowUs : Nat)
  | stitchBoundary (i : BoundaryIn)
  | slotBoundary (i : SlotIn)
  | coarseSample (sar : Fin 4) (conv : Fin 9) (code : BitVec 12)
  | mwResultComplete
  | safetyTask (i : TaskIn)
  | deadlineCheck
  | coreReset
  /-- `served`: link service ran after it (R43). -/
  | postProcessing (served : Bool)
  | ppOverrun
  | shedResume
  | xdis (cell : Fin 32)
  | sumMismatch
  | harnessMismatch
  | syncEdge (t25 : Nat) (rising : Bool) (pulseNs : Nat)
  | syncLost (t25 : Nat)
  | fallback
  | isnsLost
  | iauxLost
  | iDisagree
  | balTimerWrite (k : Fin 16) (v : Word)
  | balTimerDecrement (cell : Fin 32)
  | rotationPoint
  | balVmin (cell : Fin 32)
  | owPause
  | unitDue
  | unitStart
  | diagPeriodStart
  | reqOw (scope : BitVec 3)
  | reqCtt (scope : BitVec 3)
  | reqPzt (scope : BitVec 3)
  | reqBst (scope : BitVec 3)
  | reqTrimVerify (scope : BitVec 3)
  | owEvaluate
  | unitComplete
  | fgLate
  | trimVerifyEnd (dacRead : List (Nat × Nat)) (chopMeans : List Int) (otpReadsGood : Bool)
  | calCmd (v : Word)
  | tsBroken
  | sltViolation (ch : Chan) (ts : Fin 16) (low : Bool)
  | thermalShutdown
  | thermalSdRecord
  | thermalRestart (heldMs : Word)
  | inhibitRelease (ch : Chan) (ovr : Bool)
  | sliLatch (ch : Chan) (dsg : Bool)
  | sdiLockout (ch : Chan)
  | degExpire
  /-- The 10 µs samples of the pin from the first one at the new level on, true for active; the last is that of `us`, µs
  after the boundary of the running stitch (R414). -/
  | siFilterEdge (ch : Chan) (input : Fin 2) (active : Bool) (us : BitVec 10) (samples : List Bool)
  | siSettled (ch : Chan)
  | testPoint (b : Bool) (levels : BitVec 4)
  | siDisc (input : Fin 2)
  | unsealCmd (v : Word)
  | sealConfirm (v : Word)
  | packConfirm (v : Word)
  | keyStage (k : Fin 4) (v : Word)
  | otpCmd (v : Word)
  | otpProgramStart
  | otpProgramComplete (good : Bool)
  | journalRecordWrite (good : Bool)
  | startReceive (port : Port) (payload : Word) (lateNs : Int)
  | startMissed
  | commandBurstReceive (stream : Stream) (words : List LinkWord)
  | summaryReceive (port : Port) (place : BitVec 6) (words : List LinkWord)
  | tripWordReceive (port : Port) (payload : Word)
  | threadMessageComplete (src : BitVec 6)
  | epochMismatch
  | carrierLoss (port : Port) (errs : Option (BitVec 8))
  | readyStart (port : Port)
  | unfold (port : Port)
  | wakeToneReceive (port : Port)
  | searchStart
  | searchReq (v : Word)
  | tackReceive (stream : Stream) (words : List LinkWord)
  | idRecordReceive (stream : Stream) (ofs : BitVec 9) (words : List LinkWord)
  | searchRestart
  | searchDecide
  | commitReceive (stream : Stream) (words : List LinkWord) (fwdNs loopNs : Int)
  | searchApply
  | mirrorCycleStart (noise : List Word) (txOk : Bool)
  | beaconReceive (endNs : Nat) (frame : List Byte) (rssi : BitVec 8)
  | beaconLost
  | mirrorSlotSend (txOk : Bool)
  | memberFrameReceive (slot : BitVec 6) (frame : List Byte) (rssi : BitVec 8)
  | mirrorJudge (addr : BitVec 6)
  | wakeSniff
  | wakeFrameReceive (us : BitVec 9) (frame : List Byte)
  | freeze (v : Word)
  | release (v : Word)
  | postComplete
  | recorderPatrol (ups : List Upset)
  | latchClear (addr : BitVec 16) (v : Word)
  | clrCnt (v : Word)
  | ferClear (v : Word)
  | pevPop (v : Word)
  | inject (v : Word)
  | injectionEnd
  | eventRecordReceive (port : Port) (words : List LinkWord)
  | packRecordClose
  | handOver
  | handBack
  | railFault (rail : Fin 3)
  | railFaultRecover
  | buckFault
  | xtalFail
  | chargerCv (vbak : Nat)
  | chargerFull (ichg : Nat)
  | chargerRecharge (vbak : Nat)
  | bakOv (vbak : Nat)
  | bakOvRestart (vbak : Nat) (belowMs sinceRestartMs : Nat)
  | bakAbsent (vbak riseMv : Nat)
  | presenceProbe (vbak riseMv : Nat)
  | retentionBreak (vka : Nat)
  | kaContentLoss (vka : Nat)
  | breathCheck (i : BreathIn)
  | wakeClr (v : Word)
  | factoryLockClose
  | carrierGain (port : Port)
  | seqLost
  | unknownOpcode (op : BitVec 8) (h : HostHdr)
  deriving DecidableEq, Repr

end Sys2Proof
end

