-- ==== Sys2Proof/Config.lean ====
section
/-! DEFINITION. Config: what the spec leaves to the part (ROM contents) and the free values: constants without a
body, of which nothing can be proved but what holds for every value. Each has a log entry. -/

namespace Sys2Proof.Config

/-- `SYS.FW_ID`: "From ROM" (R110); the spec gives no number. Log 20. -/
opaque fwId : Word

/-- The encoding of the HWSL thresholds in words W22 to W29 of a SAFETY generation (R502, R281): the spec names
them and gives no encoding. Word index, then the twenty words W1 to W20. Log 21. -/
opaque hwslThresholdWord : Nat → List Word → Word

/-- Result of a SECDED check of a word with three or more wrong bits (R465: "may be detected or miscorrected"):
`none` detected, `some d` the data delivered. Argument: storage word, the stored data, the flipped bits. Log 22. -/
opaque manyBitOutcome : Nat → BitVec 64 → BitVec 72 → Option (BitVec 64)

/-- Whether an MW average that holds overloads of both polarities saturates to the positive end (R153 gives each
polarity its end and no rule for both). Argument: the marks of the sub-samples. Log 24. -/
opaque mixedOverload : List Int → Bool

/-- The temperature, in 0.25 °C, to which a ring oscillator's characteristic maps its count over 500 µs (R283): the spec gives
neither the format of the characteristic nor the map. Arguments: the word of the oscillator in the TRIM generation that step 4
selected, none when it selected none, and the count. Log 51. -/
opaque roTemp : Option Word → Nat → Int

/-- A value the spec leaves open, drawn with the free counter of the state (log 23). -/
opaque freeWord : Nat → Word

end Sys2Proof.Config
end

