-- ==== Sys2Proof/Machine/State.lean ====
section
/-! DEFINITION. The state of one ALM3240: every register, counter, queue, memory, pin and latch the spec gives the
device, as plain data, and the queue of waiting commands. Defaults are the values after reset; where the spec gives
none, zero, false or empty (log 2). Register words that hold RW and RWS fields live in `Cfg`, twice: as written and as
in force (R29, R30). -/

namespace Sys2Proof.Machine

/-- R78: the modes; codes 5 and 6 are reserved. -/
inductive Mode | ship | sleep | standby | commission | run | factory deriving DecidableEq, Repr

/-- R86: the safety states. -/
inductive Safety | normal | degraded | tripped | lockout deriving DecidableEq, Repr

/-- R87: the link states. -/
inductive LinkState | intact | folded | split deriving DecidableEq, Repr

/-- R88: the roles. -/
inductive Role | head | member | tail deriving DecidableEq, Repr

/-- R97, R102, R105, R290, R481, R490: where the part stands between an unpowered stack and a running core. -/
inductive Phase
  /-- VSTK below its thresholds. -/
  | unpowered
  /-- Steps 1 to 3 of R97: soft-start and VREG qualification. -/
  | softStart
  /-- Steps 4 to 6 of R97 done: OTP read, HWSL armed, memories filled; the core waits for release. -/
  | filled
  /-- The core runs. -/
  | coreOn
  /-- The HWSL has reset the core (R36). -/
  | coreRestart
  /-- An accepted RST_N low lasts (R105). -/
  | resetHeld
  /-- A rail fault holds the part in reset (R481). -/
  | railHeld
  /-- The held reset of thermal shutdown (R290 step 4). -/
  | thermalHeld
  /-- VREG lost; the keep-alive domain runs alone (R490). -/
  | handedOver
  /-- SLEEP or SHIP. -/
  | lowPower
  deriving DecidableEq, Repr

/-- Registers with RW and RWS fields (R10), and FCOL.INJ and CAL.CMD (RWF). -/
inductive CReg
  | roleCfg | hostCfg | linkCfg | enumTsel | mirrCfg | mirrChA | mirrChB | mirrTol | mirrHsel
  | measMw | measFilt | measRoc | measXchk | measStk | syncCfg | syncRshunt | syncIauxCal | syncIcfg
  | impCfg | impVarThr | tempNtc | balCtrl | balCfg | balRb | diagCfg | calCmd
  | safeHarness | safeVov | safeVuv | safeVcfg | safeTlim | safeTcfg | safeIlim | safeItime | safeIdir | safeDeg
  | packMap | sioCfg | colEnS | colEnD | colEnC | colEnH
  | colLvl0 | colLvl1 | colLvl2 | colLvl3 | colLvl4 | colLvl5 | colLvl6 | colLvl7
  | colCfg | colSel | colInj | recCfg | recFselS | recFselD | recFselC | recFselH | eccCfg | eccRetSel
  | brCfg | brVwin | brTwin | kaCfg | jrnlSel
  deriving DecidableEq, Repr

/-- The words of the registers of `CReg`, in that order. Reset: the "no valid generation" values of the field
tables (R76, R110, R147, R179, R212, R214, R233, R255, R295, R327, R351, R376, R407, R427, R429, R451, R474, R476,
R497, R499, R519). -/
structure Cfg where
  words : List Word :=
    [0, 1, 1, 2, 0x14, 0x120D0702, 0x25211C17, 0x03140014, 2,
     3, 4, 500, 15, 15, 0, 50000, 0x09C40640, 0xF5050140,
     8, 400, 3435, 0, 0x007807D0, 150, 0x190A0003, 0,
     0xFFFF0020, 0x10CC1068, 0x09C40AF0, 0x00460032, 0x17700000, 30, 0x01F403E8, 200, 10, 0x012C0000,
     0, 0x00320003, 0x01FFFFFF, 0x001FFFFF, 0x0007FFFF, 0x7FFFFFFF,
     0xFFAFAFFF, 0x0003EAFB, 0xAAE99A19, 0x0000019A, 0x966A1525, 0x00000022, 0x57365114, 0x15666627,
     0, 0, 0, 0x60, 0, 0, 0, 0, 4, 0,
     0x0001000A, 0x109A0A8C, 0x157CF448, 0x012C0200, 0]
  deriving DecidableEq, Repr

/-- One reply of a transaction (R119). -/
structure Reply where
  op : Nat := 0
  tag : BitVec 6 := 0
  addr : BitVec 6 := 0
  status : Nat := 0
  uncert : Bool := false
  noreach : Bool := false
  retried : Bool := false
  alt : Bool := false
  stitch : BitVec 16 := 0
  snap : BitVec 16 := 0
  data : List Word := []
  deriving DecidableEq, Repr

/-- One transaction in flight at the head (R121 to R125, R348). -/
structure Trans where
  tag : BitVec 6 := 0
  op : Nat := 0
  addr : BitVec 6 := 0
  reg : BitVec 16 := 0
  len : Nat := 0
  data : List Word := []
  /-- R123 -/
  seq : BitVec 8 := 0
  /-- Whole stitches of pack time at acceptance, and pack time then (R309). -/
  accepted : Nat := 0
  pt : BitVec 64 := 0
  /-- Named stitch of a broadcast (R128), and the whole stitches of pack time it falls on. -/
  named : BitVec 16 := 0
  namedAt : Nat := 0
  snap : BitVec 16 := 0
  /-- Sent at least once, first in this stitch of pack time (R125). -/
  sent : Bool := false
  sentAt : Nat := 0
  /-- To be sent again in the next stitch, with the RETRY flag where it was sent before (R124). -/
  again : Bool := false
  retried : Bool := false
  /-- Bit k: device k applied the broadcast (R130). -/
  applied : BitVec 64 := 0
  /-- Devices that refused, with their codes (R130). -/
  refused : List (BitVec 6 × Nat) := []
  /-- Its reply, while an earlier transaction to the same device is in flight (R122). -/
  reply : Option Reply := none
  deriving DecidableEq, Repr

/-- One host tag (R121). -/
structure Tag where
  busy : Bool := false
  done : Bool := false
  reply : Option Reply := none
  /-- Reply last delivered, kept for REFETCH. -/
  last : Option Reply := none
  deriving DecidableEq, Repr

/-- A broadcast received and not yet at its named boundary (R129); kind: a write, a snapshot or the pack acknowledge. -/
structure Bcast where
  stitch : BitVec 16 := 0
  tag : BitVec 6 := 0
  /-- SEQ of its frame, which its answer carries (R308, log 63). -/
  seq : BitVec 8 := 0
  /-- The first register, and the words of it (R129). -/
  reg : BitVec 16 := 0
  data : List Word := []
  /-- A wake event has come since its acceptance: a SLEEP request in it is cancelled (R85). -/
  woken : Bool := false
  deriving DecidableEq, Repr

/-- What the answers to a broadcast of the head carry: opcode, TAG, SEQ and the named stitch (R308, R130). -/
structure BcastKey where
  op : Nat := 0
  tag : BitVec 6 := 0
  seq : BitVec 8 := 0
  named : BitVec 16 := 0
  /-- The named stitch in whole stitches of pack time. -/
  namedAt : Nat := 0
  deriving DecidableEq, Repr

/-- A snapshot requested or held (R131 to R133). -/
structure Snap where
  num : BitVec 16 := 0
  stitch : BitVec 16 := 0
  /-- The capture instant has passed. -/
  captured : Bool := false
  /-- The capture stitch has ended and the words are held; XDIS of that stitch is still being judged (R31, R165). -/
  held : Bool := false
  judging : Bool := false
  cells : List Word := []
  vstk : Word := 0
  isns : Word := 0
  isnsPt : Word := 0
  iaux : Word := 0
  ts : List Word := []
  deriving DecidableEq, Repr

/-- One port of the ring (R319 to R323, `LINK.PORTx`). -/
structure PortSt where
  /-- `LINK.PORTx.CARRIER`, R319. -/
  carrier : Bool := false
  /-- `LINK.PORTx.CLEAN`, saturates at 255. -/
  clean : Nat := 0
  /-- `LINK.PORTx.WERR`, RC, saturates at 255. -/
  werr : Nat := 0
  /-- `LINK.PORTx.READY_RX` and `READY_TX`, R323. -/
  readyRx : Bool := false
  readyTx : Bool := false
  /-- READY sent throughout the last stitch, R323. -/
  readySent : Bool := false
  /-- `LINK.PORTx.FOLDED`, R320. -/
  folded : Bool := false
  /-- A carrier change since the port last unfolded or started, R335. -/
  changed : Bool := false
  /-- A START arrived on the port in this stitch (R87), and at the head its time from the reference edge, at a member its
  phase error, ns (R339, R317). -/
  start : Bool := false
  startNs : Int := 0
  /-- Carrier was absent in part of this stitch, R323. -/
  gap : Bool := true
  /-- Whole stitches in a row with carrier and without a word error, R323; saturates at 255. -/
  cleanRun : Nat := 0
  /-- Word errors of this stitch in the words that commands carried, R302. -/
  errNow : Nat := 0
  /-- The filler word that the port sends: IDLE, or READY (R303, R323). -/
  idle : LinkWord := ⟨0, 0, false⟩
  /-- The START of this stitch on the port belongs to a later pass of its stream (R311, R321). -/
  later : Bool := false
  deriving DecidableEq, Repr

/-- One word as a port sends it: a START or TRIP code with its payload, or a typed word (R302, R305). -/
inductive Sym | start (payload : Word) | trip (payload : Word) | word (w : LinkWord) deriving DecidableEq, Repr

/-- A TRIP word inserted on a port (R315): the stitch and the word position whose word it replaces. -/
structure TripTx where
  port : Port := .l
  stitch : BitVec 16 := 0
  pos : Nat := 0
  payload : Word := 0
  deriving DecidableEq, Repr

/-- One direction of the thread (R317, R318): the bits of the message of this period, how many have arrived, and the
message of the period that ended with whether all its bits arrived, until it is judged. -/
structure ThreadRx where
  acc : BitVec 128 := 0
  got : Nat := 0
  ended : Option (BitVec 128 × Bool) := none
  deriving DecidableEq, Repr

/-- One accepted copy of a member's summary (R310, R358). -/
structure Copy where
  addr : BitVec 6 := 0
  safety : Safety := .normal
  tripA : BitVec 8 := 0
  tripB : BitVec 8 := 0
  coreRestart : Bool := false
  thread : Bool := false
  req : Nat := 0
  vmin : Nat := 0xFFF0
  vmax : Nat := 0xFFF0
  imin : Nat := 0
  imax : Nat := 0
  link : LinkState := .intact
  xdis : Bool := false
  ilost : Bool := false
  deg : Bool := false
  evt : Bool := false
  tmax : BitVec 16 := 0
  /-- SEAL_LO of a radio copy (R358). -/
  sealLo : BitVec 16 := 0
  /-- Stitch of the copy. -/
  stitch : BitVec 16 := 0
  deriving DecidableEq, Repr

/-- What the head keeps of one address: its copies, its thread message and its mirror judgement (R312, R317, R363). -/
structure Member where
  /-- The wired copy of this stitch so far (R312), and the latest accepted wired and radio copies. -/
  now : Option Copy := none
  wired : Option Copy := none
  /-- Whole stitches of pack time of the latest wired copy. -/
  wiredAt : Nat := 0
  /-- The head's ports on which a copy arrived in this stitch, L then U, and in the one before (R313). -/
  onL : Bool := false
  onU : Bool := false
  wasL : Bool := false
  wasU : Bool := false
  radio : Option Copy := none
  /-- The radio copy of the slot of this cycle (R363). -/
  slotCopy : Option Copy := none
  /-- Last valid upstream thread message, invalid ones in a row, and the one that arrives (R318). -/
  thread : Option (BitVec 128) := none
  badThreads : Nat := 0
  threadRx : ThreadRx := {}
  /-- Class of the last judged cycle (0 AGREE to 4 BOTH_ABSENT), R363. -/
  cls : Nat := 4
  /-- Consecutive non-AGREE, BOTH_ABSENT and AGREE cycles, R365, R366. -/
  nonAgree : Nat := 0
  both : Nat := 0
  agree : Nat := 0
  /-- Mirror fault stands (R365), and the class of the last non-AGREE cycle (R375). -/
  fault : Bool := false
  lastBad : Nat := 0
  /-- RSSI of the last accepted frame, 0x80 when none. -/
  rssi : BitVec 8 := 0x80
  /-- The last cycle judged (R363); none before the first. -/
  judged : Option Nat := none
  /-- RSEQ of the last event record frame (R444). -/
  rseq : Option (BitVec 8) := none
  /-- The head's sequence counter for the address (R344). -/
  seqOut : BitVec 8 := 0
  /-- What its container has brought back in this stitch: 0 nothing, 1 EMP words, 2 a summary or broken words; and whether
  it came back empty the last time that it showed the one or the other (R344, log 65). -/
  box : Nat := 0
  at63 : Bool := false
  deriving DecidableEq, Repr

/-- HEADSTATE as received (R307). -/
structure HeadState where
  mode : Nat := 0
  safety : Nat := 0
  chg : Bool := false
  dsg : Bool := false
  cont : Nat := 0
  link : Nat := 0
  /-- HEADSTATE[24], the downstream thread bit (R317). -/
  thread : Bool := false
  /-- Stitch of the burst; whole stitches of this device's pack time at its arrival. -/
  stitch : BitVec 16 := 0
  at_ : Option Nat := none
  deriving DecidableEq, Repr

/-- One device of the map in force at the head (R329 to R333, R338). -/
structure MapEnt where
  addr : BitVec 6 := 0
  uid : BitVec 64 := 0
  mapRef : Word := 0
  caddr : BitVec 6 := 0
  /-- Its path delays, ns, 0xFFFF where its index leaves them unmeasured: they place its serving stream (R330, log 45). -/
  dOut : Nat := 0xFFFF
  dBack : Nat := 0xFFFF
  deriving DecidableEq, Repr

/-- One ID record received in a search (R338). -/
structure IdRec where
  stream : Stream := .out
  index : BitVec 6 := 0
  uid : BitVec 64 := 0
  mapRef : Word := 0
  caddr : BitVec 6 := 0
  deriving DecidableEq, Repr

/-- A COMMIT received or sent (R336). -/
structure Commit where
  search : BitVec 16 := 0
  applyAt : BitVec 16 := 0
  closed : Bool := false
  nOut : BitVec 6 := 0
  nBack : BitVec 6 := 0
  h : BitVec 6 := 0
  lOut : Nat := 0
  lBack : Nat := 0
  epoch : Word := 0
  set : BitVec 64 := 0
  /-- Path delays the member computed (R339); 0xFFFF when not measured. -/
  dOut : Nat := 0xFFFF
  dBack : Nat := 0xFFFF
  deriving DecidableEq, Repr

/-- One cell of the primary path: published state, filter and check persistence (R161 to R175). -/
structure Cell where
  stale : Bool := true
  hist : Bool := true
  oor : Bool := false
  xdis : Bool := false
  /-- XDIS of the published word (R164). -/
  xd : Bool := false
  /-- Published VALUE, µV. -/
  value : Int := 0
  /-- Published compressed code (R162). -/
  code : Nat := 0xFFF0
  /-- IIR state, 1/256 µV (R166). -/
  y : Int := 0
  /-- A value has been published since the stream started (R164). -/
  started : Bool := false
  /-- The next publication primes the filter (R167, R170). -/
  prime : Bool := true
  /-- Stitches since v0 (R103); none before v0. -/
  age : Option Nat := none
  /-- Age at which HIST clears (R103, R170). -/
  histAt : Nat := 0
  /-- Consecutive unpublished stitches (R168). -/
  unpub : Nat := 0
  /-- Consecutive evaluated disagreements, and evaluated stitches without one (R172, R173). -/
  dis : Nat := 0
  noDis : Nat := 0
  /-- MW averages of the last 8 stitches, newest first; none where unpublished or out of range (R175). -/
  past : List (Option Int) := []
  deriving DecidableEq, Repr

/-- One MW average (R151): µV, its overload mark (R153). -/
structure Avg where
  v : Int := 0
  ovl : Int := 0
  deriving DecidableEq, Repr

/-- The results of one stitch's measurement window (R27): averages of cells, stack and shunt, and the sum and number
of the cross-check samples of each cell (R157) and of the IAUX codes (R199). -/
structure MwRes where
  cells : List (Option Avg) := List.replicate 32 none
  stack : Option Avg := none
  shunt : Option Avg := none
  coarse : List (Nat × Nat) := List.replicate 32 (0, 0)
  iaux : Nat × Nat := (0, 0)
  deriving DecidableEq, Repr

/-- Channel B's runs of accepted samples of one cell beyond each threshold (R380). -/
structure CellRun where
  ov : Nat := 0
  uv : Nat := 0
  ovc : Nat := 0
  uvc : Nat := 0
  deriving DecidableEq, Repr

/-- One thermistor input: published result and persistence (R277, R278, R282). -/
structure Ts where
  q : Nat := 0
  t : Int := 0
  stale : Bool := true
  broken : Bool := false
  clamp : Bool := false
  path : Bool := false
  /-- Stitches broken, and not broken, in a row (R278). -/
  brk : Nat := 0
  ok : Nat := 0
  /-- `TEMP.BROKEN` bit (R278). -/
  isBroken : Bool := false
  /-- Stitches in violation in a row, channels A and B, over-temperature and low-charge (R282). -/
  ovA : Nat := 0
  ovB : Nat := 0
  loA : Nat := 0
  loB : Nat := 0
  deriving DecidableEq, Repr

/-- The inhibits and trip conditions that stand on one channel (R379, `SAFE.TRIP`), and its counts. -/
structure ChanSt where
  ov : Bool := false
  uv : Bool := false
  lowChg : Bool := false
  crit : Bool := false
  slt : Bool := false
  sliChg : Bool := false
  sliDsg : Bool := false
  sdi : Bool := false
  ssi : Bool := false
  other : Bool := false
  /-- Consecutive stitches on the safe side by HYST (R380), and of inputs back for the low-charge release (R383). -/
  ovRel : Nat := 0
  uvRel : Nat := 0
  loRel : Nat := 0
  /-- SLI: slots or stitches beyond the limit (R385), and counts of current against a removed direction (R386). -/
  sliRunChg : Nat := 0
  sliRunDsg : Nat := 0
  sdiRun : Nat := 0
  /-- The current of the last evaluated stitch lay beyond the charge limit, the discharge limit (R395); and for channel B, of
  the slots of the running stitch, once one was evaluated. -/
  outChg : Bool := false
  outDsg : Bool := false
  outNow : Option (Bool × Bool) := none
  /-- An over-temperature trip of this channel awaits its acknowledge, and every input lay at or below TOV − THYST, none broken,
  when the inputs were last evaluated (R383). -/
  sltOwed : Bool := false
  sltBack : Bool := true
  /-- A cell was on the unsafe side of its release threshold in this stitch (R380). -/
  ovUnsafe : Bool := false
  uvUnsafe : Bool := false
  deriving DecidableEq, Repr

/-- An acknowledge waiting for its boundary (R395, R396, R418). -/
structure AckReq where
  /-- Whole stitches of pack time at whose boundary it is judged; none: at the next one. -/
  stitch : Option Nat := none
  viaPin : Bool := false
  pack : Bool := false
  deriving DecidableEq, Repr

/-- One safety input (`SIO.STAT.INx`, R410 to R417): filtered levels and the checks of the input. -/
structure Si where
  filtA : Bool := false
  filtB : Bool := false
  cnt : Nat := 0
  disc : Bool := false
  rst : Nat := 0
  unusedErr : Bool := false
  pulseA : Bool := false
  pulseB : Bool := false
  /-- Consecutive failures and passes at the points of TPA and of TPB (R410, R412). -/
  failA : Nat := 0
  failB : Nat := 0
  passA : Nat := 0
  passB : Nat := 0
  /-- The input was in use when the counts of failures last went on (R412). -/
  wasUse : Bool := false
  /-- The filtered level has been active since the channel began to evaluate (R540). -/
  seenA : Bool := false
  seenB : Bool := false
  /-- The disagreement count has just reached DISC_TIME + 1 (R415). -/
  due : Bool := false
  deriving DecidableEq, Repr

/-- A foreground unit (R235): test code 1 to 4, group, who asked, counted stitches, and when it became due. -/
structure DUnit where
  test : Nat := 0
  group : Nat := 0
  host : Bool := false
  /-- Part of the start-up pass (R248). -/
  pass : Bool := false
  count : Nat := 0
  /-- Counted stitches completed (`DIAG.RUN.COUNT`, R255). -/
  counted : Nat := 0
  /-- The stitch in which the unit became due. -/
  dueAt : Nat := 0
  /-- This stitch counts (R237, R242, R245). -/
  counting : Bool := false
  /-- BST: the open state has been measured (R245). -/
  bstOpenDone : Bool := false
  bstOpenUa : Nat := 0
  /-- BST: the closed state is measured in this slot. -/
  bstClose : Bool := false
  /-- BST at `MEAS.MW` = 7: the counted stitch of the open state is done, that of the closed state is to come (R245). -/
  half : Bool := false
  /-- The cell of the step of this stitch (R242 to R245); none when the step is skipped. -/
  cell : Option Nat := none
  /-- The pause of R231 has been started for it. -/
  paused : Bool := false
  /-- Has raised FG_LATE (R247). -/
  late : Bool := false
  deriving DecidableEq, Repr

/-- A counted step of a foreground unit in the stitch that ended: what the safety task judges (R238, R244). -/
structure DStep where
  test : Nat := 0
  group : Nat := 0
  idx : Nat := 0
  cell : Option Nat := none
  host : Bool := false
  pass : Bool := false
  deriving DecidableEq, Repr

/-- One die sensor of a stitch: its reading, 0.25 °C, and whether its count was plausible (R284). -/
structure Die where
  quarter : Int := 0
  plausible : Bool := true
  deriving DecidableEq, Repr

/-- State of the trim selection and of a trim verification is in `CalSt`; this is one persistence count of a
background test (R252): stitches outside and inside, and whether it stands. -/
structure Persist where
  out : Nat := 0
  ok : Nat := 0
  stand : Bool := false
  deriving DecidableEq, Repr

/-- What the first-error record would hold of an occurrence (R442, R538). -/
structure FerCtx where
  kind : Nat := 0
  addr : Nat := 0
  master : Nat := 7
  access : Nat := 0
  tag : BitVec 6 := 0
  deriving DecidableEq, Repr

/-- The first-error record (R441). -/
structure Fer where
  ctx : FerCtx := {}
  source : Nat := 0
  pt : BitVec 64 := 0
  more : Bool := false
  deriving DecidableEq, Repr

/-- A device event record (R444). -/
structure DevRec where
  stitch : BitVec 16 := 0
  source : Nat := 0
  level : Nat := 0
  cells : Word := 0
  cnt : Nat := 0
  inj : Bool := false
  real : Bool := false
  common : Bool := false
  deriving DecidableEq, Repr

/-- A pack event record (R445). -/
structure PackRec where
  source : Nat := 0
  level : Nat := 0
  first : BitVec 16 := 0
  last : BitVec 16 := 0
  devs : BitVec 64 := 0
  cells : Word := 0
  nrec : Nat := 0
  inj : Bool := false
  real : Bool := false
  common : Bool := false
  rootTag : Bool := false
  root : Nat := 0x7F
  rootDev : BitVec 6 := 0
  dropped : Nat := 0
  deriving DecidableEq, Repr

/-- A journal record before it is numbered (R513). -/
structure JPend where
  code : Nat := 0
  mand : Bool := false
  pt : BitVec 64 := 0
  mode : Nat := 0
  safety : Nat := 0
  addr : BitVec 6 := 0
  role : Nat := 0
  source : Nat := 0x7F
  td : Nat := 0
  tmax : Nat := 0
  data0 : Word := 0
  data1 : Word := 0
  /-- Level that R41 and R447 grade it by. -/
  level : Nat := 2
  deriving DecidableEq, Repr

/-- An OTP request accepted, or a generation being programmed (R503, R539). -/
structure OtpJob where
  block : Nat := 0
  gen : Nat := 0
  words : List Word := []
  /-- Words programmed so far, and whole stitches of pack time at the start. -/
  done : Nat := 0
  start : Nat := 0
  /-- Programming stops after this many words (R290 step 2). -/
  stop : Option Nat := none
  deriving DecidableEq, Repr

/-! ### The units -/

/-- Modes, start-up, RST_N, ACK_N (03_modes_startup). -/
structure Sys where
  /-- R97: reset values stand after step 6 (00_scope, "Reset values"). -/
  phase : Phase := .filled
  /-- R78; none before the first boundary after release (R97). -/
  mode : Option Mode := none
  /-- Accepted change that awaits its boundary (R79, R81; MODE_PEND, MODE_NEXT), and whether that boundary has come. -/
  modeNext : Option Mode := none
  modeDue : Bool := false
  /-- Mode in force when a core restart began (R102: unchanged at its end). -/
  modeKept : Option Mode := none
  /-- A wake event was recognised in this stitch (R85). -/
  wakePend : Bool := false
  /-- R88, R110. -/
  role : Role := .member
  addr : BitVec 6 := 63
  roleConflict : Bool := false
  startCause : Nat := 0
  /-- R100, R110: stitches left in the start-up pass; pass running; its parts complete. -/
  passLeft : Nat := 64
  passRun : Bool := false
  rampDone : Bool := false
  owDone : Bool := false
  startDone : Bool := false
  recKept : Bool := false
  /-- R98: an accepted RST_N low began at step 1. -/
  rstAtStart : Bool := false
  rstLow : Bool := false
  /-- `SYS.RST_HOLD`, keep-alive. -/
  holdMs : Word := 0
  /-- ACK_N: debounced low, samples in a row at the other level, stitch boundaries passed at the debounced level (03,
  ACK_N; R7). -/
  ackLow : Bool := false
  ackRun : Nat := 0
  ackBounds : Nat := 0
  /-- A debounced low has ended and awaits its judgement: its duration in whole stitches (R107). -/
  ackEnded : Option Nat := none
  /-- ACK_N has not been sampled since core release (R109). -/
  ackInit : Bool := true
  ackCnt : Nat := 0
  ackStuck : Bool := false
  /-- `SYS.WAKE`, W1C. -/
  wake : BitVec 6 := 0
  /-- The factory lock is open (R54, R79); closed on shipped parts. -/
  lockOpen : Bool := false
  /-- VREG has been qualified in this start (R97 step 3), while RST_N holds the path (R98). -/
  vregOk : Bool := false
  /-- An RST_N low has ended during a hand-over: the start that follows has START_CAUSE 1 (R492). Its record, and those of
  further ones, wait until VREG is qualified: their durations, ms, oldest first. -/
  rstAfter : Bool := false
  rstMs : List Word := []
  /-- R101: 1 the listening time has ended, 2 the first stitch-start symbol goes out in this stitch. -/
  sendDue : Nat := 0
  /-- R89, R101: the head listens, from the pack time of its core release; it sends stitches. -/
  listen : Bool := false
  listenFrom : BitVec 64 := 0
  sending : Bool := false
  /-- R507: values kept in the keep-alive domain. -/
  headEnKept : Option Bool := none
  xtalKept : Option Bool := none
  /-- RESET_HELD, THERMAL_SD and STACK_LOST to latch at the next core release (R450). -/
  latchAtRelease : List Nat := []
  deriving DecidableEq, Repr

/-- Pack time and core load (01_architecture). -/
structure Time where
  /-- Pack time, µs (R21), and pack time at the last stitch boundary. -/
  pt : BitVec 64 := 0
  ptB : BitVec 64 := 0
  /-- R49. -/
  ptHi : Word := 0
  slot : Fin 8 := 0
  /-- The boundary has come and slot 0 has not begun: the steps of the boundary may still run. -/
  fresh : Bool := false
  /-- `TIME.SNAP`. -/
  snapNum : BitVec 16 := 0
  snapStitch : BitVec 16 := 0
  /-- The head's snapshot number, keep-alive (R48). -/
  snapCtr : BitVec 16 := 0
  /-- `TIME.SYNC_STAT` (R45, R46, R50). -/
  missed : Nat := 0
  radioSync : Bool := false
  flywheel : Bool := false
  locked : Bool := false
  /-- Consecutive flywheel stitches (R192). -/
  flyRun : Nat := 0
  /-- `TIME.HOP_DLY`, `TIME.STEP`, `TIME.LOAD`, `TIME.SAFE_T` (R50). -/
  hopDly : BitVec 16 := 0
  step : Word := 0
  loadLast : Nat := 0
  loadPeak : Nat := 0
  safeLast : Nat := 0
  safePeak : Nat := 0
  /-- Completion of the safety task of this stitch, µs after the boundary. -/
  safeNow : Option Nat := none
  /-- The instant of the latest command that carries one, ns after the stitch boundary (log 70). -/
  ns : Nat := 0
  /-- `TIME.SHED` (R50). -/
  shedCnt : Nat := 0
  /-- Tasks shed, in the order of R39: 1 statistics, 2 and the tracker, 3 and journal formatting. -/
  shed : Nat := 0
  /-- Stitches in a row at or below 700 per mille (R40). -/
  quiet : Nat := 0
  /-- `TIME.SOSC_CHK` (R18, R50). -/
  sosc : Nat := 0
  deriving DecidableEq, Repr

/-- Host port and tags (04_host_registers), head only. -/
structure HostSt where
  spiMode : Bool := false
  abort : Nat := 0
  refused : Nat := 0
  tagErr : Nat := 0
  crcErr : Nat := 0
  abandon : Nat := 0
  retry : Nat := 0
  cmplPeak : Nat := 0
  tags : List Tag := List.replicate 64 {}
  /-- Tags with a completed reply, oldest completion first (R122). -/
  doneQ : List (BitVec 6) := []
  /-- Transactions in flight, in order of acceptance. -/
  trans : List Trans := []
  /-- Abandoned frames that may not have been executed: sent again ahead of later ones to their device (R126, R346). -/
  ghosts : List Trans := []
  /-- The last 64 broadcasts that the head has sent, newest first: whose answers are no replies of another frame (R130). -/
  bcSent : List BcastKey := []
  /-- Last accept byte, the status bytes and the reply frame driven with it (R114, R118, R119). -/
  accept : Nat := 0
  status0 : Byte := 0
  status1 : Byte := 0
  sdo : List Byte := []
  /-- IRQ_N asserted (R146). -/
  irq : Bool := false
  deriving DecidableEq, Repr

/-- The device side of transactions: sequence store, replies, broadcasts, snapshots (R123, R129, R131, R346). -/
structure DevSt where
  seqValid : Bool := false
  seqExp : BitVec 8 := 0
  stored : List (BitVec 8 × Reply) := []
  /-- Reply frames ready for sending, oldest first (R313). -/
  ready : List (BitVec 8 × Reply) := []
  /-- Answers to broadcast writes whose named stitch has not ended (R308). -/
  answers : List (BitVec 8 × Reply) := []
  /-- Frames that link service has not handled, oldest first, with the whole stitches of their arrival (R43). -/
  inbox : List (Trans × Nat) := []
  /-- Accepted broadcasts that wait for their named boundary (R129, R131). -/
  bcasts : List Bcast := []
  /-- Snapshots requested and held, newest first (R133). -/
  snaps : List Snap := []
  deriving DecidableEq, Repr

/-- The Ibeel link (11_ibeel_link). -/
structure LinkSt where
  portL : PortSt := {}
  portU : PortSt := {}
  /-- `LINK.STAT.SERVE`: 0 none, 1 OUT, 2 BACK (R321). -/
  serve : Nat := 0
  cont : Nat := 0
  state : LinkState := .intact
  foldCnt : Nat := 0
  unfoldCnt : Nat := 0
  tokOrigin : BitVec 6 := 0
  tokCh : BitVec 2 := 0
  tokFlags : BitVec 8 := 0
  tokBad : Nat := 0
  tokRx : Nat := 0
  sumAbsent : Nat := 0
  sumCrc : Nat := 0
  /-- `LINK.THRD_ST.BADMSG`, the last valid downstream message, invalid messages in a row (R318). -/
  thrdBad : Nat := 0
  thrd : Option (BitVec 128) := none
  thrdInval : Nat := 0
  /-- The message this device sends in the present period (R317), and the downstream one that arrives (R318). -/
  thrdTx : BitVec 128 := 0
  thrdRx : ThreadRx := {}
  /-- Valid downstream messages in a row with an epoch other than the record (R345). -/
  epochBad : Nat := 0
  phaseNs : Int := 0
  startMiss : Nat := 0
  loopOut : BitVec 16 := 0
  loopBack : BitVec 16 := 0
  /-- `LINK.PG_STAT.RING_CLOSED`. -/
  ringClosed : Bool := false
  /-- The first START after a start of the part has arrived (R326). -/
  started : Bool := false
  /-- The serving START of this stitch: 0 not yet, 1 received, 2 missed (R46). -/
  startNow : Nat := 0
  /-- TRIP words inserted on the ports in this stitch and the one before (R315). -/
  tripTx : List TripTx := []
  /-- The two copies of the summary container of this stitch (R310, R311). -/
  sumOut : List LinkWord := []
  sumBack : List LinkWord := []
  /-- Head: START (R305), the fixed burst (R307), grants and command frames (R309) of this stitch, and the grants of the one before,
  whose last replies reach the head after its end. -/
  startTx : Word := 0
  burstTx : List LinkWord := []
  grantTx : List LinkWord := []
  grantWas : List LinkWord := []
  cmdTx : List LinkWord := []
  /-- Words that the commands of this stitch carried and that this member forwarded, with the port they left on (R298,
  R320). -/
  fwdTx : List (Port × Sym) := []
  /-- The payload of the last START received, and the stitch number in it less this device's own (R305). -/
  startRx : Word := 0
  stitchOfs : BitVec 16 := 0
  /-- The wake tone is sent on both ports (R325), and pack time until which further tones are ignored. -/
  toneTx : Bool := false
  toneUntil : BitVec 64 := 0
  /-- Last HEADSTATE received (R307). -/
  hs : HeadState := {}
  /-- TRIP-word hold: the stitch whose HEADSTATE ends it (R316). -/
  hold : Option (BitVec 16) := none
  /-- Grants received for this device in this stitch (R313): stream, offset, length. -/
  grants : List (Bool × Nat × Nat) := []
  /-- Words written into the granted reply space in this stitch (R311, R313): stream, offset, words. -/
  replyTx : List (Bool × Nat × List LinkWord) := []
  /-- A member admitted into RUN by the head in this stitch (R83). -/
  admitTx : Option (BitVec 6) := none
  /-- The head keeps copies, threads and judgements per address 0 to 63. -/
  members : List Member := List.replicate 64 {}
  deriving DecidableEq, Repr

/-- Tacking and the map (12_enumeration_recovery). -/
structure EnumSt where
  search : BitVec 16 := 0
  restarts : Nat := 0
  unstable : Bool := false
  held : Bool := false
  inForce : Bool := false
  /-- 0 idle, 1 tack, 2 identify and measure, 3 commit, 4 waiting to restart. -/
  phase : Nat := 0
  /-- Whole stitches of pack time at S. -/
  startAt : Nat := 0
  /-- S of the attempt before, whose ID records may still come (R338). -/
  startPrev : Option Nat := none
  /-- Quiet stitches counted after an abort; stitch until which triggers wait. -/
  quiet : Nat := 0
  waitUntil : Nat := 0
  aborted : Bool := false
  /-- A search is requested or triggered (R334). -/
  want : Bool := false
  reqPend : Bool := false
  closed : Bool := false
  nOut : BitVec 6 := 0
  nBack : BitVec 6 := 0
  h : BitVec 6 := 0
  /-- `ENUM.EPOCH`; keep-alive on the head. The keep-alive count starts at 1 (R345). -/
  epoch : Word := 0
  epochCtr : Word := 1
  mapChk : Word := 0
  map : List MapEnt := []
  lOut : Nat := 0
  lBack : Nat := 0
  /-- Loop delays seen in each stitch of the measure phase (R339, R341). -/
  lOuts : List (Option Nat) := []
  lBacks : List (Option Nat) := []
  /-- Both closure STARTs have arrived in every stitch of the measure phase so far (R336). -/
  closedAll : Bool := true
  /-- A requested search has reached its boundary (R351). -/
  reqDue : Bool := false
  /-- Devices of the safety set that a search applied in RUN did not find; they keep their addresses (R343). -/
  reserved : List MapEnt := []
  /-- Stitch S of the TACK seen (R335), and the ID record written in this stitch (R338). -/
  tackAt : BitVec 16 := 0
  /-- Stream, offset in the reply region, and words of the ID record. -/
  idTx : Option (Stream × Nat × List LinkWord) := none
  /-- Streams on which a TACK of the search has made its first pass: OUT, then BACK (R335). -/
  passOut : Bool := false
  passBack : Bool := false
  /-- Head: the TACK frames of the search that returned on each stream: final N and FULL; the COMMIT frames that
  returned for the one sent in the last stitch (R335, R336, R341). -/
  retOut : Option (BitVec 6) := none
  retBack : Option (BitVec 6) := none
  cmtOut : Bool := false
  cmtBack : Bool := false
  /-- Addresses of the map and of the safety set in force in the stitch before (R362). -/
  mapPrev : BitVec 64 := 0
  setPrev : BitVec 64 := 0
  /-- Head: addresses whose device changed or returned at the boundary that began this stitch (R344, R367). -/
  newHere : BitVec 64 := 0
  /-- Head: a TACK or COMMIT frame sent in this stitch (R335, R336). -/
  frameTx : List LinkWord := []
  dOut : BitVec 16 := 0xFFFF
  dBack : BitVec 16 := 0xFFFF
  idxOut : BitVec 6 := 0
  idxBack : BitVec 6 := 0
  place : Nat := 0
  /-- Indices taken in the search that runs (R335), and whether TACK of it was seen. -/
  tackOut : BitVec 6 := 0
  tackBack : BitVec 6 := 0
  tackSearch : Option (BitVec 16) := none
  /-- Arrivals of START on port L and on port U in the stitches of the measure phase, ns (R339). -/
  tL : List Int := []
  tU : List Int := []
  /-- The COMMIT that a member received, or that the head sends, in the search that runs (R336). -/
  commit : Option Commit := none
  /-- The last COMMIT sent or received (R351). -/
  cmt : Commit := {}
  /-- Head: the devices of the last map, and those kept vacant, that a core restart has taken (R102, R344). -/
  prior : List MapEnt := []
  ids : List IdRec := []
  set : BitVec 64 := 0
  foreign : BitVec 64 := 0
  /-- CLOSED as the member's own TACK words are rewritten (R335): the last TACK word sent on. -/
  tackTx : List LinkWord := []
  deriving DecidableEq, Repr

/-- The mirror radio (13_mirror_radio). -/
structure MirrSt where
  session : Word := 0
  txInh : Bool := false
  beaconOk : Bool := false
  beaconMiss : Nat := 0
  /-- A beacon was accepted in this cycle (R362). -/
  beaconNow : Bool := false
  /-- Cycle number of the cycle that runs (R354), channel index (R355). -/
  cycle : Nat := 0
  chIdx : Nat := 0
  rssi : BitVec 8 := 0x80
  micErr : Nat := 0
  otherErr : Nat := 0
  /-- Staged key words (R377). -/
  staged : List (Option Word) := [none, none, none, none]
  /-- Pack permit state, safety, mode and link of the last accepted beacon (R359). -/
  chg : Bool := false
  dsg : Bool := false
  packSafety : Nat := 0
  packMode : Nat := 0
  packLink : Nat := 0
  /-- Bytes of the last frame sent, and whether sending stopped for this cycle (R374). -/
  frameTx : List Byte := []
  stopped : Bool := false
  /-- Time of the last wake frame accepted (R372); the sniff receiver is open (R371); wake frames are sent. -/
  lastWake : BitVec 64 := 0
  wakeUntil : BitVec 64 := 0
  sniff : Bool := false
  wakeTx : Bool := false
  /-- The wake frame sent last (R357, R372). -/
  wakeFrame : List Byte := []
  /-- BEACON_LOST reaction stands (R369). -/
  lost : Bool := false
  /-- A beacon has been accepted since the start (R369). -/
  seen : Bool := false
  /-- Phase error that the timestamp of the last accepted beacon showed, ns: while SPLIT, the time base is corrected by it (R370). -/
  phaseNs : Int := 0
  deriving DecidableEq, Repr

/-- Primary, coarse and stack measurement (05_cell_measurement). -/
structure MeasSt where
  /-- `MEAS.MW.MW_FIRST` and the window length of this stitch (R188, R29). -/
  mwFirst : Nat := 0
  mwLen : Nat := 3
  /-- Primary modulators powered; this stitch is a settling stitch (R149, R169). -/
  modOn : Bool := false
  settling : Bool := false
  /-- Stitches of a STANDBY capture still due (R154). -/
  snapPower : Bool := false
  /-- Sub-samples of the slots of this stitch, slot 0 first (R150), and those of the previous stitch (R457). -/
  subs : List (List Sub) := []
  stackSubs : List Sub := []
  shuntSubs : List Sub := []
  /-- Coarse codes of this stitch: slot, cell (0 to 31), code, accepted by the HWSL (R28, R155, R156). -/
  coarse : List (Fin 8 × Fin 32 × Nat × Bool) := []
  /-- Auxiliary conversions of this stitch: slot, SAR, code. -/
  aux : List (Fin 8 × Fin 4 × Nat) := []
  /-- The previous stitch: its number, averages, coarse codes, auxiliary codes and window. -/
  prevStitch : BitVec 16 := 0
  prevSubs : List (List Sub) := []
  prevStack : List Sub := []
  prevShunt : List Sub := []
  prevCoarse : List (Fin 8 × Fin 32 × Nat × Bool) := []
  prevAux : List (Fin 8 × Fin 4 × Nat) := []
  prevFirst : Nat := 0
  prevLen : Nat := 3
  prevSettling : Bool := false
  prevModOn : Bool := false
  /-- Switches closed in each slot of this and of the previous stitch (R455). -/
  sw : List Word := []
  prevSw : List Word := []
  /-- Results of the previous stitch, and whether they are complete (R27). -/
  complete : Bool := false
  res : MwRes := {}
  /-- Results of the running stitch, complete before its end because its window has ended (R27). -/
  nextDone : Bool := false
  next : MwRes := {}
  /-- The safety task has run on the previous stitch's data (R31, R177), and its stack-sum evaluation (R174). -/
  decided : Bool := false
  sumEval : Option (Int × Bool) := none
  /-- Cells held in the previous stitch by a foreground unit, a repair or the ramp (R164, R235, R266). -/
  heldPrev : Word := 0
  heldNow : Word := 0
  /-- The same of the stack channel (bit 0) and the shunt (bit 1), R266. -/
  auxHeld : BitVec 2 := 0
  auxHeldPrev : BitVec 2 := 0
  /-- Coarse means withheld by CTT in this and the previous stitch (R242). -/
  cttCell : Option (Fin 32) := none
  cttPrev : Option (Fin 32) := none
  /-- Cells, published. -/
  cells : List Cell := List.replicate 32 {}
  /-- `CELL.VSTK`, `VSUM`, `SUMCHK`, `VMIN`, `VMAX`, `MEAS_ST`. -/
  vstk : Nat := 0
  vstkStale : Bool := true
  vsum : Nat := 0
  vsumStale : Bool := true
  sumDiff : Int := 0
  sumSkip : Bool := true
  sumOver : Bool := false
  vminIdx : Nat := 0
  vminCode : Nat := 0xFFF0
  vmaxIdx : Nat := 0
  vmaxCode : Nat := 0xFFF0
  measSt : BitVec 16 := 0
  /-- `CELL.XDIS`. -/
  xdisPub : Word := 0
  /-- Stack-sum persistence (R174), SUM_MISMATCH stands. -/
  sumFail : Nat := 0
  sumOk : Nat := 0
  sumBad : Bool := false
  /-- CRSE page: means, extremes, aux codes, accepted slots, largest difference (R182). -/
  cMean : List Nat := List.replicate 32 0
  cmaxIdx : Nat := 0
  cmax : Nat := 0
  cminIdx : Nat := 0
  cmin : Nat := 0
  refChk : Nat := 0
  vstkC : Nat := 0
  vtRef : Nat := 0
  acc : BitVec 8 := 0
  xmaxIdx : Nat := 0
  xmax : Nat := 0
  /-- The largest difference evaluated by the last safety task: cell (1 to 32), |D| as a fraction of µV (R172). -/
  diff : Option (Nat × Nat × Nat) := none
  /-- Checks evaluated for at least one cell: sum, cross-check, rate of change (R181). -/
  armed : BitVec 3 := 0
  /-- `MEAS.STK.IIN`. -/
  iin : Nat := 0
  /-- Harness checks (R63, R64): stitches outside and inside in a row; per cell the sum and number of its coarse samples
  outside and inside the window in the last stitches, newest first, in each of which it bled; the event stands. -/
  harnessOut : Nat := 0
  harnessOk : Nat := 0
  shift : List (List ((Nat × Nat) × (Nat × Nat))) := List.replicate 32 []
  /-- Unpopulated cells that read outside in the stitch that ended (R63, R444). -/
  harnessCells : Word := 0
  harnessBad : Bool := false
  /-- Post-processing has published the previous stitch, and the last one it had to publish is missing (R42, R221). -/
  published : Bool := true
  ppMissed : Bool := false
  /-- The modulators run for a self-test or a verification outside COMMISSION and RUN, in this and the previous stitch
  (R169, R265). -/
  testOn : Bool := false
  testPrev : Bool := false
  /-- The start-up pass was over in the stitch that ended (R100, R164). -/
  donePrev : Bool := false
  deriving DecidableEq, Repr

/-- Coherent sampling and the current inputs (06_sync_current_impedance). -/
structure CurSt where
  /-- t_c of this stitch, 25 ns; whether it follows R185. -/
  tc : Nat := 0
  carrier : Bool := false
  /-- Carrier record in force: valid, edge e (25 ns units of pack time), period P (25 ns), whether received this stitch. -/
  recValid : Bool := false
  recE : Nat := 0
  recP : Nat := 0
  recNow : Bool := false
  /-- The record in force since the boundary: valid, period (R185, R212). -/
  inValid : Bool := false
  inP : Nat := 0
  /-- A record was received in the stitch that ended (R185). -/
  recPrev : Bool := false
  recEver : Bool := false
  recMiss : Nat := 0
  predHeld : Bool := false
  fallback : Bool := false
  /-- PRED_HELD and FALLBACK as the stitch that ended left them: what the instant of a stitch is formed from (R187). -/
  heldWas : Bool := false
  fallWas : Bool := false
  skew : Nat := 3
  /-- Head: the last edge (25 ns), the last 8 intervals, qualification (R184, R186). -/
  edge : Option Nat := none
  intervals : List Nat := []
  /-- Intervals since the carrier was lost, up to 8 (R186). -/
  since : Nat := 0
  qual : Bool := false
  /-- Shunt: published MW average, point sample, their flags; samples of this stitch (R195, R196). -/
  isns : Int := 0
  isnsStale : Bool := true
  isnsOor : Bool := false
  point : Int := 0
  pointSkew : Nat := 3
  pointStale : Bool := true
  pointOor : Bool := false
  ptNow : Option Sub := none
  ptPrev : Option Sub := none
  /-- Skew class of the stitch that ended (R192). -/
  skewPrev : Nat := 3
  outNow : Bool := false
  outPrev : Bool := false
  ia : Int := 0
  iaStale : Bool := true
  ib : Int := 0
  ibStale : Bool := true
  iaux : Nat := 0
  iauxStale : Bool := true
  iauxOor : Bool := false
  /-- Slots outside in a row, all slots inside in this stitch, stitches inside (R201). -/
  iauxOut : Nat := 0
  iauxClean : Bool := true
  iauxOk : Nat := 0
  iauxLost : Bool := false
  /-- Shunt loss: stitches with and without a condition (R200). -/
  isnsOut : Nat := 0
  isnsOk : Nat := 0
  isnsLost : Bool := false
  /-- Disagreement persistence (R202). -/
  disRun : Nat := 0
  disOk : Nat := 0
  disagree : Bool := false
  /-- Stitches of the shunt since v0, and unpublished ones in a row (R168, R169, R196). -/
  age : Option Nat := none
  unpub : Nat := 0
  deriving DecidableEq, Repr

/-- One stitch of the impedance window (R207): pairs, B, and per cell A; sums scaled by 840². -/
structure ImpEnt where
  p : Nat := 0
  b : Int := 0
  a : List (Option Int) := []
  deriving DecidableEq, Repr

/-- The impedance tracker (R205 to R215). -/
structure ImpSt where
  fill : Nat := 0
  /-- The last stitches of the window, newest first; no entry where a stitch contributed no current data. -/
  win : List (Option ImpEnt) := []
  var : Nat := 0
  valid : Word := 0
  /-- Z, NEG and SAT of each cell (R211). -/
  z : List (Nat × Bool × Bool) := List.replicate 32 (0, false, false)
  csrc : Nat := 0
  noData : Nat := 0
  /-- The head's current word received in this stitch: valid, slot bitmap, sub-samples (R307). -/
  curValid : Bool := false
  curMap : BitVec 8 := 0
  curSubs : List Int := []
  deriving DecidableEq, Repr

/-- Thermistors (10_temperature). -/
structure TempSt where
  ts : List Ts := List.replicate 16 {}
  maxNone : Bool := true
  maxIdx : Nat := 0
  maxT : Int := 0
  minNone : Bool := true
  minIdx : Nat := 0
  minT : Int := 0
  /-- Ratio codes converted in this stitch, and in the previous one; the tap. -/
  qNow : List Nat := List.replicate 16 0
  qPrev : List Nat := List.replicate 16 0
  tapNow : Nat := 0
  tapPrev : Nat := 0
  havePrev : Bool := false
  /-- TS_BROKEN stands (R278). -/
  broken : Bool := false
  /-- VTREF is on (R273). -/
  vtref : Bool := true
  deriving DecidableEq, Repr

/-- Die sensors and thermal shutdown (10_temperature). -/
structure ThrmSt where
  dies : List Die := List.replicate 8 {}
  hotIdx : Nat := 0
  td : Int := 0
  otpInh : Bool := false
  nvmInh : Bool := false
  warn : Bool := false
  throttle : Bool := false
  impl : Bool := false
  implOk : Nat := 0
  implStand : Bool := false
  /-- Characteristics of RO0 to RO7, from the TRIM generation that step 4 selected (R283); held through the held reset. -/
  roChar : List (Option Word) := List.replicate 8 none
  /-- Highest T_D since the last read; none when no stitch has passed. -/
  peak : Option Int := none
  sdCnt : Nat := 0
  sdCause : Nat := 0
  sdIdx : Nat := 0
  /-- Stitches in a row in which a shutdown condition held (R289), and its last cause. -/
  sdRun : Nat := 0
  sdNowCause : Nat := 0
  /-- Thermal shutdown decided, its record not yet written (R290 steps 2 and 3). -/
  sdWait : Bool := false
  /-- Pack time of the boundary that decided the shutdown, and T_D then, as the record shows them (R513). -/
  sdPt : BitVec 64 := 0
  sdTd : Nat := 0
  /-- The sensor of the shutdown condition that holds; stitch periods below 125 °C in the held reset (R291). -/
  sdNowIdx : Nat := 0
  cool : Nat := 0
  deriving DecidableEq, Repr

/-- The balance controller (07_balancing). -/
structure BalSt where
  tmr : List Nat := List.replicate 32 0
  /-- Written timer values that await their boundary (R219, R29). -/
  tmrPend : List (Option Nat) := List.replicate 32 none
  presc : List Nat := List.replicate 32 0
  requested : Word := 0
  eligible : Word := 0
  held : Word := 0
  grant : Word := 0
  closed : Word := 0
  /-- Eligible and granted sets of the stitch that ended (R228); the rotation point of this boundary is done. -/
  eligPrev : Word := 0
  grantPrev : Word := 0
  rotated : Bool := false
  /-- Requested cells held open by VMIN in this stitch (R232). -/
  vminHeld : Word := 0
  /-- Switches closed now; closed in at least one slot of this and of the last stitch. -/
  sw : Word := 0
  onNow : Word := 0
  on : Word := 0
  done : Word := 0
  ptr : Nat := 0
  rotate : Bool := false
  thermal : Bool := false
  budget : Nat := 0
  pcell : Nat := 0
  /-- Switches in limit at the last slot boundary; opened for the rest of the stitch (R216). -/
  ilim : Word := 0
  ilimOpen : Word := 0
  /-- Stitches held by VMIN in a row (R232). -/
  vminRun : List Nat := List.replicate 32 0
  /-- Group in an open-wire pause, and boundaries until its end; it holds from the next boundary on, 16 stitches (R231). -/
  pause : Option Nat := none
  pauseLeft : Nat := 0
  deriving DecidableEq, Repr

/-- Open-wire detection and self-tests (08_diagnostics). -/
structure DiagSt where
  unit : Option DUnit := none
  /-- Due automatic units, oldest first, and requested units. -/
  due : List DUnit := []
  hostQ : List DUnit := []
  /-- A request accepted and awaiting its boundary: test, scope (R249). -/
  reqPend : Option (Nat × Nat) := none
  /-- Automatic period: start in whole stitches, units already due, period length in s (R246). -/
  period : Option Nat := none
  nextUnit : Nat := 0
  periodS : Nat := 10
  done : BitVec 16 := 0
  late : BitVec 16 := 0
  owPin : BitVec 33 := 0
  dvMax : Nat := 0
  /-- Averages at the end of the DN and UP half-tests, cells 1 to 32 (R238). -/
  vDn : List (Option Int) := []
  vUp : List (Option Int) := []
  prevStep : Option DStep := none
  /-- Pins 0 to 32 whose test sinks and test sources are on in this stitch (R236). -/
  sinks : BitVec 33 := 0
  sources : BitVec 33 := 0
  /-- An open-wire unit whose evaluation is due: group, and whether it was requested (R238). -/
  owEval : Option (Nat × Bool) := none
  ctt : Word := 0
  pzt : Word := 0
  bst : Word := 0
  /-- CTT: over-voltage comparators that passed in the unit that runs (R243). -/
  cttOvOk : Word := 0
  ref : Persist := {}
  stk : Persist := {}
  path : Persist := {}
  rom : Bool := false
  ramUe : Bool := false
  sramCe : Nat := 0
  /-- SRAM_CE stands until 8 stitches without an error (R253). -/
  ce : Persist := {}
  romPass : Nat := 0
  sramPass : Nat := 0
  romPos : Nat := 0
  sramPos : Nat := 0
  /-- Trim verification: pending, stitches left (R264), sums of Σ − VSTK and stitches evaluated (R265). -/
  tvPend : Bool := false
  tvLeft : Option Nat := none
  /-- A boundary has passed since the 1024 stitches ended (R265). -/
  tvOver : Bool := false
  tvSum : Int := 0
  tvN : Nat := 0
  tvVstk : Nat := 0
  tvCellN : List Nat := List.replicate 32 0
  deriving DecidableEq, Repr

/-- Trims (09_calibration). -/
structure CalSt where
  status : Nat := 2
  gen : Nat := 0
  genCrc : Nat := 0
  genPlaus : Nat := 0
  cause1 : Nat := 1
  trim1 : Nat := 0
  cause0 : Nat := 1
  trim0 : Nat := 0
  /-- Targets and present codes of channels 1 to 34 (R257, R262). -/
  ofsT : List Nat := List.replicate 34 512
  gainT : List Nat := List.replicate 34 2048
  ofs : List Nat := List.replicate 34 512
  gain : List Nat := List.replicate 34 2048
  cOfs : List Nat := [128, 128, 128, 128]
  cGain : List Nat := [128, 128, 128, 128]
  refA : Nat := 512
  refB : Nat := 512
  /-- The plausibility check of R263 is due at the next boundary; the start-up ramp runs. -/
  checkDue : Bool := false
  ramp : Bool := false
  /-- Primary DACs of cells under restoration (R266), and other DACs reloaded at the next boundary (indices of R270). -/
  repair : List Nat := []
  reload : List Nat := []
  /-- The steps that each ramp of `repair` has made (R266). -/
  rampRun : List (Nat × Nat) := []
  /-- Results not published in this stitch because a DAC is being restored: cells, stack and shunt (R266). -/
  holdCells : Word := 0
  holdAux : BitVec 2 := 0
  tvSt : BitVec 16 := 0
  sumOk : Bool := false
  ofsOk : Bool := false
  dacOk : Bool := false
  otpOk : Bool := false
  result : Nat := 0
  tvFail : Word := 0
  resIdx : Nat := 0
  res : Nat := 0
  deriving DecidableEq, Repr

/-- The safety functions (14_safety_functions). -/
structure SafeSt where
  /-- Keep-alive: TRIPPED and LOCKOUT survive (R86). -/
  state : Safety := .normal
  a : ChanSt := {}
  b : ChanSt := {}
  runs : List CellRun := List.replicate 32 {}
  /-- Commanded and read-back levels, bits 3 to 0: PCA, PCB, PDA, PDB (`SAFE.PERMIT`). -/
  pins : BitVec 4 := 0
  rb : BitVec 4 := 0
  /-- PERMIT_READBACK stands until the pin reads low (R393). -/
  rbFault : Bool := false
  /-- The HWSL gate holds PCA and PDA low (R15, R35). -/
  gate : Bool := false
  /-- Pack permits of each channel at the head (R390), in force. -/
  chgA : Bool := false
  chgB : Bool := false
  dsgA : Bool := false
  dsgB : Bool := false
  /-- Completion token of this stitch: byte and complement (R34); valid tokens in a row; misses in a row (R36). -/
  token : Option (BitVec 8 × BitVec 8) := none
  tokens : Nat := 0
  misses : Nat := 0
  /-- The check of R34 has been made in this stitch. -/
  checked : Bool := false
  /-- The trip in force was caused by a missed deadline (R37). -/
  byDeadline : Bool := false
  /-- `SAFE.CAUSE`, keep-alive. -/
  causeStitch : BitVec 16 := 0
  causeFlags : BitVec 8 := 0
  causeA : Bool := false
  causeB : Bool := false
  causeOrigin : BitVec 6 := 0
  /-- DEG timer, stitches (R400); entries, keep-alive (R401). -/
  degLeft : Nat := 0
  degEntries : Nat := 0
  ackRef : Nat := 0
  ackOk : Nat := 0
  acks : List AckReq := []
  /-- Head: whole stitches of the named stitch of the last pack acknowledge (R395, R396; log 35), and pack time at
  its acceptance (R309). -/
  packAckAt : Nat := 0
  packAckPt : BitVec 64 := 0
  /-- SEQ of its frame once it has gone out (R308, log 63). -/
  packAckSeq : Option (BitVec 8) := none
  /-- Sealed (R420); an unseal awaits its boundary. -/
  sealed : Bool := false
  unsealPend : Bool := false
  /-- `SAFE.SEAL`, `SAFE.PSEAL`, PSEAL_OK, SRES, PRES (R429). -/
  sealNow : Word := 0
  pseal : Word := 0
  psealOk : Bool := false
  sres : Nat := 0
  pres : Nat := 0
  /-- Channel A's summary of the last completed safety task (R32). -/
  sumA : BitVec 8 := 0
  /-- Flags of R379 that each channel of this device has decided since the last acknowledge (R315). -/
  saidA : BitVec 8 := 0
  saidB : BitVec 8 := 0
  /-- A trip was decided at the boundary that began this stitch (R398). -/
  tripNow : Bool := false
  /-- An accepted unlock awaits its boundary (R397). -/
  unlockPend : Bool := false
  /-- Directions, charge and discharge, whose SLI inhibit an acknowledge cleared at the boundary that began this stitch: they
  return from the next one (R395). -/
  sliBackChg : Bool := false
  sliBackDsg : Bool := false
  deriving DecidableEq, Repr

/-- Safety inputs and test pulses (15_safety_inputs_commissioning). -/
structure SioSt where
  in0 : Si := {}
  in1 : Si := {}
  /-- Last samples, bits 3 to 0: SIB1, SIA1, SIB0, SIA0. -/
  raw : BitVec 4 := 0
  /-- Boundaries left of the settling of each channel (R540). -/
  settleA : Nat := 3
  settleB : Nat := 3
  /-- The test-pulse outputs run, from step 5 of R97; the levels driven on TPA and TPB now (R411). -/
  tpOn : Bool := true
  tpa : Bool := true
  tpb : Bool := true
  /-- Wrong read-backs of TPA and TPB in a row, stitches right, TP_FAULT stands (R413). -/
  tpaBad : Nat := 0
  tpbBad : Nat := 0
  tpaOk : Nat := 0
  tpbOk : Nat := 0
  tpaClean : Bool := true
  tpbClean : Bool := true
  tpaFault : Bool := false
  tpbFault : Bool := false
  points : Nat := 0
  failA : Nat := 0
  failB : Nat := 0
  /-- Whole stitches with test-pulse dropouts before the running one (R411, R414). -/
  tpRun : Nat := 0
  /-- The last steps of pack time, newest first: the instant of each, µs of pack time as it counts now, and the stitches, modulo 8,
  by which pack time counted ahead of now before it (R44, R45, R411, R414). -/
  steps : List (Nat × Nat) := []
  deriving DecidableEq, Repr

/-- The fault collector (16_fault_collection). Sources are bits 0 to 127. -/
structure ColSt where
  dyn : BitVec 128 := 0
  /-- Sources that were really raised in the last stitch evaluated, an injection apart (R449). -/
  dynReal : BitVec 128 := 0
  lat : BitVec 128 := 0
  /-- Latched by an occurrence since the last clear (R437). -/
  latOcc : BitVec 128 := 0
  cnt : List Nat := List.replicate 128 0
  steps : List Nat := List.replicate 128 0
  eff : List Nat := List.replicate 128 0
  /-- Effective levels that a merge of R440 brought, kept until the source's latched bit is cleared (log 67). -/
  effMin : List Nat := List.replicate 128 0
  inj : BitVec 128 := 0
  real : BitVec 128 := 0
  /-- Raised while a condition stands; raised in this stitch; order of raising in this stitch (R434, R441). -/
  stand : BitVec 128 := 0
  pulse : BitVec 128 := 0
  order : List Nat := []
  /-- Entries of `order` raised before the present instant: those after it were raised together (R441). -/
  ordAt : Nat := 0
  /-- Sources raised at core release from the keep-alive domain's mandatory records (R450). -/
  kept : BitVec 128 := 0
  /-- Cell bitmaps and record contexts of this stitch (R444, R538). -/
  cells : List (Nat × Word) := []
  ctxs : List (Nat × FerCtx) := []
  fer : Option Fer := none
  /-- Device records that wait (R447), frames sent, records dropped. -/
  recs : List DevRec := []
  rseq : BitVec 8 := 0
  dropped : Nat := 0
  /-- Head: records dropped per device since its last pack record (R447). -/
  drops : List Nat := List.replicate 64 0
  /-- Head: the last raisings of MEMBER_TRIP, newest first: the whole stitches of its occurrence, the member, and the flags of its
  copies then (R446). -/
  memTrip : List (Nat × BitVec 6 × BitVec 8) := []
  /-- Head: open pack records, queue, occurrences seen (source, address, whole stitches). -/
  openRecs : List PackRec := []
  queue : List PackRec := []
  seen : List (Nat × BitVec 6 × Nat) := []
  /-- Whole stitches at which this device's own TS_PATH last ended (R278, R446). -/
  pathEnd : Nat := 0
  /-- The last ROOT of each source (R446). -/
  roots : List Nat := List.replicate 128 0x7F
  /-- Injection: source, stitches left; `none` left means until cleared (R449); a write that awaits its boundary. -/
  injSrc : Option Nat := none
  injLeft : Option Nat := none
  injPend : Option Word := none
  /-- Latched bits cleared while the source was raised, to be set again at the boundary (R140). -/
  relatch : BitVec 128 := 0
  /-- COL_INTEGRITY stands (R440). -/
  integ : Bool := false
  /-- Lowest cell or pin of an OPEN_WIRE occurrence (R442). -/
  owLow : Nat := 0
  deriving DecidableEq, Repr

/-- The recorder and its memory (17_recorder_ecc). -/
structure RecSt where
  /-- 0 IDLE, 1 RECORDING, 2 POST, 3 FROZEN (R458). -/
  st : Nat := 0
  cause : Nat := 0
  trigSrc : Nat := 0x7F
  rate : Nat := 0
  wPage : Nat := 0
  wFrame : Nat := 0
  empty : Bool := true
  fPage : Nat := 0
  fFrame : Nat := 0
  tPage : Nat := 0
  tFrame : Nat := 0
  trigSt : BitVec 16 := 0
  trigPt : BitVec 64 := 0
  post : Nat := 0
  trigCnt : Nat := 0
  /-- A trigger waits for the frames of its stitch: cause, source, stitch, pack time of its boundary. -/
  trig : Option (Nat × Nat × BitVec 16 × BitVec 64) := none
  /-- The trigger frame has been written, at this byte, and its TRIG stamp is still to come (R459, log 71). -/
  stamp : Option Nat := none
  /-- The FREEZE (true) and RELEASE (false) that await their boundary, oldest first (R459, R462). -/
  ctrlPend : List Bool := []
  /-- Bytes of the 64 MiB; an unlisted byte reads 0, as the fill leaves it (R466). -/
  mem : List Host.Cell := []
  /-- Storage words that hold flipped bits, ascending (R465). -/
  errs : List Upset := []
  /-- Weak-word tracker: word, corrections; oldest first (R470). -/
  trk : List (Nat × Nat) := []
  /-- Retirement table, keep-alive, in order of retirement. -/
  retired : List Nat := []
  ce : Nat := 0
  ue : Nat := 0
  patPage : Nat := 0
  /-- Stitches since the patrol read its last page (R469). -/
  patTick : Nat := 0
  passes : Nat := 0
  accCe : Nat := 0
  accUe : Nat := 0
  passCe : Nat := 0
  passUe : Nat := 0
  bulkPoison : Nat := 0
  bulkCorr : Bool := false
  bulkFirst : Nat := 0
  merged : Nat := 0
  refused : Nat := 0
  /-- Retention holds the content (self-refresh running), R472. -/
  refresh : Bool := false
  deriving DecidableEq, Repr

/-- Power and the keep-alive domain (18_power_keepalive_sleep). -/
structure PwrSt where
  /-- `PWR.STAT.VREG`, of the last stitch, and the reading of this stitch so far, mV (R497). -/
  vreg : Nat := 0
  vregNow : Nat := 0
  /-- The buck is in burst mode (R479). -/
  burst : Bool := false
  /-- Slots out of range or in limit in a row; stitches without (R480); a bad slot in this stitch; BUCK_FAULT stands. -/
  buckRun : Nat := 0
  buckOk : Nat := 0
  buckBad : Bool := false
  buckFault : Bool := false
  /-- `PWR.BR_ST`: breath checks, the kind of the last finding and its index (R494, R497). -/
  brCount : Nat := 0
  brKind : Nat := 0
  brIdx : Nat := 0
  /-- WAKE_OUT is high (R495). -/
  wakeOut : Bool := false
  /-- `PWR.RAIL`: the rails out of their windows (R497). -/
  rail : BitVec 3 := 0
  /-- A breath check has decided thermal shutdown: its own wake follows R290 (R494). -/
  breathWake : Bool := false
  /-- A rail is out of its window in the held reset of thermal shutdown (R481, log 60). -/
  railOut : Bool := false
  /-- Content kept (R485): retention unbroken; crystal failed; clock source is the crystal. -/
  retOk : Bool := false
  xtalFail : Bool := false
  xtalClk : Bool := false
  bakOv : Bool := false
  bakAbsent : Bool := false
  /-- Charger phase: 0 OFF, 1 CC, 2 CV, 3 FULL; a presence probe runs (`KA.STAT.CHG` 4), and stitches since the last one
  (R488); cut for good until the next start (R487). -/
  chg : Nat := 0
  probing : Bool := false
  probeIn : Nat := 0
  cutForGood : Bool := false
  /-- The charger has restarted after a cut (R487). -/
  restarted : Bool := false
  /-- 0 VREG, 1 VBAK, 2 keeper. -/
  src : Nat := 0
  /-- VBAK as last measured, mV, and as `KA.VBAK` shows it: zero until the first measurement of a start (R499). -/
  vbak : Nat := 0
  vbakShown : Nat := 0
  /-- The charger current, 10 µA (`KA.VBAK`). -/
  ichg : Nat := 0
  /-- `KA.HOVER`: hand-overs and hand-backs (R499). -/
  handover : Nat := 0
  handback : Nat := 0
  /-- `KA.LOST` and `KA.BAKTIME` (R499). -/
  lostPt : BitVec 64 := 0
  bakTime : Word := 0
  /-- This time away from VREG: the pack time from which VKA is on VBAK, and the µs that it has spent there before; none
  before VBAK has fed it (R499). -/
  bakFrom : Option (BitVec 64) := none
  bakSum : Option Nat := none
  /-- In SHIP: the keeper no longer carries VKA (R484). -/
  keeperOut : Bool := false
  /-- Pack times of the hand-overs whose STACK_LOST record is written at the next core release, oldest first, each with the
  source of VKA after it (R490, R514). -/
  lostAtRelease : List (BitVec 64 × Nat) := []
  deriving DecidableEq, Repr

/-- The OTP array and what was selected from it (19_otp_journal). -/
structure OtpSt where
  /-- 2048 bytes; an unlisted byte reads 0 (R501). -/
  mem : List Host.Cell := []
  /-- Used and valid generations, and the one in force, of SAFETY, PACK and CONFIG. -/
  usedS : BitVec 4 := 0
  validS : BitVec 4 := 0
  genS : Option Nat := none
  usedP : BitVec 4 := 0
  validP : BitVec 4 := 0
  genP : Option Nat := none
  usedC : BitVec 4 := 0
  validC : BitVec 4 := 0
  genC : Option Nat := none
  identOk : Bool := false
  uid : BitVec 64 := BitVec.allOnes 64
  grade : Nat := 3
  /-- Some generation is used and not valid: byte offset of the lowest (R508). -/
  badGen : Option Nat := none
  /-- An accepted request that awaits its boundary; a generation being programmed (R539). -/
  req : Option OtpJob := none
  job : Option OtpJob := none
  block : Nat := 0
  gen : Nat := 0
  words : Nat := 0
  result : Nat := 0
  /-- A generation was cut short: recorded at the next core release (R514). -/
  cut : Option (Nat × Nat) := none
  deriving DecidableEq, Repr

/-- The event journal (19_otp_journal). -/
structure JrnlSt where
  /-- Valid records by slot, ascending: slot, words W0 to W7 (R512). -/
  slots : List (Nat × List Word) := []
  next : Word := 0
  queue : List JPend := []
  mand : List JPend := []
  /-- The record being written: the front of `mand` (true) or of `queue` (false) (R288). -/
  busy : Option Bool := none
  dropped : Nat := 0
  /-- Dropped since the last record of code 0x09. -/
  dropSince : Nat := 0
  badSlot : Nat := 0
  wear : Bool := false
  deriving DecidableEq, Repr

/-- Refused accesses of one page (`PG_ERR`, R139, R141). -/
structure PgErr where
  code : Nat := 0
  cnt : Nat := 0
  off : Nat := 0
  deriving DecidableEq, Repr

/-- The state of the block. -/
structure State where
  /-- Waiting commands, first in, first out. -/
  pending : List Instr := []
  /-- Values written (what a read returns, R30) and values in force (R29). -/
  cfgW : Cfg := {}
  cfg : Cfg := {}
  /-- One per page of R138, indexed by the page's number. -/
  pgErr : List PgErr := List.replicate 32 {}
  /-- The unpublished RWF words of the FACT page, offsets 0x20 to 0xFC (R138). -/
  fact : List Word := List.replicate 56 0
  sys : Sys := {}
  time : Time := {}
  host : HostSt := {}
  dev : DevSt := {}
  link : LinkSt := {}
  enum : EnumSt := {}
  mirr : MirrSt := {}
  meas : MeasSt := {}
  cur : CurSt := {}
  imp : ImpSt := {}
  temp : TempSt := {}
  thrm : ThrmSt := {}
  bal : BalSt := {}
  diag : DiagSt := {}
  cal : CalSt := {}
  safe : SafeSt := {}
  sio : SioSt := {}
  col : ColSt := {}
  bob : RecSt := {}
  pwr : PwrSt := {}
  otp : OtpSt := {}
  jrnl : JrnlSt := {}
  /-- The model's own: how many free values have been drawn (log 23). -/
  free : Nat := 0
  deriving DecidableEq, Repr

/-- The device right after the power-up fill and the trim load, with a blank OTP array (log 1, log 2). -/
def State.reset : State := {}

/-- Why a step may stop. No meaning of this model stops: every command has its effect or, where its condition does
not hold, none (log 4). The one constructor is for a host that needs a name: nothing raises it. Safe. -/
inductive Fault
  /-- Raised by nothing. -/
  | none
  deriving DecidableEq, Repr

/-- Why a command may be refused. Only `exec` raises it, for a command without a meaning. Safe. -/
inductive Refusal
  /-- The command of that name has no meaning yet. Safe: the machine stops. -/
  | notModelled (mnemonic : String)
  deriving DecidableEq, Repr

end Sys2Proof.Machine
end

