-- ==== Sys2Proof/Machine/Ops.lean ====
section
/-! DEFINITION. The named operations that the meanings share: configuration fields, time, event sources, journal
requests, trips, permit pins, byte memories. -/

namespace Sys2Proof.Machine

/-- What a meaning answers. -/
abbrev Out := Host.Outcome State Fault Refusal

/-! ### Configuration registers -/

/-- The word of a configuration register. -/
def cfgGet (c : Cfg) (r : CReg) : Word := c.words.getD r.ctorIdx 0

/-- The configuration with one register's word replaced. -/
def cfgSet (c : Cfg) (r : CReg) (v : Word) : Cfg := ⟨c.words.set r.ctorIdx v⟩

/-- Field [msb:lsb] of a register as in force (R29, R30). -/
def fld (s : State) (r : CReg) (msb lsb : Nat) : Nat := bits (cfgGet s.cfg r) msb lsb

/-- One bit of a register as in force. -/
def fbit (s : State) (r : CReg) (k : Nat) : Bool := bit (cfgGet s.cfg r) k

/-- R61: `SAFE.HARNESS.NCELL`. -/
def ncell (s : State) : Nat := fld s .safeHarness 5 0
/-- R56: KELVIN wiring. -/
def kelvin (s : State) : Bool := fbit s .safeHarness 8
/-- R66: thermistor input `k` is populated. -/
def tsPop (s : State) (k : Nat) : Bool := fbit s .safeHarness (16 + k)
/-- R193: the current inputs are declared present. -/
def currentPresent (s : State) : Bool := fbit s .syncIcfg 0 && fbit s .syncIcfg 1
/-- Cell `n` (0 to 31) is populated (R61). -/
def populated (s : State) (n : Nat) : Bool := decide (n < ncell s)

/-! ### Modes, roles, time -/

/-- R78: the encoding of the modes. -/
def modeCode : Mode → Nat
  | .ship => 0 | .sleep => 1 | .standby => 2 | .commission => 3 | .run => 4 | .factory => 7

/-- R110: the encoding of the safety states. -/
def safetyCode : Safety → Nat
  | .normal => 0 | .degraded => 1 | .tripped => 2 | .lockout => 3

/-- A safety state from its code. -/
def safetyOf (n : Nat) : Safety :=
  if n = 0 then .normal else if n = 1 then .degraded else if n = 2 then .tripped else .lockout

/-- R110: the encoding of the link states. -/
def linkCode : LinkState → Nat
  | .intact => 0 | .folded => 1 | .split => 2

/-- A link state from its code. -/
def linkOf (n : Nat) : LinkState := if n = 0 then .intact else if n = 1 then .folded else .split

/-- R110: the encoding of the roles. -/
def roleCode : Role → Nat
  | .head => 0 | .member => 1 | .tail => 2

/-- The mode in force is `m`. -/
def inMode (s : State) (m : Mode) : Bool := s.sys.mode == some m
/-- The core runs (R97 step 7). -/
def coreRuns (s : State) : Bool := s.sys.phase == .coreOn
/-- The device is the head (R88). -/
def isHead (s : State) : Bool := s.sys.role == .head
/-- The mode is one in which the stream, the safety functions and the collector run: STANDBY, COMMISSION, RUN or
FACTORY (R450). -/
def awake (s : State) : Bool :=
  inMode s .standby || inMode s .commission || inMode s .run || inMode s .factory
/-- The mode is COMMISSION or RUN: the full stream (R91). -/
def streaming (s : State) : Bool := inMode s .commission || inMode s .run
/-- The ports work: the link hardware runs in every phase with VREG, outside SLEEP and SHIP (R36, R97). -/
def linkUp (s : State) : Bool :=
  (match s.sys.phase with | .coreOn | .coreRestart => true | _ => false) &&
  (match s.sys.mode with | some .sleep | some .ship => false | _ => true)
/-- R101: the device transmits on its ports: the head once it sends stitches, a member once a START has reached it. -/
def portsSend (s : State) : Bool := linkUp s && (if isHead s then s.sys.sending else s.link.started)
/-- TRIPPED or LOCKOUT. -/
def tripped (s : State) : Bool := s.safe.state == .tripped || s.safe.state == .lockout

/-- R21: the stitch number. -/
def stitch (s : State) : BitVec 16 := BitVec.ofNat 16 (s.time.ptB.toNat / 1000)
/-- Whole stitches of pack time: the unbounded count from which the stitch number is taken. -/
def stitches (s : State) : Nat := s.time.ptB.toNat / 1000
/-- The stitch that has just ended, at its closing boundary. -/
def lastStitch (s : State) : BitVec 16 := stitch s - 1
/-- R411: TPA (false) or TPB (true) drops low in stitch `k` at this instant, ns after its boundary. -/
def tpLow (k : Nat) (b : Bool) (ns : Nat) : Bool :=
  let within (lo hi : Nat) : Bool := decide (lo ≤ ns) && decide (ns < hi)
  if b then k % 8 == 3 && (within 625000 725000 || within 875000 975000) else k % 4 == 1 && within 250000 350000

/-- R411: the test-pulse outputs at an instant of the running stitch. -/
def tpDrive (ns : Nat) (s : State) : SioSt :=
  let k := (stitch s).toNat
  { s.sio with tpa := s.sio.tpOn && !(awake s && tpLow k false ns), tpb := s.sio.tpOn && !(awake s && tpLow k true ns) }

/-- The instant of what follows, ns after the stitch boundary; what is raised at another instant comes later (R441;
log 70), and the test-pulse outputs have the levels of that instant (R411). -/
def atNs (ns : Nat) (s : State) : State :=
  { s with time := { s.time with ns := ns }, sio := tpDrive ns s
           col := { s.col with ordAt := if ns = s.time.ns then s.col.ordAt else s.col.order.length } }
/-- Pack time moved to `us` µs after the boundary of the running slot (R22). -/
def atUs (us : Nat) (s : State) : State :=
  let n := 125 * s.time.slot.val + us
  { s with time := { s.time with pt := s.time.ptB + BitVec.ofNat 64 n, ns := 1000 * n }
           col := (atNs (1000 * n) s).col, sio := tpDrive (1000 * n) s }

/-- A free value: one the spec leaves open (log 23). -/
def drawFree (s : State) : Word × State := (Config.freeWord s.free, { s with free := s.free + 1 })

/-! ### Event sources (R431 to R433) -/

/-- R433: the page of each source; 0xFF for a reserved one (also the FEVT map). -/
def srcPages : List Nat :=
  [0x10, 0, 0x12, 1, 0x10, 0x0E, 0x10, 0x10, 0x10, 0x10, 0x10, 0x10, 0x10, 0x11, 0x11, 0x11,
   0x11, 0x10, 0x10, 0x10, 5, 5, 5, 5, 0x10, 0xFF, 0xFF, 0xFF, 0xFF, 0xFF, 0xFF, 0xFF,
   7, 7, 7, 7, 7, 7, 9, 9, 9, 9, 9, 0x0E, 0x0E, 0x0E, 0x0E, 0x0E,
   0x0B, 0x0F, 0x0F, 0x0F, 0x0F] ++ List.replicate 11 0xFF ++
  [3, 3, 3, 3, 3, 3, 3, 4, 4, 4, 4, 4, 4, 4, 5, 5, 5, 5, 0] ++ List.replicate 13 0xFF ++
  [1, 0, 0, 0x0D, 0x0D, 0x0D, 0x0D, 0x0E, 0x0E, 0x0E, 0x0E, 0x0E, 0x0E, 0x0C, 0x0C, 0x0C,
   0x0C, 0x11, 0x10, 0x15, 0x15, 0x15, 0x15, 0x16, 0x16, 0x17, 0x17, 0x18, 0x19, 0x19, 0x12, 0xFF]

/-- The page of a source. -/
def srcPage (n : Nat) : Nat := srcPages.getD n 0xFF
/-- R431: a reserved source. -/
def srcReserved (n : Nat) : Bool := srcPage n == 0xFF
/-- R433: the sources marked "Yes" in the Escalates column. -/
def srcEscalates (n : Nat) : Bool :=
  [32, 33, 34, 36, 37, 39, 41, 42, 44, 45, 46, 47, 48, 51, 52, 69, 70, 76, 77, 79, 80, 100, 102, 103, 105, 107,
   109, 110, 113, 115, 117, 124, 126].contains n
/-- R433: the default level of a source (the reset words of `FCOL.LVLk`). -/
def srcDefault (n : Nat) : Nat :=
  bits (cfgGet {} (([CReg.colLvl0, .colLvl1, .colLvl2, .colLvl3, .colLvl4, .colLvl5, .colLvl6, .colLvl7]).getD
    (n / 16) .colLvl0)) (2 * (n % 16) + 1) (2 * (n % 16))
/-- R432: the sources of a page, ascending; their order gives their bits. -/
def pageSources (page : Nat) : List Nat := (List.range 128).filter (fun n => srcPage n == page)

/-- The bit of one source in a 128-bit map. -/
def srcBit (n : Nat) : BitVec 128 := BitVec.ofNat 128 (2 ^ n)

/-- The sources that are not reserved, as a map. -/
def srcMask : BitVec 128 := BitVec.ofNat 128 ((List.range 128).foldl (fun m n => if srcReserved n then m else m + 2 ^ n) 0)

/-- A number taken into an ascending list. -/
def insertAsc (n : Nat) : List Nat → List Nat
  | [] => [n]
  | x :: l => if n < x then n :: x :: l else x :: insertAsc n l

/-- The order list of the stitch with one more source, kept once: after those of earlier instants (the first `at_`), and
among those of its own instant by number (R441). -/
def orderAdd (at_ : Nat) (l : List Nat) (n : Nat) : List Nat :=
  if l.contains n then l else l.take at_ ++ insertAsc n (l.drop at_)

/-- Cell bitmaps of the stitch with those of one source OR-ed in (R444). -/
def cellsAdd (l : List (Nat × Word)) (n : Nat) (m : Word) : List (Nat × Word) :=
  if l.any (fun e => e.1 == n) then l.map (fun e => if e.1 == n then (e.1, e.2 ||| m) else e) else l ++ [(n, m)]

/-- A source raised in the running stitch, with the cells concerned (R434, R444). -/
def colRaise (n : Nat) (cells : Word) (c : ColSt) : ColSt :=
  { c with pulse := c.pulse ||| srcBit n, order := orderAdd c.ordAt c.order n, cells := cellsAdd c.cells n cells }

/-- A source raised, with the cells concerned. -/
def raiseCells (n : Nat) (cells : Word) (s : State) : State := { s with col := colRaise n cells s.col }
/-- A source raised in the running stitch. -/
def raise (n : Nat) (s : State) : State := { s with col := colRaise n 0 s.col }
/-- A source raised when a condition holds. -/
def raiseIf (b : Bool) (n : Nat) (s : State) : State := { s with col := if b then colRaise n 0 s.col else s.col }
/-- A source raised with the context of its first-error record (R442, R538). -/
def raiseCtx (n : Nat) (x : FerCtx) (s : State) : State :=
  { s with col := let c := colRaise n 0 s.col
                  { c with ctxs := if c.ctxs.any (fun e => e.1 == n) then c.ctxs else c.ctxs ++ [(n, x)] } }
/-- A source that stands, or ceases to stand, from now on (R434). -/
def colStand (n : Nat) (b : Bool) (cells : Word) (c : ColSt) : ColSt :=
  if b then { colRaise n cells c with stand := c.stand ||| srcBit n }
  else { c with stand := c.stand &&& ~~~ (srcBit n) }
/-- A source of the collector made to follow a condition. -/
def colFollow (n : Nat) (b : Bool) (c : ColSt) : ColSt := if c.stand.getLsbD n == b then c else colStand n b 0 c
/-- A source made to stand or not. -/
def stand (n : Nat) (b : Bool) (s : State) : State := { s with col := colStand n b 0 s.col }
/-- A source made to stand or not, with cells. -/
def standCells (n : Nat) (b : Bool) (cells : Word) (s : State) : State := { s with col := colStand n b cells s.col }
/-- A source stands. -/
def stands (s : State) (n : Nat) : Bool := s.col.stand.getLsbD n
/-- A source made to follow a condition. -/
def follow (n : Nat) (b : Bool) (s : State) : State := { s with col := colFollow n b s.col }

/-- Source numbers of R433. -/
def srcSafeDeadline : Nat := 0
@[inherit_doc srcSafeDeadline] def srcCoreReset : Nat := 1
@[inherit_doc srcSafeDeadline] def srcColIntegrity : Nat := 2
@[inherit_doc srcSafeDeadline] def srcSoscPlaus : Nat := 3
@[inherit_doc srcSafeDeadline] def srcPermitReadback : Nat := 4
@[inherit_doc srcSafeDeadline] def srcCompTestFail : Nat := 5
@[inherit_doc srcSafeDeadline] def srcSlvOv : Nat := 6
@[inherit_doc srcSafeDeadline] def srcSlvUv : Nat := 7
@[inherit_doc srcSafeDeadline] def srcSlvCrit : Nat := 8
@[inherit_doc srcSafeDeadline] def srcSltOt : Nat := 9
@[inherit_doc srcSafeDeadline] def srcSltLowchg : Nat := 10
@[inherit_doc srcSafeDeadline] def srcSliLimit : Nat := 11
@[inherit_doc srcSafeDeadline] def srcSdiLockout : Nat := 12
@[inherit_doc srcSafeDeadline] def srcSsiInactive : Nat := 13
@[inherit_doc srcSafeDeadline] def srcSiDisc : Nat := 14
@[inherit_doc srcSafeDeadline] def srcSiPulse : Nat := 15
@[inherit_doc srcSafeDeadline] def srcTpFault : Nat := 16
@[inherit_doc srcSafeDeadline] def srcDegEnter : Nat := 17
@[inherit_doc srcSafeDeadline] def srcDegExpire : Nat := 18
@[inherit_doc srcSafeDeadline] def srcDegLimit : Nat := 19
@[inherit_doc srcSafeDeadline] def srcMemberTrip : Nat := 24
@[inherit_doc srcSafeDeadline] def srcXdis : Nat := 32
@[inherit_doc srcSafeDeadline] def srcSumMismatch : Nat := 33
@[inherit_doc srcSafeDeadline] def srcCellOor : Nat := 34
@[inherit_doc srcSafeDeadline] def srcCellRoc : Nat := 35
@[inherit_doc srcSafeDeadline] def srcPpOverrun : Nat := 36
@[inherit_doc srcSafeDeadline] def srcHarnessMismatch : Nat := 37
@[inherit_doc srcSafeDeadline] def srcSyncLost : Nat := 38
@[inherit_doc srcSafeDeadline] def srcIsnsLost : Nat := 39
@[inherit_doc srcSafeDeadline] def srcIsnsOor : Nat := 40
@[inherit_doc srcSafeDeadline] def srcIauxLost : Nat := 41
@[inherit_doc srcSafeDeadline] def srcIDisagree : Nat := 42
@[inherit_doc srcSafeDeadline] def srcOpenWire : Nat := 43
@[inherit_doc srcSafeDeadline] def srcPriZero : Nat := 44
@[inherit_doc srcSafeDeadline] def srcRefMismatch : Nat := 45
@[inherit_doc srcSafeDeadline] def srcStkCoarse : Nat := 46
@[inherit_doc srcSafeDeadline] def srcTsPath : Nat := 47
@[inherit_doc srcSafeDeadline] def srcTsBroken : Nat := 48
@[inherit_doc srcSafeDeadline] def srcTrimInvalid : Nat := 49
@[inherit_doc srcSafeDeadline] def srcTrimFallback : Nat := 50
@[inherit_doc srcSafeDeadline] def srcTrimUpset : Nat := 51
@[inherit_doc srcSafeDeadline] def srcTrimVerifyFail : Nat := 52
@[inherit_doc srcSafeDeadline] def srcLinkFold : Nat := 64
@[inherit_doc srcSafeDeadline] def srcLinkUpstreamLost : Nat := 65
@[inherit_doc srcSafeDeadline] def srcLinkSplit : Nat := 66
@[inherit_doc srcSafeDeadline] def srcLinkWordErr : Nat := 67
@[inherit_doc srcSafeDeadline] def srcRingOpen : Nat := 68
@[inherit_doc srcSafeDeadline] def srcThreadLost : Nat := 69
@[inherit_doc srcSafeDeadline] def srcTripTokenBad : Nat := 70
@[inherit_doc srcSafeDeadline] def srcEnumRestart : Nat := 71
@[inherit_doc srcSafeDeadline] def srcEnumUnstable : Nat := 72
@[inherit_doc srcSafeDeadline] def srcMapHeld : Nat := 73
@[inherit_doc srcSafeDeadline] def srcMapMismatch : Nat := 74
@[inherit_doc srcSafeDeadline] def srcForeignDevice : Nat := 75
@[inherit_doc srcSafeDeadline] def srcEpochMismatch : Nat := 76
@[inherit_doc srcSafeDeadline] def srcSeqLost : Nat := 77
@[inherit_doc srcSafeDeadline] def srcBeaconLost : Nat := 78
@[inherit_doc srcSafeDeadline] def srcTackXchkFail : Nat := 79
@[inherit_doc srcSafeDeadline] def srcRadioFault : Nat := 80
@[inherit_doc srcSafeDeadline] def srcMirrorMicErr : Nat := 81
@[inherit_doc srcSafeDeadline] def srcRoleConflict : Nat := 82
@[inherit_doc srcSafeDeadline] def srcLoadShed : Nat := 96
@[inherit_doc srcSafeDeadline] def srcAckStuck : Nat := 97
@[inherit_doc srcSafeDeadline] def srcResetHeld : Nat := 98
@[inherit_doc srcSafeDeadline] def srcBalRotate : Nat := 99
@[inherit_doc srcSafeDeadline] def srcBalThermal : Nat := 100
@[inherit_doc srcSafeDeadline] def srcBalVmin : Nat := 101
@[inherit_doc srcSafeDeadline] def srcBalIlim : Nat := 102
@[inherit_doc srcSafeDeadline] def srcBstOpen : Nat := 103
@[inherit_doc srcSafeDeadline] def srcBstShort : Nat := 104
@[inherit_doc srcSafeDeadline] def srcFgLate : Nat := 105
@[inherit_doc srcSafeDeadline] def srcRomParity : Nat := 106
@[inherit_doc srcSafeDeadline] def srcSramCe : Nat := 107
@[inherit_doc srcSafeDeadline] def srcSramUe : Nat := 108
@[inherit_doc srcSafeDeadline] def srcRoImplaus : Nat := 109
@[inherit_doc srcSafeDeadline] def srcDieWarn : Nat := 110
@[inherit_doc srcSafeDeadline] def srcNvmInhibit : Nat := 111
@[inherit_doc srcSafeDeadline] def srcThermalSd : Nat := 112
@[inherit_doc srcSafeDeadline] def srcSiUnused : Nat := 113
@[inherit_doc srcSafeDeadline] def srcSealProgFail : Nat := 114
@[inherit_doc srcSafeDeadline] def srcRecCe : Nat := 115
@[inherit_doc srcSafeDeadline] def srcRecUe : Nat := 116
@[inherit_doc srcSafeDeadline] def srcRecRetire : Nat := 117
@[inherit_doc srcSafeDeadline] def srcRecRetireFull : Nat := 118
@[inherit_doc srcSafeDeadline] def srcStackLost : Nat := 119
@[inherit_doc srcSafeDeadline] def srcBuckFault : Nat := 120
@[inherit_doc srcSafeDeadline] def srcBakAbsent : Nat := 121
@[inherit_doc srcSafeDeadline] def srcBakOv : Nat := 122
@[inherit_doc srcSafeDeadline] def srcOtpGenInvalid : Nat := 123
@[inherit_doc srcSafeDeadline] def srcJrnlOverflow : Nat := 124
@[inherit_doc srcSafeDeadline] def srcJrnlWear : Nat := 125
@[inherit_doc srcSafeDeadline] def srcEvtOverflow : Nat := 126

/-! ### Journal requests (R41, R513 to R515) -/

/-- A record of the present moment (R513). -/
def jrec (s : State) (code : Nat) (mand : Bool) (src : Nat) (d0 d1 : Word) (level : Nat) : JPend :=
  { code := code, mand := mand, pt := s.time.pt
    mode := match s.sys.mode with | some m => modeCode m | none => 0
    safety := safetyCode s.safe.state, addr := s.sys.addr, role := roleCode s.sys.role, source := src
    td := signedSat 16 s.thrm.td, tmax := if s.temp.maxNone then 0x8000 else signedSat 16 s.temp.maxT
    data0 := d0, data1 := d1, level := level }

/-- R41: a record queued by the core. A full queue (16) drops records of L0 and L1 and counts them; records of L2
and L3 are queued beyond it (log 30). -/
def jrnlQueue (r : JPend) (j : JrnlSt) : JrnlSt :=
  if j.queue.length ≥ 16 && decide (r.level < 2) then
    { j with dropped := satInc j.dropped 0xFFFF, dropSince := j.dropSince + 1 }
  else { j with queue := j.queue ++ [r] }

/-- A non-mandatory journal record requested (R515); a drop raises JRNL_OVERFLOW (R516). -/
def jreq (code src : Nat) (d0 d1 : Word) (level : Nat) (s : State) : State :=
  let r := jrec s code false src d0 d1 level
  let j := jrnlQueue r s.jrnl
  { s with jrnl := j
           col := if j.dropped == s.jrnl.dropped && j.dropSince == s.jrnl.dropSince then s.col
                  else colRaise srcJrnlOverflow 0 s.col }

/-- A mandatory record, for the keep-alive journal engine (R515). -/
def jreqMand (code src : Nat) (d0 d1 : Word) (s : State) : State :=
  { s with jrnl := { s.jrnl with mand := s.jrnl.mand ++ [jrec s code true src d0 d1 3] } }

/-! ### Recorder triggers (R459, R473) -/

/-- R454: frames per page at a rate. -/
def framesPerPage (rate : Nat) : Nat := if rate = 2 then 10 else 8
/-- R454: `REC.CAP`, the frames the ring holds at a rate. -/
def recCap (rate : Nat) (r : RecSt) : Nat := (65536 - r.retired.length) * framesPerPage rate
/-- R460: the frames that a trigger of this moment has written after its trigger frame. -/
def postFrames (s : State) : Nat := ((recCap (fld s .recCfg 1 0) s.bob - 1) * (8 - fld s .recCfg 7 4)) / 8

/-- R45, R459: pack time steps from `b0` to `b1` within a stitch: the trigger that waits for the frames of that stitch goes with
it. -/
def trigStep (b0 b1 : BitVec 64) (r : RecSt) : RecSt :=
  match r.trig with
  | some (c, src, _, pb) =>
    if pb == b0 then
      let st : BitVec 16 := BitVec.ofNat 16 (b1.toNat / 1000)
      { r with trig := some (c, src, st, b1), trigSt := st, trigPt := b1 }
    else r
  | none => r

/-- A trigger of R459 with its cause and source, in the stitch `st` whose boundary was at `ptB`; `n` are its post-trigger
frames. -/
def recTrigger (cause src : Nat) (st : BitVec 16) (ptB : BitVec 64) (n : Nat) (r : RecSt) : RecSt :=
  match r.st with
  | 1 => { r with st := 2, cause := cause, trigSrc := src, trig := some (cause, src, st, ptB), trigSt := st, trigPt := ptB
                  post := n }
  | 2 =>
    match r.trig with
    | some (c, _, ts, pb) =>
      if ts == st && decide (cause < c) then
        { r with cause := cause, trigSrc := src, trig := some (cause, src, ts, pb), trigCnt := satInc r.trigCnt 0xFFFF }
      else { r with trigCnt := satInc r.trigCnt 0xFFFF }
    | none => { r with trigCnt := satInc r.trigCnt 0xFFFF }
  | 3 => { r with trigCnt := satInc r.trigCnt 0xFFFF }
  | _ => r

/-- R130, R308: the SEQ of a new broadcast: the first that no broadcast noted and no frame kept for repetition carries with its opcode
and TAG, and that no frame in flight carries or comes to carry where numbers of earlier ones are given back (R126), so that the
answers to it are told from theirs (log 63). -/
def bcastSeq (op : Nat) (tag : BitVec 6) (s : State) : BitVec 8 :=
  let same (t : Trans) : Bool := t.op == op && t.tag == tag
  let near (q : Nat) (t : Trans) : Bool := decide ((t.seq - BitVec.ofNat 8 q).toNat < 64)
  BitVec.ofNat 8 (((List.range 256).find? (fun q =>
    !((s.host.trans.filter same).any (near q) || (s.host.ghosts.filter same).any (fun t => t.seq.toNat == q) ||
      s.host.bcSent.any (fun k => k.op == op && k.tag == tag && k.seq.toNat == q)))).getD 0)

/-- R130: a broadcast of the head is noted by what its answers will carry, the last 64 of them. -/
def noteBcast (k : BcastKey) (s : State) : State := { s with host := { s.host with bcSent := (k :: s.host.bcSent).take 64 } }

/-- R461: an immediate freeze with its cause. A trigger that waits for its frame keeps its registers (R473). -/
def recFreeze (cause : Nat) (r : RecSt) : RecSt :=
  if r.st = 3 then r
  else
    let t := match r.trig with
      | some _ => { r with tPage := r.wPage, tFrame := r.wFrame, trig := none }
      | none => r
    if r.st = 2 && r.trig.isNone then { t with st := 3, post := 0 }
    else { t with st := 3, cause := cause, post := 0, trigSrc := 0x7F }

/-! ### Trips (R33, R378, R394) -/

/-- The flags of R379 that one channel's state carries, bit [16] of R379 at bit 0. -/
def chanFlags (c : ChanSt) : BitVec 8 :=
  BitVec.ofNat 8 ((if c.ov || c.lowChg then 128 else 0) + (if c.uv then 64 else 0) + (if c.crit then 32 else 0) +
    (if c.slt then 16 else 0) + (if c.sliChg || c.sliDsg then 8 else 0) + (if c.sdi then 4 else 0) +
    (if c.ssi then 2 else 0) + (if c.other then 1 else 0))

/-- The TRIP word of R305. -/
def tripWord (origin : BitVec 6) (chA chB : Bool) (flags : BitVec 8) (st : BitVec 16) : Word :=
  place origin.toNat 26 ||| flag chB 25 ||| flag chA 24 ||| place flags.toNat 16 ||| place st.toNat 0

/-- R304: the first word position that starts at or after `ns` ns of a stitch, on a port that sends on the boundary: word w
starts 125 ns before 2.25 µs × w. After the 444 words comes the guard; 444 is word 0 of the next stitch. -/
def nextWord (ns : Nat) : Nat := if ns ≤ 999875 then min 444 ((ns + 2374) / 2250) else 445

/-- R315, R305: the TRIP word at position `pos` of stitch `st` on a port that sends `d` ns after the head; positions from 444 on
lie in the next stitch. Each insertion carries the number of the device's stitch in which its word begins, 125 ns before its
reference (R304, log 70). -/
def tripAt (p : Port) (d : Nat) (st : BitVec 16) (pos : Nat) (w : BitVec 16 → Word) : TripTx :=
  let (k, q) := if pos < 444 then (st, pos) else (st + 1, pos - 444)
  let b := d + 2250 * q
  ⟨p, k, q, w (if b < 125 then k - 1 else if b < 1000125 then k else k + 1)⟩

/-- R301, R339: how long after the head a port sends a word of a stitch, ns: the path delay of the stream that it sends on
and the 187.5 ns of forwarding, taken as 187; a delay that is not measured counts as 0, and so does a folded port, whose IDLE
words stand in the normal positions (R323; log 70). -/
def portDelay (s : State) (p : Port) : Nat :=
  let o : Port := match p with | .l => .u | .u => .l
  let fold (q : Port) : Bool := match q with | .l => s.link.portL.folded | .u => s.link.portU.folded
  let d : BitVec 16 := if (if fold o then p else o) == .l then s.enum.dOut else s.enum.dBack
  if isHead s || fold p || d == 0xFFFF then 0 else d.toNat + 187

/-- R33, R315: a TRIP word goes out on a port at its next word boundary and at the following one. -/
def portInserts (w : BitVec 16 → Word) (s : State) (p : Port) : List TripTx :=
  let d := portDelay s p
  let n := s.time.ns
  let st := if d ≤ n then stitch s else stitch s - 1
  let k := nextWord (if d ≤ n then n - d else n + 1000000 - d)
  [tripAt p d st k w, tripAt p d st (k + 1) w]

/-- R33, R315: the TRIP words of each transmitting port. -/
def tripInserts (w : BitVec 16 → Word) (s : State) : List TripTx :=
  if portsSend s then portInserts w s .l ++ portInserts w s .u else []

/-- A change of the safety state toward TRIPPED or LOCKOUT is a change (R394). -/
def tripRises (from_ tgt : Safety) : Bool :=
  match from_, tgt with
  | .lockout, _ => false
  | .tripped, .lockout => true
  | .tripped, _ => false
  | _, _ => true

/-- Both safety channels' state after a trip: state, cause, pins low at once (R33, R391). Flag [16] of R379 is held
from the trip until an acknowledge (log 31). -/
def safeTrip (tgt : Safety) (flags : BitVec 8) (chA chB : Bool) (origin : BitVec 6) (st : BitVec 16) (x : SafeSt) :
    SafeSt :=
  if tripRises x.state tgt then
    { x with state := tgt, pins := 0, causeStitch := st, causeFlags := flags, causeA := chA, causeB := chB
             causeOrigin := origin, byDeadline := false, tripNow := true
             a := { x.a with other := x.a.other || (chA && flags.getLsbD 0) }
             b := { x.b with other := x.b.other || (chB && flags.getLsbD 0) } }
  else { x with
    pins := 0, tripNow := true
    a := { x.a with other := x.a.other || (chA && flags.getLsbD 0) }
    b := { x.b with other := x.b.other || (chB && flags.getLsbD 0) } }

/-- R315: a decision of this device's channels that no TRIP word has carried since the last acknowledge: one that changes
the safety state, or one by a channel or with a flag that was not among those decided (log 70). -/
def tripNews (tgt : Safety) (flags : BitVec 8) (chA chB : Bool) (x : SafeSt) : Bool :=
  tripRises x.state tgt || (chA && flags &&& ~~~ x.saidA != 0) || (chB && flags &&& ~~~ x.saidB != 0)

/-- A trip: the safety state changes at once, TRIP words go out for what a channel of this device decided (R33, R315,
R378), and the recorder is triggered (R459). -/
def trip (tgt : Safety) (flags : BitVec 8) (chA chB : Bool) (origin : BitVec 6) (word : Bool) (s : State) : State :=
  let x := safeTrip tgt flags chA chB origin (stitch s) s.safe
  { s with
    safe := if word then
        { x with saidA := if chA then x.saidA ||| flags else x.saidA, saidB := if chB then x.saidB ||| flags else x.saidB }
      else x
    link := if tripNews tgt flags chA chB s.safe && word then
        { s.link with tripTx := s.link.tripTx ++ tripInserts (tripWord origin chA chB flags) s } else s.link
    bob := if tripRises s.safe.state tgt then recTrigger 1 0x7F (stitch s) s.time.ptB (postFrames s) s.bob else s.bob }

/-- A trip of this device's own function with flags of R379, decided by the named channels. -/
def tripOwn (flags : BitVec 8) (chA chB : Bool) (s : State) : State :=
  trip .tripped flags chA chB s.sys.addr true s

/-! ### Permit pins (R391, R93) -/

/-- R391: the conditions on every pin: RUN, state NORMAL or DEGRADED, and no TRIP-word hold (R316). -/
def permitBase (s : State) : Bool :=
  inMode s .run && coreRuns s && !tripped s && s.link.hold.isNone

/-- R390: a channel's pack permit of a direction in force; at the head no condition of its own has ended it. -/
def packPermit (s : State) (ch : Chan) (dsg : Bool) : Bool :=
  let c := match ch with | .a => s.safe.a | .b => s.safe.b
  let own := inMode s .run && !tripped s && !(if dsg then c.uv || c.sliDsg else c.ov || c.lowChg || c.sliChg)
  (match ch with
   | .a => if dsg then s.safe.dsgA else s.safe.chgA
   | .b => if dsg then s.safe.dsgB else s.safe.chgB) && (!isHead s || own)

/-- R390: the pack permit of a direction, the AND of both channels. -/
def packChg (s : State) : Bool := packPermit s .a false && packPermit s .b false
@[inherit_doc packChg] def packDsg (s : State) : Bool := packPermit s .a true && packPermit s .b true

/-- R391: the pins that may be high, bits 3 to 0: PCA, PCB, PDA, PDB. -/
def permitAllowed (s : State) : BitVec 4 :=
  if permitBase s then
    BitVec.ofNat 4
      ((if !(s.safe.a.ov || s.safe.a.lowChg || s.safe.a.sliChg) && s.safe.chgA && !s.safe.gate then 8 else 0) +
       (if !(s.safe.b.ov || s.safe.b.lowChg || s.safe.b.sliChg) && s.safe.chgB then 4 else 0) +
       (if !(s.safe.a.uv || s.safe.a.sliDsg) && s.safe.dsgA && !s.safe.gate then 2 else 0) +
       (if !(s.safe.b.uv || s.safe.b.sliDsg) && s.safe.dsgB then 1 else 0))
  else 0

/-- Pins that may no longer be high fall at once (R391). -/
def settle (s : State) : State := { s with safe := { s.safe with pins := s.safe.pins &&& permitAllowed s } }

/-- The HWSL drives PCB and PDB from its own state (R14, R391); channel A's pins keep their levels. -/
def driveB (s : State) : State :=
  { s with safe := { s.safe with pins := (s.safe.pins &&& 0b1010#4) ||| (permitAllowed s &&& 0b0101#4) } }

/-- Channel A drives PCA and PDA (R31, R391). -/
def driveA (s : State) : State :=
  { s with safe := { s.safe with pins := (s.safe.pins &&& 0b0101#4) ||| (permitAllowed s &&& 0b1010#4) } }

/-- R32: a step of channel A's safety task that is taken after the task's end: what the task reports follows in the
flags that the step changed, and in no other. -/
def aStep (f : State → State) (s : State) : State :=
  let t := f s
  let x := chanFlags s.safe.a
  let y := chanFlags t.safe.a
  if s.time.safeNow.isSome then { t with safe := { t.safe with sumA := (t.safe.sumA ||| (y &&& ~~~ x)) &&& ~~~ (x &&& ~~~ y) } }
  else t

/-- How a meaning ends: the next state, with every pin that R391 no longer allows low. -/
def done (s : State) : Out := .next (settle s)

/-! ### Byte memories: the OTP array and the bobbin -/

/-- A canonical byte memory whose unlisted bytes read 0: addresses strictly rising, no listed zero byte. -/
def memWf : List Host.Cell → Bool
  | [] => true
  | [c] => c.2 != 0
  | c :: d :: l => c.2 != 0 && decide (c.1 < d.1) && memWf (d :: l)

/-- One byte. -/
def memGet (m : List Host.Cell) (a : Nat) : Byte :=
  match m with
  | [] => 0
  | c :: l => if c.1 = a then c.2 else memGet l a

/-- One byte written; a zero byte removes the entry. -/
def memSet (m : List Host.Cell) (a : Nat) (v : Byte) : List Host.Cell :=
  match m with
  | [] => if v = 0 then [] else [(a, v)]
  | c :: l =>
    if a < c.1 then (if v = 0 then c :: l else (a, v) :: c :: l)
    else if c.1 = a then (if v = 0 then l else (a, v) :: l)
    else c :: memSet l a v

/-- Bytes written at rising addresses. -/
def memSetBytes (m : List Host.Cell) (a : Nat) : List Byte → List Host.Cell
  | [] => m
  | v :: vs => memSetBytes (memSet m a v) (a + 1) vs

/-- `n` bytes from an address. -/
def memGetBytes (m : List Host.Cell) (a : Nat) : Nat → List Byte
  | 0 => []
  | n + 1 => memGet m a :: memGetBytes m (a + 1) n

/-- The big-endian word at an address. -/
def memWord (m : List Host.Cell) (a : Nat) : Word := BitVec.ofNat 32 (bytesNat (memGetBytes m a 4))

end Sys2Proof.Machine
end

