-- ==== Sys2Proof/Machine/Operands.lean ====
section
/-! DEFINITION. The number formats of the spec: voltage codes, window averages, current conversions, and the pieces
of a slot's conversions that a result is formed from (R151 to R162, R194 to R202). -/

namespace Sys2Proof.Machine

/-- R162: the chain-compressed code of a voltage in µV. -/
def chainCode (v : Int) : Nat :=
  let c := divRoundUp (v + 500000) 100
  if c < 0 then 0 else if c > 0xFFEF then 0xFFEF else c.toNat

/-- R161: an average inside −0.5 V to +5.5 V without an overload. -/
def avgOk (a : Avg) : Bool := a.ovl == 0 && decide (-500000 ≤ a.v) && decide (a.v ≤ 5500000)

/-- R153: the overload of a list of sub-samples: 1, −1, or 0 for none. -/
def ovlOf (l : List Sub) : Int :=
  let p := l.any (fun x => decide (0 < x.ovl))
  let n := l.any (fun x => decide (x.ovl < 0))
  if p && n then (if Config.mixedOverload (l.map Sub.ovl) then 1 else -1) else if p then 1 else if n then -1 else 0

/-- R151, R153: the average of `len` sub-samples; none when the window is not whole. The stack mean of R159 is rounded
here to 100 µV, halves away from zero, before its correction (DESIGN CHOICE: R159 gives no rounding; log 50). -/
def avgOf (len : Nat) (l : List Sub) : Option Avg :=
  if l.length = len ∧ 0 < len then
    let o := ovlOf l
    some ⟨if o = 1 then 0x7FFFFF else if o = -1 then -0x800000
          else divRound (l.foldl (fun a x => a + x.v) 0) len, o⟩
  else none

/-- The slots of a window of a stitch's list. -/
def winOf {α : Type} (first len : Nat) (l : List α) : List α := (l.drop first).take len

/-- R151: the averages of the 32 cells over a window. -/
def cellAvgs (first len : Nat) (subs : List (List Sub)) : List (Option Avg) :=
  (List.range 32).map (fun n => avgOf len ((winOf first len subs).filterMap (fun r => r[n]?)))

/-- R157: sum and number of the cross-check samples of cell `n`: the window's samples but the one acquired within
the first 8 µs of its first slot. -/
def coarseSum (first len n : Nat) (l : List (Fin 8 × Fin 32 × Nat × Bool)) : Nat × Nat :=
  l.foldl (fun a e =>
    if e.2.1.val = n && decide (first ≤ e.1.val) && decide (e.1.val < first + len) &&
        !(e.1.val == first && n % 8 == 0) then (a.1 + e.2.2.1, a.2 + 1) else a) (0, 0)

/-- R182: a mean rounded to the nearest code. DESIGN CHOICE (log 69): one exactly halfway between two codes, up. -/
def meanCode (m : Nat × Nat) : Nat := if m.2 = 0 then 0 else (2 * m.1 + m.2) / (2 * m.2)

/-- R172: |D| of an average and a coarse mean, as a fraction of µV. -/
def diffOf (v : Int) (m : Nat × Nat) : Nat × Nat :=
  ((v * m.2 - (2000 * (m.1 : Int) - 500000 * m.2)).natAbs, m.2)

/-- R196: I_A of a shunt voltage (40 nV) in 10 mA steps. DESIGN CHOICE (log 75): exact halves away from zero, where R196 says
only nearest. -/
def iaSteps (rshunt : Nat) (v : Int) : Int := if rshunt = 0 then 0 else divRound (v * 4000) rshunt

/-- R196: |I_A| of a shunt voltage exceeds `amps`, exactly; `pos` chooses the sign that is compared. -/
def iaBeyond (rshunt : Nat) (v : Int) (pos : Bool) (amps : Nat) : Bool :=
  let x := if pos then v else -v
  decide ((amps : Int) * rshunt < x * 40)

/-- R199: I_B of an IAUX code, in 1/160 of 10 mA. -/
def ib160 (s : State) (code : Nat) : Int :=
  (5 * (code : Int) - 4 * (fld s .syncIauxCal 31 16 : Nat)) * toSigned 16 (fld s .syncIauxCal 15 0)

/-- R199: I_B of an IAUX code in 10 mA steps. DESIGN CHOICE (log 75): to the nearest step, halves away from zero; R199 gives no
rounding. -/
def ibSteps (s : State) (code : Nat) : Int := divRound (ib160 s code) 160

/-- R199: I_B of a code exceeds `amps` in the direction `pos`. -/
def ibBeyond (s : State) (code : Nat) (pos : Bool) (amps : Nat) : Bool :=
  let x := if pos then ib160 s code else -(ib160 s code)
  decide ((amps : Int) * 16000 < x)

/-- R201: an IAUX code lies inside IAUX_LO to IAUX_HI (20 mV against 1.25 mV steps). -/
def iauxIn (s : State) (code : Nat) : Bool :=
  decide (16 * fld s .syncIcfg 23 16 ≤ code) && decide (code ≤ 16 * fld s .syncIcfg 31 24)

/-- R202: |I_A − I_B| exceeds ICHK. I_A = 40 v / R A, I_B = x / 16000 A. -/
def iDiffers (s : State) (v : Int) (code : Nat) : Bool :=
  let r := fld s .syncRshunt 23 0
  decide ((fld s .syncIcfg 15 4 * 16000 * r) < (v * 640000 - ib160 s code * r).natAbs)

/-- R200: a shunt value outside ±320 mV. -/
def shuntOut (v : Int) : Bool := decide (8000000 < v.natAbs)

/-- A 24-bit two's complement field. -/
def u24 (v : Int) : Nat := signedSat 24 v

/-- R159: the stack voltage in µV from the pin's average (100 µV). -/
def stackUv (s : State) (a : Avg) : Int := a.v * 100 + (s.meas.iin * fld s .measStk 4 0 : Nat)

/-- R160, R181: a voltage in µV as an unsigned field of 21 bits in 100 µV steps, rounded once more after the correction
of R159 (DESIGN CHOICE; log 50). DESIGN CHOICE (log 78): a value outside the field reads as its nearest end. -/
def field100 (uv : Int) : Nat :=
  let c := divRound uv 100
  if c < 0 then 0 else if c > 0x1FFFFF then 0x1FFFFF else c.toNat

end Sys2Proof.Machine
end

