-- ==== Sys2Proof/Machine/Meas.lean ====
section
/-! DEFINITION. Cell measurement: window results, cross-checks, publication of the CELL and CRSE pages, harness checks
(05_cell_measurement; R63, R64; R42). The data judged are those of the stitch that ended last (the `prev` fields). -/

namespace Sys2Proof.Machine

/-! ### Window results (R27, R151, R157) -/

/-- The coarse sums of the 32 cells. -/
def coarseSums (first len : Nat) (l : List (Fin 8 × Fin 32 × Nat × Bool)) : List (Nat × Nat) :=
  (List.range 32).map (fun n => coarseSum first len n l)

/-- R242: the coarse sum of cell `n` for `CRSE.Ck` and its cross-check, from which CTT withholds it: then there is no sample. -/
def crseSum (m : MeasSt) (n : Nat) : Nat × Nat :=
  if m.cttPrev.any (fun c => c.val == n) then (0, 0) else m.res.coarse.getD n (0, 0)

/-- R199: sum and number of the IAUX codes of a window. -/
def iauxSum (first len : Nat) (l : List (Fin 8 × Fin 4 × Nat)) : Nat × Nat :=
  l.foldl (fun a e => if e.2.1.val = 0 && decide (first ≤ e.1.val) && decide (e.1.val < first + len)
    then (a.1 + e.2.2, a.2 + 1) else a) (0, 0)

/-- The results of the stitch that ended. -/
def prevRes (m : MeasSt) : MwRes :=
  { cells := if m.prevModOn then cellAvgs m.prevFirst m.prevLen m.prevSubs else List.replicate 32 none
    stack := if m.prevModOn then avgOf m.prevLen (winOf m.prevFirst m.prevLen m.prevStack) else none
    shunt := if m.prevModOn then avgOf m.prevLen (winOf m.prevFirst m.prevLen m.prevShunt) else none
    coarse := coarseSums m.prevFirst m.prevLen m.prevCoarse
    iaux := iauxSum m.prevFirst m.prevLen m.prevAux }

/-- The results of the running stitch, whose window has ended. -/
def nowRes (m : MeasSt) : MwRes :=
  { cells := if m.modOn then cellAvgs m.mwFirst m.mwLen m.subs else List.replicate 32 none
    stack := if m.modOn then avgOf m.mwLen (winOf m.mwFirst m.mwLen m.stackSubs) else none
    shunt := if m.modOn then avgOf m.mwLen (winOf m.mwFirst m.mwLen m.shuntSubs) else none
    coarse := coarseSums m.mwFirst m.mwLen m.coarse
    iaux := iauxSum m.mwFirst m.mwLen m.aux }

/-- The results of the stitch that ended are complete. -/
def mwFinish (m : MeasSt) : MeasSt := if m.complete then m else { m with complete := true, res := prevRes m }

/-- R27: results become complete: those of the stitch that ended, or, once its window has ended, of the running one. -/
def mwComplete (slot : Nat) (m : MeasSt) : MeasSt :=
  if !m.complete then mwFinish m
  else if !m.nextDone && decide (m.mwFirst + m.mwLen ≤ slot) then { m with nextDone := true, next := nowRes m }
  else m

/-- MW_RESULT_COMPLETE (R27). -/
def execMwResultComplete (s : State) : Out := done { s with meas := mwComplete s.time.slot.val s.meas }

/-! ### What is published (R164, R165, R239) -/

/-- R239: an open wire stands on cell `n`. -/
def owStands (s : State) (n : Nat) : Bool := s.diag.owPin.getLsbD n || s.diag.owPin.getLsbD (n + 1)

/-- R149, R154, R169, R100: the stream of the stitch that ended is one whose results are published: in COMMISSION and
RUN, and outside them when the modulators ran for a self-test or a verification (log 52). DESIGN CHOICE (log 69): the mode is
that of the moment, so the last stitch of COMMISSION or RUN, processed when the mode is STANDBY already, is not published. -/
def streamGate (s : State) : Bool :=
  s.meas.prevModOn && !s.meas.prevSettling && (streaming s || s.meas.testPrev) && s.meas.donePrev

/-- R164: cell `n` has a published value in the stitch that ended. -/
def cellPub (s : State) (n : Nat) : Bool :=
  populated s n && !owStands s n && streamGate s && !bit s.meas.heldPrev n && (s.meas.res.cells.getD n none).isSome

/-- The MW average of cell `n` when it is published and in range. -/
def cellGood (s : State) (n : Nat) : Option Int :=
  match s.meas.res.cells.getD n none with
  | none => none
  | some a => if cellPub s n && avgOk a then some a.v else none

/-- R168: history discarded; a standing XDIS stays. The filter's value is left where it is and primed at the next
publication. -/
def cellDiscard (c : Cell) : Cell := { c with age := none, prime := true, dis := 0, noDis := 0, past := [] }

/-- R169: the stream starts again. -/
def cellRestart (c : Cell) : Cell := { cellDiscard c with started := false, unpub := 0 }

/-! ### The checks of the safety task (R172 to R175) -/

/-- R103: stitches since v0, when this stitch is one of them. DESIGN CHOICE (log 69): the count goes on in a stitch in which the
cell is not published, so a HIST that R168 keeps can be clear at once when publication resumes. -/
def nextAge (pub : Bool) (a : Option Nat) : Option Nat :=
  match a with
  | some k => some (k + 1)
  | none => if pub then some 0 else none

/-- The check of a cell has been reached (R103). -/
def aged (k : Nat) (a : Option Nat) : Bool := match a with | none => false | some x => decide (k ≤ x)

/-- R172: cell evaluated against its coarse mean; a disagreement. -/
def checkCell (xthr : Nat) (pub : Bool) (good : Option Int) (cm : Nat × Nat) (c : Cell) : Cell :=
  let c1 := { c with age := nextAge pub c.age }
  match good with
  | none => { c1 with past := (none :: c1.past).take 8 }
  | some v =>
    let c2 := { c1 with past := (some v :: c1.past).take 8 }
    if aged 3 c1.age && decide (0 < cm.2) then
      if xthr * 1000 * cm.2 < (diffOf v cm).1 then { c2 with dis := c2.dis + 1, noDis := 0 }
      else { c2 with noDis := c2.noDis + 1, dis := 0 }
    else c2

/-- R175: the difference to the average of 8 stitches before, where both were published in range: where the check is evaluated. -/
def rocDiff (good : Option Int) (age : Option Nat) (past : List (Option Int)) : Option Nat :=
  match good, past.getD 7 none with
  | some v, some w => if aged 8 age then some (v - w).natAbs else none
  | _, _ => none

/-- R175: the average differs from that of 8 stitches before by more than ROC_MV. -/
def rocFires (roc : Nat) (good : Option Int) (age : Option Nat) (past : List (Option Int)) : Bool :=
  (rocDiff good age past).any (fun d => decide (roc * 1000 < d))

/-- A larger difference of two fractions. DESIGN CHOICE (log 69): of equal ones the first, so the lowest cell, stays (R182). -/
def diffMax (a b : Option (Nat × Nat × Nat)) : Option (Nat × Nat × Nat) :=
  match a, b with
  | none, x => x
  | x, none => x
  | some x, some y => if x.2.1 * y.2.2 < y.2.1 * x.2.2 then some y else some x

/-- R182: the largest evaluated |D| of the stitch. -/
def diffBest (s : State) (ages : List (Option Nat)) : Option (Nat × Nat × Nat) :=
  (List.range 32).foldl (fun m n =>
    let cm := crseSum s.meas n
    match cellGood s n with
    | none => m
    | some v => if aged 3 (ages.getD n none) && decide (0 < cm.2) then
        diffMax m (some (n + 1, (diffOf v cm).1, cm.2)) else m) none

/-- R174: the sum of the populated cells' averages, when every one is published in range. -/
def cellSum (s : State) : Option Int :=
  (List.range (ncell s)).foldl (fun m n => match m, cellGood s n with
    | some a, some v => some (a + v)
    | _, _ => none) (some 0)

/-- R160: the stack average of the stitch, in µV after R159, when published in range: 0 to 209.7 V at the pin, the field
of `CELL.VSTK`, and without overload (DESIGN CHOICE: R174 names no range of the stack channel; log 50). -/
def stackGood (s : State) : Option Int :=
  match s.meas.res.stack with
  | none => none
  | some a => if streamGate s && !s.meas.auxHeldPrev.getLsbD 0 && a.ovl == 0 && decide (0 ≤ a.v) && decide (a.v ≤ 2097000)
    then some (stackUv s a) else none

/-- R174: the stack-sum evaluation: Σ − VSTK in µV, and whether it exceeds 0.002 VSTK + 20 mV. -/
def sumEvalOf (s : State) (ages : List (Option Nat)) : Option (Int × Bool) :=
  match cellSum s, stackGood s with
  | some a, some v =>
    if (List.range (ncell s)).all (fun n => aged 2 (ages.getD n none)) then
      some (a - v, decide (2 * v + 20000000 < 1000 * ((a - v).natAbs : Int)))
    else none
  | _, _ => none

/-- The measurement part of the safety task: the checks of R172, R174 and R175 on the stitch that ended. DESIGN CHOICE (log 80):
SUM_ARMED, XCHK_ARMED and ROC_ARMED stay set over a restart of the stream, until the next start (R181). -/
def measChecks (s0 : State) : State :=
  let s := { s0 with meas := mwFinish s0.meas }
  let cells := (List.range 32).map (fun n =>
    checkCell (fld s .measXchk 5 0) (cellPub s n) (cellGood s n) (crseSum s.meas n) (s.meas.cells.getD n {}))
  let ages := cells.map Cell.age
  let roc := mapBits 32 (fun n =>
    rocFires (fld s .measRoc 10 0) (cellGood s n) (ages.getD n none) (s.meas.cells.getD n {}).past)
  let ev := sumEvalOf s ages
  let m := s.meas
  let best := diffBest s ages
  let m1 := { m with
    cells := cells, diff := best, sumEval := ev, decided := true
    sumFail := match ev with | some (_, true) => m.sumFail + 1 | some (_, false) => 0 | none => m.sumFail
    sumOk := match ev with | some (_, false) => m.sumOk + 1 | some (_, true) => 0 | none => m.sumOk
    armed := m.armed ||| (if ev.isSome then 1 else 0) ||| (if best.isSome then 2 else 0) |||
      (if (List.range 32).any (fun n =>
        (rocDiff (cellGood s n) (ages.getD n none) (s.meas.cells.getD n {}).past).isSome) then 4 else 0) }
  { s with meas := m1, col := if roc = 0 then s.col else colRaise srcCellRoc roc s.col }

/-! ### XDIS and SUM_MISMATCH (R173, R174) -/

/-- The cells on which XDIS stands. -/
def xdisMap (m : MeasSt) : Word := mapBits 32 (fun n => (m.cells.getD n {}).xdis)

/-- R173: XDIS of a cell set on its third disagreement and cleared after 8 evaluated stitches without one. -/
def xdisCell (c : Cell) : Cell :=
  if !c.xdis && decide (3 ≤ c.dis) then { c with xdis := true }
  else if c.xdis && decide (8 ≤ c.noDis) then { c with xdis := false } else c

/-- R173, R176: XDIS of the cells in a list brought up to date, and its source. -/
def xdisApply (l : List Nat) (s : State) : State :=
  let m := { s.meas with cells := l.foldl (fun cs n => updAt cs n xdisCell) s.meas.cells }
  let before := xdisMap s.meas
  let after := xdisMap m
  { s with meas := m
           col := if after &&& ~~~ before != 0 then colStand srcXdis true (after &&& ~~~ before) s.col
                  else if after = 0 then colStand srcXdis false 0 s.col else s.col }

/-- R174: SUM_MISMATCH raised on the second failure and cleared after 8 stitches within tolerance. -/
def sumApply (s : State) : State :=
  if !s.meas.sumBad && decide (2 ≤ s.meas.sumFail) then
    stand srcSumMismatch true { s with meas := { s.meas with sumBad := true } }
  else if s.meas.sumBad && decide (8 ≤ s.meas.sumOk) then
    stand srcSumMismatch false { s with meas := { s.meas with sumBad := false } }
  else s

/-- SUM_MISMATCH (R174). -/
def execSumMismatch (s : State) : Out := done (sumApply s)

/-! ### Harness checks (R63, R64) -/

/-- R64: sum and number of the coarse samples of cell `n` taken inside the window of the stitch that ended, or outside. -/
def coarseSide (m : MeasSt) (inside : Bool) (n : Nat) : Nat × Nat :=
  m.prevCoarse.foldl (fun (a : Nat × Nat) e =>
    if e.2.1.val = n && (decide (m.prevFirst ≤ e.1.val) && decide (e.1.val < m.prevFirst + m.prevLen)) == inside
    then (a.1 + e.2.2.1, a.2 + 1) else a) (0, 0)

/-- R64: what a stitch adds to a bleeding cell's means: the coarse samples outside the window and inside it. -/
def bleedSums (m : MeasSt) (n : Nat) : (Nat × Nat) × (Nat × Nat) := (coarseSide m false n, coarseSide m true n)

/-- R64: over 8 consecutive stitches, the means of the coarse samples of a bleeding cell outside the window and inside it
differ by more than 50 mV. -/
def bleedShift (l : List ((Nat × Nat) × (Nat × Nat))) : Bool :=
  let t := l.foldl (fun (a : (Nat × Nat) × (Nat × Nat)) e =>
    ((a.1.1 + e.1.1, a.1.2 + e.1.2), (a.2.1 + e.2.1, a.2.2 + e.2.2))) ((0, 0), (0, 0))
  let out := t.1
  let inn := t.2
  l.length == 8 && decide (0 < out.2) && decide (0 < inn.2) &&
    decide (25 * out.2 * inn.2 < ((out.1 : Int) * inn.2 - (inn.1 : Int) * out.2).natAbs)

/-- R63: the coarse reading of an unpopulated cell, the mean of its samples of R157, outside −100 mV to +100 mV
(DESIGN CHOICE: R63 does not say which reading of a stitch is judged; log 50). -/
def harnessOutside (m : MeasSt) (n : Nat) : Bool :=
  let cm := coarseSum m.prevFirst m.prevLen n m.prevCoarse
  decide (100000 * cm.2 < (2000 * (cm.1 : Int) - 500000 * cm.2).natAbs)

/-- R63, R64: the counts of the stitch that ended; `bled` are the cells that bled in it. DESIGN CHOICE (log 50): R63's
stitches in a row are counted over all unpopulated cells together, whichever of them reads outside, and R64's mean
difference is that of the samples of 8 stitches in a row in each of which the cell bled. -/
def harnessCount (bled : Word) (s : State) : State :=
  let m := s.meas
  let out := mapBits 32 (fun n => !populated s n && harnessOutside m n)
  { s with meas := { m with
    harnessOut := if out != 0 then m.harnessOut + 1 else 0, harnessOk := if out != 0 then 0 else m.harnessOk + 1
    harnessCells := out
    shift := (List.range 32).map (fun n =>
      if kelvin s && populated s n && bit bled n then (bleedSums m n :: m.shift.getD n []).take 8 else []) } }

/-- R64: the cells whose coarse samples the bleeding has shifted. -/
def shiftedCells (m : MeasSt) : Word := mapBits 32 (fun n => bleedShift (m.shift.getD n []))

/-- R63, R64, R444: HARNESS_MISMATCH brought up to date, with the cells that raise it. -/
def harnessApply (s : State) : State :=
  let shifted := shiftedCells s.meas
  let out := decide (3 ≤ s.meas.harnessOut)
  if !s.meas.harnessBad && (out || shifted != 0) then
    standCells srcHarnessMismatch true ((if out then s.meas.harnessCells else 0) ||| shifted)
      { s with meas := { s.meas with harnessBad := true } }
  else if s.meas.harnessBad && decide (3 ≤ s.meas.harnessOk) && shifted == 0 then
    stand srcHarnessMismatch false { s with meas := { s.meas with harnessBad := false } }
  else s

/-- HARNESS_MISMATCH (R63, R64). -/
def execHarnessMismatch (s : State) : Out := done (harnessApply s)

/-! ### Publication (R161 to R168, R177, R182) -/

/-- R166, R167, R170: the filter after a published average. -/
def filterStep (k : Nat) (c : Cell) (v : Int) : Int :=
  if c.prime then v * 256 else c.y + divRound (v * 256 - c.y) (2 ^ k)

/-- R164: one cell's word and code after a publication (log 69 for HIST after a gap). -/
def publishCell (s : State) (k n : Nat) (pub : Bool) (c : Cell) : Cell :=
  let unp := c.unpub + 1
  let miss (c : Cell) : Cell :=
    let d := { c with unpub := unp, stale := true }
    if 16 < unp then cellDiscard d else d
  if !populated s n then
    { cellDiscard c with stale := true, hist := false, oor := false, xd := false, value := 0, code := 0xFFF1 }
  else if owStands s n then { miss c with code := 0xFFF2 }
  else match pub, s.meas.res.cells.getD n none with
    | true, some a =>
      let y := filterStep k c a.v
      let age := match c.age with | some x => x | none => 0
      let hAt := if c.prime then age + max (2 ^ k) 8 else c.histAt
      let v := divRound y 256
      { c with stale := false, started := true, prime := false, y := y, histAt := hAt, hist := decide (age < hAt)
               oor := !avgOk a, xd := c.xdis, value := v, unpub := 0, age := some age
               code := if avgOk a then chainCode v else 0xFFF3 }
    | _, _ =>
      if c.started then { miss c with code := 0xFFF0 }
      else { miss c with hist := true, oor := false, xd := false, value := 0, code := 0xFFF0 }

/-- R181: the lowest or the highest in-range average, its cell and its code. DESIGN CHOICE (log 69): of equal averages the
lowest cell. -/
def extreme (s : State) (low : Bool) : Nat × Nat :=
  match (List.range 32).foldl (fun (m : Option (Nat × Int)) n => match m, cellGood s n with
      | none, some v => some (n + 1, v)
      | some x, some v => if (low && decide (v < x.2)) || (!low && decide (x.2 < v)) then some (n + 1, v) else some x
      | x, none => x) none with
  | none => (0, 0xFFF0)
  | some x => (x.1, chainCode x.2)

/-- R182: the highest or lowest accepted coarse sample among populated cells of a list of samples. DESIGN CHOICE (log 69): of
equal samples the lowest cell. -/
def coarseExtreme (nc : Nat) (high : Bool) (l : List (Fin 8 × Fin 32 × Nat × Bool)) : Nat × Nat :=
  match l.foldl (fun (m : Option (Nat × Nat)) e =>
      if !e.2.2.2 || decide (nc ≤ e.2.1.val) then m
      else match m with
        | none => some (e.2.1.val + 1, e.2.2.1)
        | some x => if (high && decide (x.2 < e.2.2.1)) || (!high && decide (e.2.2.1 < x.2)) ||
            (e.2.2.1 == x.2 && decide (e.2.1.val + 1 < x.1)) then some (e.2.1.val + 1, e.2.2.1) else some x) none with
  | none => (0, 0)
  | some x => x

/-- R182: the last conversion of SAR `k`'s auxiliary channel in a stitch; the old value when there is none. -/
def auxLast (k old : Nat) (l : List (Fin 8 × Fin 4 × Nat)) : Nat :=
  l.foldl (fun a e => if e.2.1.val = k then e.2.2 else a) old

/-- R182: the CRSE page of the stitch that ended. DESIGN CHOICE (log 78): a cell whose coarse mean CTT withholds (R242) keeps the
code last published. -/
def publishCrse (nc : Nat) (m : MeasSt) : MeasSt :=
  let hi := coarseExtreme nc true m.prevCoarse
  let lo := coarseExtreme nc false m.prevCoarse
  { m with
    cMean := (List.range 32).map (fun n =>
      let cm := crseSum m n
      if cm.2 = 0 then m.cMean.getD n 0 else meanCode cm)
    cmaxIdx := hi.1, cmax := hi.2, cminIdx := lo.1, cmin := lo.2
    refChk := auxLast 1 m.refChk m.prevAux, vstkC := auxLast 2 m.vstkC m.prevAux, vtRef := auxLast 3 m.vtRef m.prevAux
    acc := (mapBits 8 (fun k => m.prevCoarse.any (fun e => e.1.val == k && e.2.2.2))).setWidth 8
    xmaxIdx := match m.diff with | none => 0 | some d => d.1
    xmax := match m.diff with | none => 0 | some d => if d.2.2 = 0 then 0 else min 255 (d.2.1 / (1000 * d.2.2)) }

/-- R177: the CELL and CRSE pages of the stitch that ended, published in one step. DESIGN CHOICE (log 69): VSUM and
SUMCHK.DIFF are rounded to the nearest step, halves away from zero, and CELL.XDIS shows the standing state of the check, also
of a cell whose word reads XDIS 0 by R164. -/
def publishMeas (s : State) : State :=
  let m := s.meas
  let k := fld s .measFilt 3 0
  let cells := (List.range 32).map (fun n => publishCell s k n (cellPub s n) (m.cells.getD n {}))
  let oor := mapBits 32 (fun n => let c := cells.getD n {}; !c.stale && c.oor)
  let lo := extreme s true
  let hi := extreme s false
  let all := (List.range (ncell s)).all (fun n => cellPub s n)
  let total := (List.range (ncell s)).foldl (fun a n => match m.res.cells.getD n none with
    | some x => a + x.v | none => a) (0 : Int)
  let stk : Option Nat := match m.res.stack with
    | some a => if streamGate s && !m.auxHeldPrev.getLsbD 0 then some (field100 (stackUv s a)) else none
    | none => none
  let m1 := publishCrse (ncell s) { m with
    cells := cells, published := true, ppMissed := false, measSt := m.prevStitch
    xdisPub := xdisMap m
    vstk := match stk with | some v => v | none => m.vstk, vstkStale := stk.isNone
    vsum := if all then field100 total else m.vsum, vsumStale := !all
    sumDiff := match m.sumEval with
      | some (d, _) => let x := divRound d 1000; if x > 32767 then 32767 else if x < -32767 then -32767 else x
      | none => m.sumDiff
    sumSkip := m.sumEval.isNone
    sumOver := match m.sumEval with | some (_, b) => b | none => m.sumOver
    vminIdx := lo.1, vminCode := lo.2, vmaxIdx := hi.1, vmaxCode := hi.2 }
  { s with meas := m1, col := if oor = 0 then s.col else colRaise srcCellOor oor s.col }

/-- R42, R175: a stitch left unpublished: its cells read STALE, and its averages are compared with no later one. DESIGN CHOICE
(log 69): what the safety task counted of it for R172 and R174 before the overrun stays counted. -/
def unpublishMeas (s : State) : State :=
  let m := s.meas
  let back (c : Cell) : Cell :=
    if m.decided then { c with age := if c.age == some 0 then none else c.age, past := c.past.set 0 none } else c
  let grow (c : Cell) : Cell :=
    if m.decided then c else { c with age := nextAge false c.age, past := (none :: c.past).take 8 }
  { s with meas := { m with
    cells := (List.range 32).map (fun n => publishCell s 0 n false (grow (back (m.cells.getD n {}))))
    published := true, ppMissed := true, vstkStale := true, vsumStale := true, sumSkip := true } }

end Sys2Proof.Machine
end

