-- ==== Sys2Proof/Machine/Bal.lean ====
section
/-! DEFINITION. The balance controller: timers, the plan of a stitch, the governor, and what a bleed switch does in a
slot (07_balancing). -/

namespace Sys2Proof.Machine

/-! ### Timers (R217 to R220) -/

/-- What `BAL.TMRk` reads for cell `n`: the written value until it takes effect (R30). -/
def tmrRead (b : BalSt) (n : Nat) : Nat := match b.tmrPend.getD n none with | some v => v | none => b.tmr.getD n 0

/-- R219: a written timer value; one that changes nothing leaves timer and prescaler alone. -/
def tmrWrite (n v : Nat) (b : BalSt) : BalSt :=
  if v = tmrRead b n then b else { b with tmrPend := b.tmrPend.set n (some v) }

/-- R219: an accepted write of `BAL.TMRk`. -/
def balTimerApply (k : Nat) (v : Word) (s : State) : State :=
  { s with bal := tmrWrite (2 * k + 1) (bits v 31 16) (tmrWrite (2 * k) (bits v 15 0) s.bal) }

/-- R29, R219: written timers take effect at a boundary and restart their prescalers. -/
def tmrBoundary (b : BalSt) : BalSt :=
  { b with tmr := (List.range 32).map (fun n => tmrRead b n)
           presc := (List.range 32).map (fun n => if (b.tmrPend.getD n none).isSome then 0 else b.presc.getD n 0)
           tmrPend := List.replicate 32 none }

/-- R220: every timer and prescaler cleared. -/
def tmrClear (b : BalSt) : BalSt :=
  { b with tmr := List.replicate 32 0, presc := List.replicate 32 0, tmrPend := List.replicate 32 none }

/-- R218: after 10 000 counted stitches the timer of cell `n` decrements; at 0 its DONE bit sets. -/
def tmrDecrement (n : Nat) (b : BalSt) : BalSt :=
  if 10000 ≤ b.presc.getD n 0 then
    let t := b.tmr.getD n 0
    { b with presc := b.presc.set n 0, tmr := b.tmr.set n (t - 1)
             done := if t = 1 then b.done ||| place 1 n else b.done }
  else b

/-- BAL_TIMER_DECREMENT (R218). -/
def execBalTimerDecrement (cell : Fin 32) (s : State) : Out := done { s with bal := tmrDecrement cell.val s.bal }

/-! ### The governor (R225 to R228) -/

/-- The state as a plan sees it: the results of the stitch that ended, complete. -/
def planView (s : State) : State := { s with meas := mwFinish s.meas }

/-- R225: P in 0.1 mW, rounded up, from the highest in-range average of a populated cell. -/
def balP (v : State) : Nat :=
  let vmax := (List.range 32).foldl (fun (m : Nat) n => match v.meas.res.cells.getD n none with
    | some a => if populated v n && avgOk a then max m a.v.toNat else m
    | none => m) 0
  let rb := fld v .balRb 9 0
  if rb = 0 then 0 else (vmax * vmax * (8 - v.meas.mwLen) + (8000000 * rb * rb - 1)) / (8000000 * rb * rb)

/-- R226: B_EFF in 10 mW. -/
def balBudget (s : State) : Nat :=
  let pmax := fld s .balCfg 23 16
  let td := s.thrm.td
  if s.thrm.impl || decide (460 ≤ td) then 0
  else if td ≤ 420 then pmax
  else pmax * (460 - td).toNat / 40

/-- R227: the cells in walking order from the pointer. -/
def balWalk (ptr : Nat) : List Nat := (List.range 32).map (fun i => (ptr + i) % 32)

/-- R227: the first `m` eligible cells in walking order. -/
def balGrant (ptr m : Nat) (elig : Word) : Word :=
  (((balWalk ptr).filter (fun n => bit elig n)).take m).foldl (fun w n => w ||| place 1 n) 0

/-- R226, R229: the budget of the moment and its THERMAL bit. DESIGN CHOICE (log 78): THERMAL compares with the PMAX of the
evaluation, and a PMAX written later moves it at the next one. -/
def balSetBudget (v : Nat) (s : State) : State :=
  let th := decide (v < fld s .balCfg 23 16)
  let s1 := { s with bal := { s.bal with budget := v, thermal := th } }
  if th != s.bal.thermal then stand srcBalThermal th s1 else s1

/-- R226: a die at 115 °C or implausible ends the budget from the next boundary. -/
def balThermal (s : State) : State :=
  if s.thrm.impl || decide (460 ≤ s.thrm.td) then balSetBudget 0 s else s

/-! ### The plan (R221 to R223) -/

/-- R95, R222: a member SPLIT with no radio for MIRROR_TIMEOUT. -/
def splitSilent (s : State) : Bool := !isHead s && s.mirr.lost && s.link.state == .split

/-- R222: no cell is requested. -/
def balStopped (s : State) : Bool :=
  !inMode s .run || tripped s || fbit s .balCtrl 16 || s.meas.mwLen == 8 || fld s .balCfg 23 16 == 0 || splitSilent s

/-- R245: the cell that a balance-switch unit tests: its step on the populated cells of the group. -/
def bstCell (s : State) : Option Nat :=
  match s.diag.unit with
  | some u => if u.test = 4 then
      let n := 8 * u.group + u.count
      if n < 32 ∧ n < ncell s ∧ n < 8 * u.group + 8 then some n else none
    else none
  | none => none

/-- R231: an open-wire pause holds cells: from the boundary after the one at which it was started. -/
def pauseOn (b : BalSt) : Bool := b.pause.isSome && decide (b.pauseLeft ≤ 16)

/-- R231: cell `n` lies in the open-wire pause. -/
def inPause (s : State) (n : Nat) : Bool :=
  match s.bal.pause with
  | some g => pauseOn s.bal && decide (8 * g ≤ n + 1) && decide (n ≤ 8 * g + 8)
  | none => false

/-- R221: a hold condition of a cell, other than VMIN. -/
def balHeldCell (v : State) (n : Nat) : Bool :=
  !(cellGood v n).isSome || v.meas.ppMissed || inPause v n || bstCell v == some n

/-- R221: the average of cell `n` lies below VMIN. -/
def balLow (v : State) (n : Nat) : Bool :=
  match cellGood v n with | some x => decide (x < (1000 * fld v .balCfg 12 0 : Nat)) | none => false

/-- R223: offset of each granted cell within its run, and the length of the run; 0 length when not granted. -/
def runFrom (g : Word) (n : Nat) : Nat → Nat
  | 0 => 0
  | k + 1 => if n < 32 ∧ bit g n then 1 + runFrom g (n + 1) k else 0

/-- R223: granted cells in a row ending at cell `n` (0 to 31). -/
def runTo (g : Word) : Nat → Nat
  | 0 => if bit g 0 then 1 else 0
  | n + 1 => if bit g (n + 1) then 1 + runTo g n else 0

/-- R223: the closed set of the granted cells in stitch `k`. -/
def interleave (g : Word) (k : Nat) : Word :=
  mapBits 32 (fun n => bit g n &&
    !(decide (3 ≤ runTo g n + runFrom g (n + 1) 32) && decide ((runTo g n - 1) % 3 = k % 3)))

/-- R221: the plan of the stitch that begins. It may be formed again at the same boundary. -/
def planStitch (s : State) : State :=
  let v := planView s
  let req : Word := if balStopped s then 0 else
    mapBits 32 (fun n => populated s n && decide (0 < s.bal.tmr.getD n 0))
  let held := mapBits 32 (fun n => bit req n && (balHeldCell v n || balLow v n))
  let elig := req &&& ~~~ held
  let p := balP v
  let m := if p = 0 then 32 else s.bal.budget * 100 / p
  let g := balGrant s.bal.ptr m elig
  { s with bal := { s.bal with
    requested := req, held := held, eligible := elig, grant := g, pcell := min p 1023
    vminHeld := mapBits 32 (fun n => bit req n && balLow v n)
    closed := interleave g (stitch s).toNat } }

/-- R228: a rotation point, judged on the plan of the stitch that ended. -/
def rotate (s : State) : State :=
  let wait := s.bal.eligPrev &&& ~~~ s.bal.grantPrev
  let s1 := balSetBudget (balBudget s) { s with bal := { s.bal with rotated := true } }
  match (balWalk s.bal.ptr).find? (fun n => bit wait n) with
  | some n =>
    let s2 := { s1 with bal := { s1.bal with ptr := n, rotate := true } }
    if s.bal.rotate then s2 else stand srcBalRotate true s2
  | none =>
    let s2 := { s1 with bal := { s1.bal with rotate := false } }
    if s.bal.rotate then stand srcBalRotate false s2 else s2

/-- R228: this boundary is a rotation point that is not yet done. -/
def rotationDue (s : State) : Bool := s.time.fresh && !s.bal.rotated && s.time.ptB.toNat % 1000000 == 0

/-- The rotation point when due, with the plan formed again. -/
def rotateDue (s : State) : State := if rotationDue s then planStitch (rotate s) else s

/-- ROTATION_POINT (R226 to R229). -/
def execRotationPoint (s : State) : Out := done (rotateDue s)

/-- R232: BAL_VMIN of cell `n` when it has been held for 1000 stitches. DESIGN CHOICE (log 80): an event of the stitch in which the run
reaches 1000. -/
def vminApply (n : Nat) (s : State) : State :=
  if s.bal.vminRun.getD n 0 = 1000 then raiseCells srcBalVmin (place 1 n) s else s

/-- BAL_VMIN (R232). -/
def execBalVmin (cell : Fin 32) (s : State) : Out := done (vminApply cell.val s)

/-- R218, R222, R232, R228, R231: the counts of the stitch that ended, at its boundary. Only a requested cell's prescaler
counts. DESIGN CHOICE (log 78): a closing by BST alone counts too. -/
def balCount (s : State) : State :=
  let b := s.bal
  { s with bal := { b with
    on := b.onNow, onNow := 0, ilim := b.ilim, ilimOpen := 0, rotated := false
    eligPrev := b.eligible, grantPrev := b.grant
    presc := (List.range 32).map (fun n =>
      if bit b.onNow n && bit b.requested n then b.presc.getD n 0 + 1 else b.presc.getD n 0)
    vminRun := (List.range 32).map (fun n => if bit b.vminHeld n then b.vminRun.getD n 0 + 1 else 0)
    pauseLeft := b.pauseLeft - 1
    pause := if b.pauseLeft ≤ 1 then none else b.pause } }

/-- The slot lies in the measurement window (R25). -/
def inWindow (m : MeasSt) (n : Nat) : Bool := decide (m.mwFirst ≤ n) && decide (n < m.mwFirst + m.mwLen)

/-- R216: switches in current limit at two slot boundaries in a row open for the rest of the stitch. DESIGN CHOICE (log 78): where
the second one is the stitch boundary, that is the stitch that begins. -/
def ilimSlot (il : Word) (s : State) : State :=
  let open_ := il &&& s.bal.ilim &&& s.bal.sw
  let s1 := { s with bal := { s.bal with ilim := il &&& s.bal.sw, ilimOpen := s.bal.ilimOpen ||| open_ } }
  if open_ = 0 then s1 else raiseCells srcBalIlim open_ s1

/-- R25, R94, R95, R221: the switches closed in slot `n`; a switch test closes its cell's switch (R245). DESIGN CHOICE
(log 80): under HALT too. -/
def switchSlot (n : Nat) (s : State) : State :=
  let test : Word := match s.diag.unit, bstCell s with
    | some u, some k => if u.bstClose then place 1 k else 0
    | _, _ => 0
  let sw := if inWindow s.meas n || tripped s || !inMode s .run || splitSilent s then 0 else (s.bal.closed &&& ~~~ s.bal.ilimOpen) ||| test
  { s with bal := { s.bal with sw := sw, onNow := s.bal.onNow ||| sw }
           meas := { s.meas with sw := s.meas.sw ++ [sw] } }

end Sys2Proof.Machine
end

