-- ==== Sys2Proof/Machine/Diag.lean ====
section
/-! DEFINITION. Foreground units: their period, start, steps, holds, lateness and completion; open-wire evaluation and
the other tests; requests of host software; the background tests; and what begins a stitch (08_diagnostics). -/

namespace Sys2Proof.Machine

/-! ### Units (R235, R237, R242 to R248) -/

/-- Populated cells of group `g`. -/
def groupPop (s : State) (g : Nat) : Nat := min 8 (ncell s - 8 * g)
/-- R235, R245: the steps of a unit: counted stitches, or the cells of a balance-switch test, whose steps take one counted
stitch or two. -/
def unitLen (s : State) (u : DUnit) : Nat := if u.test = 1 ∨ u.test = 2 then 16 else groupPop s u.group
/-- R255: the unit bit 4 × t + g. -/
def unitBit (u : DUnit) : BitVec 16 := BitVec.ofNat 16 (2 ^ (4 * (u.test - 1) + u.group))
/-- R235: cell `n` belongs to group `g` or is its neighbour. -/
def inSpan (g n : Nat) : Bool := decide (8 * g ≤ n + 1) && decide (n ≤ 8 * g + 8)
/-- R248, R251: cell `n` has a published result in range and no XDIS. -/
def cellFine (s : State) (n : Nat) : Bool :=
  let c := s.meas.cells.getD n {}
  !c.stale && !c.oor && !c.xdis && populated s n

/-- R249, R264: a requested unit or a verification runs outside COMMISSION and RUN; it stops with its 1024th stitch. -/
def testWanted (s : State) : Bool :=
  coreRuns s && (inMode s .standby || inMode s .factory) &&
    ((match s.diag.tvLeft with | some n => decide (0 < n) | none => false) || !s.diag.hostQ.isEmpty ||
      (match s.diag.unit with | some u => u.host | none => false))

/-- R149, R154, R248, R249, R264: the primary modulators run in the stitch that begins. -/
def modsWanted (s : State) : Bool :=
  testWanted s || (coreRuns s && (streaming s || s.sys.passRun ||
    ((inMode s .standby || inMode s .factory) && (s.meas.snapPower ||
      (match s.diag.unit with | some u => u.pass | none => false)))))

/-- R245: the MW average of cell `n` of the previous stitch is at or above VMIN. -/
def bstHigh (v : State) (n : Nat) : Bool :=
  match v.meas.res.cells.getD n none with | some a => decide ((1000 * fld v .balCfg 12 0 : Nat) ≤ a.v) | none => false

/-- R237, R242, R245: whether the stitch that begins counts for a unit, and the cell of its step. DESIGN CHOICE (log 80): HALT is no
condition of a BST stitch. -/
def unitStep (v : State) (u : DUnit) : DUnit :=
  let on := v.meas.modOn
  let u0 := { u with counting := false, cell := none, bstClose := false }
  match u.test with
  | 1 => { u0 with counting := on && (List.range 32).all (fun n => !(inSpan u.group n && bit v.bal.closed n)) }
  | 2 =>
    let n := 8 * u.group + u.count % 8
    { u0 with counting := on, cell := if populated v n && (u.host || ((cellGood v n).isSome && !v.meas.ppMissed && !(v.meas.cells.getD n {}).xdis))
                                       then some n else none }
  | 3 =>
    let n := 8 * u.group + u.count
    { u0 with counting := on, cell := if populated v n && (u.host || !bit v.diag.ctt n) then some n else none }
  | _ =>
    match bstCell v with
    | some n =>
      { u0 with counting := on && inMode v .run && !tripped v && !splitSilent v && !(decide (0 < n) && bit v.bal.closed (n - 1)) &&
                  !bit v.bal.closed (n + 1) && bstHigh v n && decide (v.meas.mwLen < 8)
                cell := some n }
    | none => u0

/-- R235, R240, R244, R248: cells held by a unit in a counted stitch. -/
def unitHolds (s : State) (u : DUnit) : Word :=
  if !u.counting then 0
  else if u.test = 1 then mapBits 32 (fun n => inSpan u.group n && populated s n)
  else if u.test = 3 then match u.cell with | some n => place 1 n | none => 0
  else 0

/-- R236: the pins of a group that a test current drives: those of the populated cells. -/
def owPins (s : State) (g : Nat) : BitVec 33 :=
  BitVec.ofNat 33 ((List.range 9).foldl (fun a k => if 8 * g + k ≤ ncell s then a + 2 ^ (8 * g + k) else a) 0)

/-- R236: the sinks (the first 8 counted stitches) or the sources (the next 8) that a unit has on. -/
def owDrive (s : State) (u : DUnit) (up : Bool) : BitVec 33 :=
  if u.test = 1 && u.counting && (decide (8 ≤ u.count) == up) then owPins s u.group else 0

/-- What begins a stitch, formed from the state at its boundary; it may be formed again at the same boundary: the
modulators (R149, R169), the plan (R221), the step of a unit with its test currents (R236) and the results held (R164,
R235, R266). -/
def beginStitch (s : State) : State :=
  let on := modsWanted s
  let s1 := planStitch { s with meas := { s.meas with modOn := on, settling := on && !s.meas.prevModOn, testOn := testWanted s } }
  let v := planView s1
  let u := s1.diag.unit.map (unitStep v)
  let held := match u with | some x => unitHolds s1 x | none => 0
  { s1 with
    diag := { s1.diag with unit := u, sinks := match u with | some x => owDrive s1 x false | none => 0
                           sources := match u with | some x => owDrive s1 x true | none => 0 }
    meas := { s1.meas with
      heldNow := held ||| s1.cal.holdCells, auxHeld := s1.cal.holdAux
      cttCell := match u with
        | some x => if x.test = 2 && x.counting then (match x.cell with
            | some n => if h : n < 32 then some ⟨n, h⟩ else none | none => none) else none
        | none => none } }

/-- A boundary step that changes the plan or the unit: the stitch's beginning is formed again. -/
def rebegin (s : State) : State := if s.time.fresh then beginStitch s else s

/-- R95, R245: a balance-switch test goes on: its switch may close. -/
def bstMay (s : State) : Bool := inMode s .run && !tripped s && !splitSilent s

/-- The count of a unit at the end of a stitch; a stitch in which a switch test had to stop does not count, and the stitch of
the open state alone completes no cell (R245). -/
def unitCount (s : State) : State :=
  match s.diag.unit with
  | some u =>
    if u.counting && (u.test != 4 || bstMay s) then
      let open7 := u.test == 4 && s.meas.mwLen == 7 && !u.half
      let u1 := { u with count := if open7 then u.count else u.count + 1, counted := u.counted + 1, half := open7, counting := false }
      { s with diag := { s.diag with unit := some u1
                                     prevStep := some ⟨u.test, u.group, u.count, u.cell, u.host, u.pass⟩ } }
    else { s with diag := { s.diag with prevStep := none } }
  | none => { s with diag := { s.diag with prevStep := none } }

/-- R246: a unit that falls due counts as complete at once. -/
def unitSkipped (s : State) (t g : Nat) : Bool :=
  groupPop s g == 0 || (t == 3 && !fbit s .diagCfg 1) || (t == 4 && (!fbit s .diagCfg 0 || inMode s .commission))

/-- R246: the stitch at which unit `u` of the period becomes due. -/
def unitDueAt (p per u : Nat) : Nat := p + u * per * 1000 / 16

/-- R246: the next unit of the period becomes due when its stitch has come. -/
def unitDue (s : State) : State :=
  match s.diag.period with
  | some p =>
    let d := s.diag
    let i := d.nextUnit
    if streaming s && decide (i < 16) && decide (unitDueAt p d.periodS i ≤ stitches s) then
      let u : DUnit := { test := i % 4 + 1, group := i / 4, dueAt := unitDueAt p d.periodS i }
      { s with diag := if unitSkipped s u.test u.group then { d with nextUnit := i + 1, done := d.done ||| unitBit u }
                       else { d with nextUnit := i + 1, due := d.due ++ [u] } }
    else s
  | none => s

/-- UNIT_DUE (R246). -/
def execUnitDue (s : State) : Out := done (if s.time.fresh then unitDue s else s)

/-- R246: a period may start: none runs, or PERIOD seconds have passed and its last unit has ended. -/
def periodDue (s : State) : Bool :=
  streaming s && match s.diag.period with
    | none => true
    | some p => decide (p + 1000 * s.diag.periodS ≤ stitches s) && s.diag.nextUnit == 16 && s.diag.due.isEmpty &&
        (match s.diag.unit with | some u => u.host || u.pass | none => true)

/-- R246: a period starts. -/
def periodStart (s : State) : State :=
  if periodDue s then
    { s with diag := { s.diag with period := some (stitches s), nextUnit := 0, periodS := fld s .diagCfg 21 16
                                   done := 0, late := 0, due := [] } }
  else s

/-- DIAG_PERIOD_START (R246). -/
def execDiagPeriodStart (s : State) : Out := done (if s.time.fresh then periodStart s else s)

/-- R247, R249: the next unit starts when none runs: a requested one first, an automatic one once the pass is done. -/
def unitStart (s : State) : State :=
  match s.diag.unit with
  | some _ => s
  | none =>
    match s.diag.hostQ, s.diag.due with
    | u :: r, _ => { s with diag := { s.diag with unit := some u, hostQ := r, cttOvOk := 0 } }
    | [], u :: r => if s.sys.startDone then { s with diag := { s.diag with unit := some u, due := r, cttOvOk := 0 } } else s
    | [], [] => s

/-- UNIT_START (R235, R247). -/
def execUnitStart (s : State) : Out := done (rebegin (if s.time.fresh then unitStart s else s))

/-- R248: the start-up pass, one open-wire unit on each group in turn. -/
def passUnit (g : Nat) (s : State) : DUnit := { test := 1, group := g, pass := true, dueAt := stitches s }

/-- R235, R248: a unit whose counted stitches are complete ends and releases what it held. -/
def unitComplete (s : State) : State :=
  match s.diag.unit with
  | some u =>
    if u.count < unitLen s u then s
    else if u.pass then
      if u.group < 3 then { s with diag := { s.diag with unit := some (passUnit (u.group + 1) s) } }
      else { s with diag := { s.diag with unit := none }, sys := { s.sys with owDone := true } }
    else
      { s with diag := { s.diag with unit := none, done := s.diag.done ||| unitBit u }
               bal := if u.test = 1 then { s.bal with pause := none, pauseLeft := 0 } else s.bal }
  | none => s

/-- UNIT_COMPLETE (R235). -/
def execUnitComplete (s : State) : Out := done (rebegin (if s.time.fresh then unitComplete s else s))

/-- R247: a unit is 1000 stitches past its due stitch and not yet late; the start-up pass never is. -/
def isLate (s : State) (u : DUnit) : Bool := !u.pass && !u.late && decide (u.dueAt + 1000 ≤ stitches s)

/-- R247: late units set their LATE bits and raise FG_LATE; all but open-wire units are abandoned. -/
def fgLate (s : State) : State :=
  let run := match s.diag.unit with | some u => if isLate s u && decide (u.count < unitLen s u) then [u] else [] | none => []
  let lates := run ++ s.diag.due.filter (isLate s) ++ s.diag.hostQ.filter (isLate s)
  let keep (l : List DUnit) : List DUnit :=
    (l.filter (fun u => !isLate s u || u.test == 1)).map (fun u => if isLate s u then { u with late := true } else u)
  if lates.isEmpty then s
  else
    raise srcFgLate { s with diag := { s.diag with
      late := lates.foldl (fun m u => m ||| unitBit u) s.diag.late
      unit := match s.diag.unit with
        | some u => if run.isEmpty then some u else if u.test = 1 then some { u with late := true } else none
        | none => none
      due := keep s.diag.due, hostQ := keep s.diag.hostQ } }

/-- FG_LATE (R247). -/
def execFgLate (s : State) : Out := done (rebegin (if s.time.fresh then fgLate s else s))

/-- R231: the pause of a group whose open-wire unit is incomplete 1000 stitches after it became due; it holds from the
next boundary. DESIGN CHOICE (log 78): the pause of a unit that has not started by then begins once it runs. -/
def owPause (s : State) : State :=
  match s.diag.unit with
  | some u =>
    if u.test = 1 && !u.pass && !u.paused && decide (u.dueAt + 1000 ≤ stitches s) && decide (u.count < 16) then
      { s with bal := { s.bal with pause := some u.group, pauseLeft := 17 }
               diag := { s.diag with unit := some { u with paused := true } } }
    else s
  | none => s

/-- OW_PAUSE (R231). -/
def execOwPause (s : State) : Out := done (rebegin (if s.time.fresh then owPause s else s))

/-- R246: at a change of mode a running unit other than the pass is abandoned, its last step unjudged; the period ends,
and the next entry to COMMISSION or RUN begins one afresh. Its test currents stop. DESIGN CHOICE (log 80): requested units that
have not started are kept, and start in the new mode. -/
def diagMode (d : DiagSt) : DiagSt :=
  { d with sinks := 0, sources := 0, unit := d.unit.filter DUnit.pass, prevStep := d.prevStep.filter DStep.pass
           period := none, due := [], nextUnit := 16, owEval := none }

/-! ### What the safety task judges (R238, R239, R244) -/

/-- R238: one pin of a group judged open; none where an average is missing. -/
def pinOpen (t : Int) (nc p : Nat) (dv : Nat → Option Int) : Option Bool :=
  if p = 0 then
    match dv 0, dv 1 with | some a, some b => some (decide (a < -t) && decide (2 * (b.natAbs : Int) < t)) | _, _ => none
  else if p < nc then
    match dv (p - 1), dv p with | some a, some b => some (decide (t < a) && decide (b < -t)) | _, _ => none
  else
    match dv (nc - 1), dv (nc - 2) with
    | some a, some b => some (decide (t < a) && decide (2 * (b.natAbs : Int) < t)) | _, _ => none

/-- R238, R239: an open-wire unit of group `g` evaluated. DESIGN CHOICE (log 78): DVMAX is over the cells of the group and its
neighbours, and is rounded to the nearest mV, half up. DESIGN CHOICE (log 80): a cell of the group whose step is skipped (R248) leaves
its two pins unjudged; the currents and the holds of the unit are the same. -/
def owEvaluate (s : State) : State :=
  match s.diag.owEval with
  | none => s
  | some (g, host) =>
    let d := s.diag
    let dv (n : Nat) : Option Int := match d.vDn.getD n none, d.vUp.getD n none with
      | some a, some b => some (b - a) | _, _ => none
    let t : Int := (10000 * fld s .diagCfg 31 24 : Nat)
    let nc := ncell s
    let skips (n : Nat) : Bool := !host && decide (8 * g ≤ n) && decide (n < 8 * g + 8) && bit d.ctt n
    let skip (p : Nat) : Bool := skips p || (decide (0 < p) && skips (p - 1))
    let pins := (List.range 9).map (· + 8 * g) |>.filter (fun p => decide (p ≤ nc) && !skip p)
    let new := pins.foldl (fun (m : BitVec 33) p => match pinOpen t nc p dv with
      | some true => m ||| BitVec.ofNat 33 (2 ^ p)
      | some false => m &&& ~~~ (BitVec.ofNat 33 (2 ^ p))
      | none => m) d.owPin
    let fresh := new &&& ~~~ d.owPin
    let mx := (List.range 32).foldl (fun (m : Nat) n => if inSpan g n && populated s n then
      (match dv n with | some x => max m x.natAbs | none => m) else m) 0
    let cells := mapBits 32 (fun n => populated s n && (fresh.getLsbD n || fresh.getLsbD (n + 1)))
    let s1 := { s with diag := { d with owEval := none, owPin := new, dvMax := min 0xFFFF ((mx + 500) / 1000) } }
    if fresh != 0 then
      let low := ((List.range 33).find? (fun p => fresh.getLsbD p)).getD 0
      standCells srcOpenWire true cells { s1 with col := { s1.col with owLow := low } }
    else if new = 0 && d.owPin != 0 then stand srcOpenWire false s1 else s1

/-- OW_EVALUATE (R238). -/
def execOwEvaluate (s : State) : Out := done (owEvaluate s)

/-- R238, R244: the step of the stitch that ended, in the safety task. -/
def stepJudge (s : State) : State :=
  let vals := (List.range 32).map (fun n => (s.meas.res.cells.getD n none).map Avg.v)
  match s.diag.prevStep with
  | none => s
  | some p =>
    let s0 := { s with diag := { s.diag with prevStep := none } }
    match p.test with
    | 1 =>
      if p.idx = 7 then { s0 with diag := { s0.diag with vDn := vals } }
      else if p.idx = 15 then { s0 with diag := { s0.diag with vUp := vals, owEval := some (p.group, p.host) } }
      else s0
    | 3 =>
      match p.cell with
      | some n => match vals.getD n none with
        | some v =>
          if v.natAbs ≤ 200 then { s0 with diag := { s0.diag with pzt := s0.diag.pzt &&& ~~~ (place 1 n) } }
          else raiseCells srcPriZero (place 1 n) { s0 with diag := { s0.diag with pzt := s0.diag.pzt ||| place 1 n } }
        | none => s0
      | none => s0
    | _ => s0

/-- R242, R243: the comparator test of cell `n` judged at its sample of slot 7. `over` is the comparator under test;
`lim` its normal threshold (a code, beyond it is a violation); `acc` whether R28 accepts slot 7. -/
def cttJudge (n : Nat) (ovr : Bool) (beyond : Nat → Bool) (acc : Bool) (code7 : Nat) (s : State) : State :=
  let sample (k : Nat) : Option Nat :=
    (s.meas.coarse.find? (fun e => e.1.val == k && e.2.1.val == n)).map (fun e => e.2.2.1)
  match sample 5, sample 6 with
  | some c5, some c6 =>
    let flag6 := if ovr then decide (c5 < c6 + 100) else decide (c6 < c5 + 100)
    let real := s.meas.coarse.any (fun e => e.2.1.val == n && e.2.2.2 && beyond e.2.2.1)
    let bad7 := beyond code7 && !acc && !real
    let neither := beyond code7 && !acc && real
    if !flag6 || bad7 then
      raiseCells srcCompTestFail (place 1 n) { s with diag := { s.diag with ctt := s.diag.ctt ||| place 1 n } }
    else if neither then s
    else if ovr then { s with diag := { s.diag with cttOvOk := s.diag.cttOvOk ||| place 1 n } }
    else if bit s.diag.cttOvOk n then { s with diag := { s.diag with ctt := s.diag.ctt &&& ~~~ (place 1 n) } }
    else s
  | _, _ => s

/-! ### The balance-switch test (R245) -/

/-- R245: whether a closed-state current lies below, in or above the window of the cell's average. DESIGN CHOICE (log 80): V_n is the
average of the last results completed; without one the current counts as inside. -/
def bstWindow (s : State) (n ua : Nat) : Nat :=
  match s.meas.res.cells.getD n none with
  | some a => let v := a.v.toNat
              let x := 100 * ua * fld s .balRb 9 0
              if x < 375 * v then 0 else if 625 * v < x then 2 else 1
  | none => 1

/-- R245: the test of one cell judged from its open and its closed current. -/
def bstJudge (n openUa closedUa : Nat) (s : State) : State :=
  let w := bstWindow s n closedUa
  let short := decide (1000 ≤ openUa) || w == 2
  let opn := w == 0
  let at_ (src : Nat) (b : Bool) (s : State) : State := if b then raiseCells src (place 1 n) s else s
  let s1 := at_ srcBstShort short (at_ srcBstOpen opn s)
  { s1 with diag := { s1.diag with bst := if short || opn then s1.diag.bst ||| place 1 n else s1.diag.bst &&& ~~~ (place 1 n) } }

/-- R245: which state slot `k` measures: `some false` open, `some true` closed. -/
def bstSlot (s : State) (u : DUnit) (k : Nat) : Option Bool :=
  let outs := (List.range 8).filter (fun j => !inWindow s.meas j)
  if s.meas.mwLen = 7 then (if outs.head? == some k then some u.half else none)
  else if outs.head? == some k then some false
  else if outs[1]? == some k then some true
  else none

/-- R245: a slot of a balance-switch test: its switch, and its current when the slot measures. -/
def bstStep (k ua : Nat) (s : State) : State :=
  match s.diag.unit with
  | some u =>
    if u.test = 4 && u.counting && bstMay s then
      match bstSlot s u k, u.cell with
      | some false, some _ =>
        { s with diag := { s.diag with unit := some { u with bstOpenUa := ua, bstOpenDone := true, bstClose := false } } }
      | some true, some n =>
        let s1 := { s with diag := { s.diag with unit := some { u with bstClose := true, bstOpenDone := false } } }
        if u.bstOpenDone then bstJudge n u.bstOpenUa ua s1 else s1
      | _, _ => { s with diag := { s.diag with unit := some { u with bstClose := false } } }
    else s
  | none => s

/-! ### Requests (R249 to R251, R256) -/

/-- R251: a cell of the request would lose both paths in RUN. -/
def losesBoth (s : State) (t scope : Nat) : Bool :=
  (List.range 4).any (fun g => (scope == 4 || scope == g) && (List.range 32).any (fun n =>
    populated s n && (if t = 1 then inSpan g n && bit s.diag.ctt n
      else decide (n / 8 = g) && (if t = 3 then bit s.diag.ctt n else t == 2 && !cellFine s n))))

/-- R250, R251, R256: the judgement of a write of `DIAG.REQ`. DESIGN CHOICE (log 80): BUSY also while a request waits for its
boundary or groups of it are queued; a verification is accepted in FACTORY too. -/
def diagReqJudge (s : State) (v : Word) : Nat :=
  let t := bits v 2 0
  let sc := bits v 10 8
  if t = 0 || t = 6 || t = 7 || decide (4 < sc) || (t = 5 && sc != 0) || (t != 5 && decide (sc < 4) && decide (ncell s ≤ 8 * sc)) then 1
  else if !awake s || (t = 4 && !inMode s .run) || (inMode s .run && losesBoth s t sc) then 3
  else if s.diag.unit.isSome || !s.diag.hostQ.isEmpty || s.diag.reqPend.isSome || !s.sys.startDone ||
      (t = 5 && (s.diag.tvPend || s.diag.tvLeft.isSome)) then 5
  else 0

/-- R249, R264: an accepted request waits for its boundary. -/
def diagReqApply (v : Word) (s : State) : State :=
  { s with diag := if bits v 2 0 = 5 then { s.diag with tvPend := true }
                   else { s.diag with reqPend := some (bits v 2 0, bits v 10 8) } }

/-- R249, R264: a request at its boundary. -/
def diagReqBoundary (s : State) : State :=
  let d := s.diag
  let units : List DUnit := match d.reqPend with
    | some (t, sc) => (List.range 4).filterMap (fun g =>
        if (sc == 4 || sc == g) && decide (0 < groupPop s g) then
          some { test := t, group := g, host := true, dueAt := stitches s } else none)
    | none => []
  let d1 := { d with reqPend := none, hostQ := d.hostQ ++ units }
  { s with diag := if d.tvPend then
      { d1 with tvPend := false, tvLeft := some 1024, tvOver := false, tvSum := 0, tvN := 0, tvVstk := 0, tvCellN := List.replicate 32 0 }
    else d1 }

/-! ### Background tests (R252, R253) -/

/-- R252, R253: a persistence of 3 stitches outside and 8 inside. -/
def persist (out : Bool) (p : Persist) : Persist :=
  if out then { out := p.out + 1, ok := 0, stand := p.stand || decide (3 ≤ p.out + 1) }
  else { out := 0, ok := p.ok + 1, stand := p.stand && decide (p.ok + 1 < 8) }

/-- R252: the last conversion of an auxiliary channel in the stitch that ended. -/
def auxPrev (s : State) (k : Nat) : Option Nat :=
  (s.meas.prevAux.filter (fun e => e.2.1.val == k)).getLast?.map (fun e => e.2.2)

/-- R252: the stack coarse check: VSTKC × 50 mV against `CELL.VSTK` of the same stitch, where it is published, within
1 % + 0.5 V. -/
def stkOut (s : State) : Option Bool :=
  match auxPrev s 2, s.meas.res.stack with
  | some c, some a =>
    let v : Int := (100 * field100 (stackUv s a) : Nat)
    if streamGate s && !s.meas.auxHeldPrev.getLsbD 0 then
      some (decide (v + 50000000 < 100 * (((50000 * c : Nat) : Int) - v).natAbs))
    else none
  | _, _ => none

/-- R252: the thermistor path: VTREF and the tap of slot 7. -/
def pathOut (s : State) : Option Bool :=
  match auxPrev s 3 with
  | some c => some (decide (c < 2970) || decide (3030 < c) ||
      (s.temp.havePrev && (decide (10000 * s.temp.tapPrev < 4980 * 65536) || decide (5020 * 65536 < 10000 * s.temp.tapPrev))))
  | none => none

/-- A persistence stepped where there is a reading. -/
def persistOpt (o : Option Bool) (p : Persist) : Persist := match o with | some b => persist b p | none => p

/-- A source made to follow a persistence. -/
def standChange (n : Nat) (a b : Persist) (s : State) : State := if a.stand == b.stand then s else stand n b.stand s

/-- R252, R284: the plausibility of the die sensors in the safety task, on the readings of the stitch that ended. -/
def dieChecks (s : State) : State :=
  let b := s.thrm.impl || (s.thrm.implStand && decide (s.thrm.implOk < 8))
  follow srcRoImplaus b { s with thrm := { s.thrm with implStand := b } }

/-- R252: the converter checks and the die sensors, in the safety task. -/
def backgroundChecks (s0 : State) : State :=
  if !(inMode s0 .standby || streaming s0) then s0
  else
    let s := dieChecks s0
    let d := s.diag
    let r := persistOpt ((auxPrev s 1).map (fun c => decide (c < 2475) || decide (2525 < c))) d.ref
    let k := if streaming s then persistOpt (stkOut s) d.stk else d.stk
    let p := persistOpt (pathOut s) d.path
    standChange srcTsPath d.path p (standChange srcStkCoarse d.stk k (standChange srcRefMismatch d.ref r
      { s with diag := { d with ref := r, stk := k, path := p }
               col := { s.col with pathEnd := if d.path.stand && !p.stand then stitches s else s.col.pathEnd } }))

/-- R471: the byte-masked writes among the core's accesses: merged onto corrected words, or refused by poisoned ones. -/
def coreMasked (i : TaskIn) (r : RecSt) : RecSt :=
  let n (l : List (Nat × CoreAccess)) : Nat := (l.filter (fun a => a.2 == .masked)).length
  { r with merged := satAdd r.merged (n i.coreCe) 0xFFFF, refused := satAdd r.refused (n i.coreUe) 0xFFFF }

/-- R252, R253, R471, R538: the ROM and SRAM patrols, 1 KiB each per stitch of STANDBY, COMMISSION and RUN, and what the core's
own accesses met, in FACTORY too: as master 4 or 2 with the access. SRAM_CE stands until 8 stitches in a row without an error. -/
def patrols (i0 : TaskIn) (s0 : State) : State :=
  let scrubs := inMode s0 .standby || streaming s0
  if !(scrubs || inMode s0 .factory) then s0
  else
    let i := if scrubs then i0 else { i0 with romErr := none, sramCe := [], sramUe := [] }
    let k := if scrubs then 1 else 0
    let s := { s0 with bob := coreMasked i s0.bob }
    let d := s.diag
    let scrub : List Nat → List (Nat × Nat × Nat) := List.map (fun a => (a, 4, 5))
    let core : List (Nat × CoreAccess) → List (Nat × Nat × Nat) := List.map (fun a => (a.1, 2, a.2.code))
    let rom := scrub i.romErr.toList ++ i.romFetch.toList.map (fun a => (a, 2, 4))
    let ues := scrub i.sramUe ++ core i.coreUe
    let ces := scrub i.sramCe ++ core i.coreCe
    let d1 := { d with
      romPos := (d.romPos + k) % 384, romPass := (d.romPass + (d.romPos + k) / 384) % 256
      sramPos := (d.sramPos + k) % 256, sramPass := (d.sramPass + (d.sramPos + k) / 256) % 256
      rom := d.rom || !rom.isEmpty, ramUe := d.ramUe || !ues.isEmpty
      sramCe := satAdd d.sramCe ces.length 0xFFFF }
    let s1 := { s with diag := d1 }
    let s2 := match rom with
      | (a, m, x) :: _ => if d.rom then s1 else stand srcRomParity true (raiseCtx srcRomParity ⟨4, a, m, x, 0⟩ s1)
      | [] => s1
    let s3 := match ues with
      | (a, m, x) :: _ => if d.ramUe then s2 else stand srcSramUe true (raiseCtx srcSramUe ⟨3, a, m, x, 0⟩ s2)
      | [] => s2
    match ces with
    | (a, m, x) :: _ => stand srcSramCe true (raiseCtx srcSramCe ⟨3, a, m, x, 0⟩
        { s3 with diag := { s3.diag with ce := { out := d.ce.out + 1, ok := 0, stand := true } } })
    | [] =>
      let p := persist false d.ce
      standChange srcSramCe d.ce p { s3 with diag := { s3.diag with ce := p } }

end Sys2Proof.Machine
end

