-- ==== Sys2Proof/Machine/Code.lean ====
section
/-! DEFINITION. Check values and ciphers: the frame CRC-16 (R117), the CRC-32C (R310), AES-128 in CCM mode (R360)
and the key check value. -/

namespace Sys2Proof.Machine

/-- One byte into the CRC-16 with polynomial 0x8BB7, not reflected (R117). -/
def crc16Byte (c : BitVec 16) (b : Byte) : BitVec 16 :=
  (List.range 8).foldl (fun c _ => if c.getLsbD 15 then (c <<< 1) ^^^ 0x8BB7#16 else c <<< 1)
    (c ^^^ (b.setWidth 16 <<< 8))

/-- The frame CRC of a list of bytes (R117). -/
def crc16 (l : List Byte) : BitVec 16 := l.foldl crc16Byte 0

/-- One byte into the reflected CRC-32C (R310). -/
def crc32Byte (c : Word) (b : Byte) : Word :=
  (List.range 8).foldl (fun c _ => if c.getLsbD 0 then (c >>> 1) ^^^ 0x82F63B78#32 else c >>> 1)
    (c ^^^ b.setWidth 32)

/-- The CRC-32C of a list of bytes (R310). -/
def crc32c (l : List Byte) : Word := (l.foldl crc32Byte 0xFFFFFFFF#32) ^^^ 0xFFFFFFFF#32

/-- The CRC-32C of words, each high byte first. -/
def crc32Words (l : List Word) : Word := crc32c (l.flatMap wordBytes)

/-- The AES substitution table. -/
def aesSbox : List Nat :=
  [99, 124, 119, 123, 242, 107, 111, 197, 48, 1, 103, 43, 254, 215, 171, 118, 202, 130, 201, 125, 250, 89, 71, 240, 173, 212, 162, 175, 156, 164, 114, 192] ++
  [183, 253, 147, 38, 54, 63, 247, 204, 52, 165, 229, 241, 113, 216, 49, 21, 4, 199, 35, 195, 24, 150, 5, 154, 7, 18, 128, 226, 235, 39, 178, 117] ++
  [9, 131, 44, 26, 27, 110, 90, 160, 82, 59, 214, 179, 41, 227, 47, 132, 83, 209, 0, 237, 32, 252, 177, 91, 106, 203, 190, 57, 74, 76, 88, 207] ++
  [208, 239, 170, 251, 67, 77, 51, 133, 69, 249, 2, 127, 80, 60, 159, 168, 81, 163, 64, 143, 146, 157, 56, 245, 188, 182, 218, 33, 16, 255, 243, 210] ++
  [205, 12, 19, 236, 95, 151, 68, 23, 196, 167, 126, 61, 100, 93, 25, 115, 96, 129, 79, 220, 34, 42, 144, 136, 70, 238, 184, 20, 222, 94, 11, 219] ++
  [224, 50, 58, 10, 73, 6, 36, 92, 194, 211, 172, 98, 145, 149, 228, 121, 231, 200, 55, 109, 141, 213, 78, 169, 108, 86, 244, 234, 101, 122, 174, 8] ++
  [186, 120, 37, 46, 28, 166, 180, 198, 232, 221, 116, 31, 75, 189, 139, 138, 112, 62, 181, 102, 72, 3, 246, 14, 97, 53, 87, 185, 134, 193, 29, 158] ++
  [225, 248, 152, 17, 105, 217, 142, 148, 155, 30, 135, 233, 206, 85, 40, 223, 140, 161, 137, 13, 191, 230, 66, 104, 65, 153, 45, 15, 176, 84, 187, 22]

/-- AES: one byte substituted. -/
def aesSub (b : Byte) : Byte := BitVec.ofNat 8 (aesSbox.getD b.toNat 0)

/-- Multiplication by x in the field of AES. -/
def aesX (b : Byte) : Byte := if b.getLsbD 7 then (b <<< 1) ^^^ 0x1B#8 else b <<< 1

/-- Byte-wise exclusive or. -/
def xorBytes (a b : List Byte) : List Byte := List.zipWith (· ^^^ ·) a b

/-- AES: the column mix of four bytes. -/
def aesMix (l : List Byte) : List Byte :=
  match l with
  | a :: b :: c :: d :: r =>
    [aesX a ^^^ aesX b ^^^ b ^^^ c ^^^ d, a ^^^ aesX b ^^^ aesX c ^^^ c ^^^ d,
     a ^^^ b ^^^ aesX c ^^^ aesX d ^^^ d, aesX a ^^^ a ^^^ b ^^^ c ^^^ aesX d] ++ aesMix r
  | _ => []

/-- AES: substitution and the shift of rows. -/
def aesShift (l : List Byte) : List Byte :=
  [0, 5, 10, 15, 4, 9, 14, 3, 8, 13, 2, 7, 12, 1, 6, 11].map (fun i => aesSub (l.getD i 0))

/-- AES: the next round key. -/
def aesNextKey (k : List Byte) (rc : Byte) : List Byte :=
  let g (i : Nat) : Byte := k.getD i 0
  let w0 := xorBytes (k.take 4) [aesSub (g 13) ^^^ rc, aesSub (g 14), aesSub (g 15), aesSub (g 12)]
  let w1 := xorBytes w0 ((k.drop 4).take 4)
  let w2 := xorBytes w1 ((k.drop 8).take 4)
  w0 ++ w1 ++ w2 ++ xorBytes w2 (k.drop 12)

/-- AES: the remaining rounds, the last without the column mix. -/
def aesRounds : Nat → Byte → List Byte → List Byte → List Byte
  | 0, _, _, x => x
  | 1, rc, k, x => xorBytes (aesShift x) (aesNextKey k rc)
  | n + 1, rc, k, x =>
    let k' := aesNextKey k rc
    aesRounds n (aesX rc) k' (xorBytes (aesMix (aesShift x)) k')

/-- AES-128 of one block. -/
def aes (key blk : List Byte) : List Byte := aesRounds 10 1 key (xorBytes blk key)

/-- Bytes filled with zeros to a multiple of 16. -/
def padBlock (l : List Byte) : List Byte := l ++ List.replicate ((16 - l.length % 16) % 16) 0

/-- CBC-MAC over `n` blocks of 16 bytes. -/
def cbcMac (key : List Byte) : Nat → List Byte → List Byte → List Byte
  | 0, x, _ => x
  | n + 1, x, l => cbcMac key n (aes key (xorBytes x (l.take 16))) (l.drop 16)

/-- R360: the counter block number `i`. -/
def ccmCtr (key nonce : List Byte) (i : Nat) : List Byte := aes key (1#8 :: nonce ++ natBytes 2 i)

/-- R360: encryption and decryption of a payload by the counter blocks from 1. -/
def ccmStream (key nonce : List Byte) : Nat → Nat → List Byte → List Byte
  | 0, _, _ => []
  | n + 1, i, l => xorBytes (l.take 16) (ccmCtr key nonce i) ++ ccmStream key nonce n (i + 1) (l.drop 16)

/-- R360: the payload enciphered or deciphered. -/
def ccmCrypt (key nonce p : List Byte) : List Byte := ccmStream key nonce (p.length / 16 + 1) 1 p

/-- R360: the four MIC bytes of a plaintext under its header. -/
def ccmMic (key nonce hdr p : List Byte) : List Byte :=
  let b := [0x49#8] ++ nonce ++ natBytes 2 p.length ++ padBlock (natBytes 2 hdr.length ++ hdr) ++ padBlock p
  xorBytes ((cbcMac key (b.length / 16) (List.replicate 16 0) b).take 4) (ccmCtr key nonce 0)

/-- The 16 bytes of a key of four words, bits [127:0] from the first. -/
def keyBytes (k : List Word) : List Byte := k.flatMap wordBytes

end Sys2Proof.Machine
end

