-- ==== Sys2Proof/Machine/RegMap.lean ====
section
/-! DEFINITION. The register map: pages, block register spans, every register with a writable field (its reserved
bits, its fields with access code and range), the conditions that tie fields together, the safety parameter set
(R419) and the CONFIG set (R506). -/

namespace Sys2Proof.Machine

/-- The access codes of a field that a write can set or act on (R10). -/
inductive Acc | rw | w1c | wo | rws | rwf deriving DecidableEq, Repr

/-- A writable field: its bits, its access code, whether it is two's complement, and its range. -/
structure Fld where
  msb : Nat
  lsb : Nat
  acc : Acc
  sgn : Bool
  lo : Int
  hi : Int
  deriving DecidableEq, Repr

/-- A register (or `count` registers in a row) with a writable field: address, reserved bits, the configuration word
that holds its value if it has one, and its writable fields from the most significant. -/
structure Desc where
  base : Nat
  count : Nat
  rsv : Nat
  reg : Option CReg
  fields : List Fld
  deriving DecidableEq, Repr

/-- The writable registers, part 0 (field tables of spec/). -/
def descs0 : List Desc :=
 [
  ⟨0x0024, 1, 0xFFFFFFF8, none, [⟨2, 0, .wo, false, 0, 7⟩]⟩,
  ⟨0x002C, 1, 0xFFFFFFFC, some .roleCfg, [⟨0, 0, .rw, false, 0, 1⟩]⟩,
  ⟨0x003C, 1, 0xFFFFFFC0, none, [⟨5, 5, .w1c, false, 0, 1⟩, ⟨4, 4, .w1c, false, 0, 1⟩, ⟨3, 3, .w1c, false, 0, 1⟩, ⟨2, 2, .w1c, false, 0, 1⟩, ⟨1, 1, .w1c, false, 0, 1⟩, ⟨0, 0, .w1c, false, 0, 1⟩]⟩,
  ⟨0x0220, 1, 0xFFFFFEFC, some .hostCfg, [⟨8, 8, .rw, false, 0, 1⟩, ⟨1, 0, .rw, false, 0, 3⟩]⟩,
  ⟨0x0320, 1, 0xFFFFFFFC, some .linkCfg, [⟨1, 0, .rw, false, 0, 2⟩]⟩,
  ⟨0x0420, 1, 0xFFFFFFFE, none, [⟨0, 0, .wo, false, 0, 1⟩]⟩,
  ⟨0x0458, 1, 0xFFFFFEC0, some .enumTsel, [⟨5, 0, .rw, false, 2, 62⟩]⟩,
  ⟨0x0520, 1, 0xFFFFFFE8, some .mirrCfg, [⟨4, 4, .rw, false, 0, 1⟩, ⟨2, 0, .rw, false, 0, 4⟩]⟩,
  ⟨0x0524, 1, 0xC0C0C0C0, some .mirrChA, [⟨29, 24, .rws, false, 0, 39⟩, ⟨21, 16, .rws, false, 0, 39⟩, ⟨13, 8, .rws, false, 0, 39⟩, ⟨5, 0, .rws, false, 0, 39⟩]⟩,
  ⟨0x0528, 1, 0xC0C0C0C0, some .mirrChB, [⟨29, 24, .rws, false, 0, 39⟩, ⟨21, 16, .rws, false, 0, 39⟩, ⟨13, 8, .rws, false, 0, 39⟩, ⟨5, 0, .rws, false, 0, 39⟩]⟩,
  ⟨0x052C, 1, 0xF000FE00, some .mirrTol, [⟨27, 24, .rws, false, 1, 10⟩, ⟨23, 16, .rws, false, 1, 255⟩, ⟨8, 0, .rws, false, 1, 500⟩]⟩,
  ⟨0x0530, 4, 0x00000000, none, [⟨31, 0, .wo, false, 0, 4294967295⟩]⟩,
  ⟨0x0554, 1, 0xFFFFFFC0, some .mirrHsel, [⟨5, 0, .rw, false, 2, 62⟩]⟩,
  ⟨0x0620, 1, 0xFFFFF8F0, some .measMw, [⟨3, 0, .rw, false, 2, 8⟩]⟩,
  ⟨0x0624, 1, 0xFFFFFFF0, some .measFilt, [⟨3, 0, .rw, false, 0, 8⟩]⟩,
  ⟨0x0628, 1, 0xFFFFF800, some .measRoc, [⟨10, 0, .rw, false, 10, 2000⟩]⟩,
  ⟨0x062C, 1, 0xFFFFFFC0, some .measXchk, [⟨5, 0, .rws, false, 5, 50⟩]⟩,
  ⟨0x0630, 1, 0x0000FFE0, some .measStk, [⟨4, 0, .rw, false, 10, 22⟩]⟩,
  ⟨0x0920, 1, 0xFC00FFFC, some .syncCfg, [⟨25, 16, .rw, false, 0, 999⟩, ⟨1, 1, .rw, false, 0, 1⟩, ⟨0, 0, .rw, false, 0, 1⟩]⟩,
  ⟨0x0944, 1, 0xFF000000, some .syncRshunt, [⟨23, 0, .rws, false, 10000, 16777215⟩]⟩]

/-- The writable registers, part 1 (field tables of spec/). -/
def descs1 : List Desc :=
 [
  ⟨0x0948, 1, 0x00000000, some .syncIauxCal, [⟨31, 16, .rws, false, 0, 5000⟩, ⟨15, 0, .rws, false, 1, 65535⟩]⟩,
  ⟨0x094C, 1, 0x0000000C, some .syncIcfg, [⟨31, 24, .rws, false, 0, 250⟩, ⟨23, 16, .rws, false, 0, 255⟩, ⟨15, 4, .rws, false, 1, 4095⟩, ⟨1, 1, .rws, false, 0, 1⟩, ⟨0, 0, .rws, false, 0, 1⟩]⟩,
  ⟨0x0A20, 1, 0xFFFFFEF0, some .impCfg, [⟨8, 8, .rw, false, 0, 1⟩, ⟨3, 0, .rw, false, 6, 12⟩]⟩,
  ⟨0x0A24, 1, 0xFFFF0000, some .impVarThr, [⟨15, 0, .rw, false, 1, 65535⟩]⟩,
  ⟨0x0B60, 1, 0xFFFFE000, some .tempNtc, [⟨12, 0, .rws, false, 3000, 4500⟩]⟩,
  ⟨0x0D20, 1, 0xFF00E000, some .balCfg, [⟨23, 16, .rw, false, 0, 150⟩, ⟨12, 0, .rw, false, 1000, 4500⟩]⟩,
  ⟨0x0D24, 1, 0xFFFFFC00, some .balRb, [⟨9, 0, .rw, false, 50, 1000⟩]⟩,
  ⟨0x0D28, 16, 0x00000000, none, [⟨31, 16, .rw, false, 0, 65535⟩, ⟨15, 0, .rw, false, 0, 65535⟩]⟩,
  ⟨0x0D78, 1, 0x00000000, none, [⟨31, 0, .w1c, false, 0, 4294967295⟩]⟩,
  ⟨0x0E20, 1, 0x00C0FFFC, some .diagCfg, [⟨31, 24, .rws, false, 10, 100⟩, ⟨21, 16, .rws, false, 1, 60⟩, ⟨1, 1, .rw, false, 0, 1⟩, ⟨0, 0, .rw, false, 0, 1⟩]⟩,
  ⟨0x0E24, 1, 0xFFFFF8F8, none, [⟨10, 8, .wo, false, 0, 7⟩, ⟨2, 0, .wo, false, 0, 7⟩]⟩,
  ⟨0x0F28, 1, 0xFFFFFFF0, some .calCmd, [⟨3, 0, .rwf, false, 0, 15⟩]⟩,
  ⟨0x1020, 1, 0x0000FEC0, some .safeHarness, [⟨31, 16, .rws, false, 1, 65535⟩, ⟨8, 8, .rws, false, 0, 1⟩, ⟨5, 0, .rws, false, 8, 32⟩]⟩,
  ⟨0x1024, 1, 0xE000E000, some .safeVov, [⟨28, 16, .rws, false, 2000, 5000⟩, ⟨12, 0, .rws, false, 2000, 5000⟩]⟩,
  ⟨0x1028, 1, 0xE000E000, some .safeVuv, [⟨28, 16, .rws, false, 500, 4500⟩, ⟨12, 0, .rws, false, 500, 4500⟩]⟩,
  ⟨0x102C, 1, 0xFF00FF00, some .safeVcfg, [⟨23, 16, .rws, false, 50, 200⟩, ⟨7, 0, .rws, false, 10, 200⟩]⟩,
  ⟨0x1030, 1, 0x00000000, some .safeTlim, [⟨31, 16, .rws, true, 3000, 10000⟩, ⟨15, 0, .rws, true, -3000, 2000⟩]⟩,
  ⟨0x1034, 1, 0xFFFFFF00, some .safeTcfg, [⟨7, 0, .rws, false, 5, 100⟩]⟩,
  ⟨0x1038, 1, 0x00000000, some .safeIlim, [⟨31, 16, .rws, false, 1, 65535⟩, ⟨15, 0, .rws, false, 1, 65535⟩]⟩,
  ⟨0x103C, 1, 0x00000000, some .safeItime, [⟨31, 16, .rws, false, 0, 1000⟩, ⟨15, 0, .rws, false, 10, 5000⟩]⟩]

/-- The writable registers, part 2 (field tables of spec/). -/
def descs2 : List Desc :=
 [
  ⟨0x1040, 1, 0xFFFFF000, some .safeIdir, [⟨11, 0, .rws, false, 1, 4095⟩]⟩,
  ⟨0x1044, 1, 0xF800FFFF, some .safeDeg, [⟨26, 16, .rws, false, 10, 1800⟩]⟩,
  ⟨0x1058, 1, 0xFFFF0000, none, [⟨15, 0, .wo, false, 0, 65535⟩]⟩,
  ⟨0x1084, 1, 0x00000000, none, [⟨31, 0, .wo, false, 0, 4294967295⟩]⟩,
  ⟨0x1090, 1, 0xFFFFFFFE, none, [⟨0, 0, .wo, false, 1, 1⟩]⟩,
  ⟨0x109C, 1, 0x00000000, some .packMap, [⟨31, 0, .rw, false, 0, 4294967295⟩]⟩,
  ⟨0x10A0, 1, 0x00000000, none, [⟨31, 0, .wo, false, 0, 4294967295⟩]⟩,
  ⟨0x1120, 1, 0xFE00FFFC, some .sioCfg, [⟨24, 16, .rws, false, 5, 500⟩, ⟨1, 1, .rws, false, 0, 1⟩, ⟨0, 0, .rws, false, 0, 1⟩]⟩,
  ⟨0x1134, 1, 0xFFFFFF00, none, [⟨7, 0, .wo, false, 90, 90⟩]⟩,
  ⟨0x1230, 1, 0x00000000, none, [⟨31, 0, .w1c, false, 0, 4294967295⟩]⟩,
  ⟨0x1234, 1, 0x00000000, none, [⟨31, 0, .w1c, false, 0, 4294967295⟩]⟩,
  ⟨0x1238, 1, 0x00000000, none, [⟨31, 0, .w1c, false, 0, 4294967295⟩]⟩,
  ⟨0x123C, 1, 0x00000000, none, [⟨31, 0, .w1c, false, 0, 4294967295⟩]⟩,
  ⟨0x1244, 1, 0x00000000, some .colEnD, [⟨31, 0, .rw, false, 0, 4294967295⟩]⟩,
  ⟨0x1248, 1, 0x00000000, some .colEnC, [⟨31, 0, .rw, false, 0, 4294967295⟩]⟩,
  ⟨0x124C, 1, 0x00000000, some .colEnH, [⟨31, 0, .rw, false, 0, 4294967295⟩]⟩,
  ⟨0x1258, 1, 0x00000000, some .colLvl2, [⟨31, 0, .rw, false, 0, 4294967295⟩]⟩,
  ⟨0x125C, 1, 0x00000000, some .colLvl3, [⟨31, 0, .rw, false, 0, 4294967295⟩]⟩,
  ⟨0x1260, 1, 0x00000000, some .colLvl4, [⟨31, 0, .rw, false, 0, 4294967295⟩]⟩,
  ⟨0x1264, 1, 0x00000000, some .colLvl5, [⟨31, 0, .rw, false, 0, 4294967295⟩]⟩]

/-- The writable registers, part 3 (field tables of spec/). -/
def descs3 : List Desc :=
 [
  ⟨0x1268, 1, 0x00000000, some .colLvl6, [⟨31, 0, .rw, false, 0, 4294967295⟩]⟩,
  ⟨0x126C, 1, 0x00000000, some .colLvl7, [⟨31, 0, .rw, false, 0, 4294967295⟩]⟩,
  ⟨0x1270, 1, 0xFFFFFFFC, some .colCfg, [⟨1, 0, .rw, false, 0, 3⟩]⟩,
  ⟨0x1278, 1, 0x7FFFFF80, some .colSel, [⟨31, 31, .wo, false, 0, 1⟩, ⟨6, 0, .rw, false, 0, 127⟩]⟩,
  ⟨0x1284, 1, 0x3888C080, none, [⟨31, 31, .w1c, false, 0, 1⟩]⟩,
  ⟨0x12A8, 1, 0x0000FF80, none, [⟨31, 16, .wo, false, 0, 65535⟩, ⟨6, 0, .wo, false, 0, 127⟩]⟩,
  ⟨0x12AC, 1, 0xFF00FE80, some .colInj, [⟨23, 16, .rwf, false, 0, 255⟩, ⟨8, 8, .rwf, false, 0, 1⟩, ⟨6, 0, .rwf, false, 0, 127⟩]⟩,
  ⟨0x1420, 1, 0xFFFFFF0C, some .recCfg, [⟨7, 4, .rw, false, 0, 8⟩, ⟨1, 0, .rw, false, 0, 2⟩]⟩,
  ⟨0x1424, 1, 0xFFFFFFFC, none, [⟨1, 1, .wo, false, 0, 1⟩, ⟨0, 0, .wo, false, 0, 1⟩]⟩,
  ⟨0x144C, 1, 0x00000000, some .recFselS, [⟨31, 0, .rw, false, 0, 4294967295⟩]⟩,
  ⟨0x1450, 1, 0x00000000, some .recFselD, [⟨31, 0, .rw, false, 0, 4294967295⟩]⟩,
  ⟨0x1454, 1, 0x00000000, some .recFselC, [⟨31, 0, .rw, false, 0, 4294967295⟩]⟩,
  ⟨0x1458, 1, 0x00000000, some .recFselH, [⟨31, 0, .rw, false, 0, 4294967295⟩]⟩,
  ⟨0x1520, 1, 0xFFFFFFF0, some .eccCfg, [⟨3, 0, .rw, false, 1, 15⟩]⟩,
  ⟨0x153C, 1, 0xFFFFFF00, some .eccRetSel, [⟨7, 0, .rw, false, 0, 255⟩]⟩,
  ⟨0x1624, 1, 0xFFFEF000, some .brCfg, [⟨16, 16, .rw, false, 0, 1⟩, ⟨11, 0, .rw, false, 1, 3600⟩]⟩,
  ⟨0x1628, 1, 0xE000E000, some .brVwin, [⟨28, 16, .rw, false, 500, 5000⟩, ⟨12, 0, .rw, false, 500, 5000⟩]⟩,
  ⟨0x162C, 1, 0x00000000, some .brTwin, [⟨31, 16, .rw, false, 0, 65535⟩, ⟨15, 0, .rw, false, 0, 65535⟩]⟩,
  ⟨0x1634, 1, 0xFFFFFFFC, none, [⟨0, 0, .wo, false, 1, 1⟩]⟩,
  ⟨0x1720, 1, 0xFE00F0F0, some .kaCfg, [⟨24, 16, .rw, false, 280, 330⟩, ⟨11, 8, .rw, false, 1, 10⟩, ⟨3, 3, .rw, false, 0, 1⟩, ⟨2, 2, .rw, false, 0, 1⟩, ⟨1, 1, .rw, false, 0, 1⟩, ⟨0, 0, .rw, false, 0, 1⟩]⟩]

/-- The writable registers, part 4 (field tables of spec/). -/
def descs4 : List Desc :=
 [
  ⟨0x1838, 1, 0xFFFFFFF8, none, [⟨2, 0, .wo, false, 0, 7⟩]⟩,
  ⟨0x1928, 1, 0x00000000, some .jrnlSel, [⟨31, 0, .rw, false, 0, 4294967295⟩]⟩]

/-- Every block register with a writable field. -/
def descs : List Desc := descs0 ++ descs1 ++ descs2 ++ descs3 ++ descs4

/-- First and last address of every run of block registers; other block offsets are reserved (R138). -/
def blockSpans : List (Nat × Nat) :=
  [(0x0020, 0x003C), (0x0120, 0x0148), (0x0220, 0x0240), (0x0320, 0x0350), (0x0420, 0x0468), (0x0520, 0x056C),
   (0x0620, 0x0630), (0x0720, 0x07FC), (0x0820, 0x0878), (0x0920, 0x094C), (0x0A20, 0x0A34), (0x0A40, 0x0ABC),
   (0x0B20, 0x0B8C), (0x0C20, 0x0C4C), (0x0D20, 0x0D78), (0x0E20, 0x0E48), (0x0F20, 0x0F34), (0x0F40, 0x0FD8),
   (0x1020, 0x106C), (0x1080, 0x10A0), (0x1120, 0x1134), (0x1220, 0x12AC), (0x1320, 0x139C), (0x1420, 0x145C),
   (0x1520, 0x1544), (0x1620, 0x1638), (0x1720, 0x1738), (0x1820, 0x183C), (0x1920, 0x1950)]

/-- R138: the pages that exist. -/
def pageExists (p : Nat) : Bool := decide (p ≤ 0x19) || p == 0x1F

/-- The block offsets of the FACT page hold unpublished registers (R138, log 32). -/
def isFact (a : Nat) : Bool := decide (0x1F20 ≤ a) && decide (a ≤ 0x1FFC)

/-- A register exists at this aligned address of an existing page. -/
def regExists (a : Nat) : Bool :=
  decide (a % 256 < 32) || isFact a || blockSpans.any (fun e => decide (e.1 ≤ a) && decide (a ≤ e.2))

/-- The description of the writable register at an address. -/
def descAt (a : Nat) : Option Desc := descs.find? (fun d => decide (d.base ≤ a) && decide (a < d.base + 4 * d.count))

/-- The value of a field in a word, as its range counts it. -/
def fldVal (f : Fld) (v : Word) : Int :=
  if f.sgn then toSigned (f.msb + 1 - f.lsb) (bits v f.msb f.lsb) else bits v f.msb f.lsb

/-- A field's value lies in its range. -/
def fldOk (f : Fld) (v : Word) : Bool := decide (f.lo ≤ fldVal f v) && decide (fldVal f v ≤ f.hi)

/-- R12, and the ranges of every field. -/
def fieldsOk (d : Desc) (v : Word) : Bool :=
  (v.toNat &&& d.rsv == 0) && d.fields.all (fun f => fldOk f v)

/-- The four channels of each hop register. -/
def chans (w : Word) : List Nat := [bits w 5 0, bits w 13 8, bits w 21 16, bits w 29 24]

/-- No two entries are equal. -/
def allDistinct : List Nat → Bool
  | [] => true
  | a :: l => !l.contains a && allDistinct l

/-- R452: enable bits of group `g`: none of a reserved source, and every source whose default is L3 enabled. -/
def enableOk (g : Nat) (w : Word) : Bool :=
  (List.range 32).all (fun j => if srcReserved (32 * g + j) then !bit w j else bit w j || srcDefault (32 * g + j) != 3)

/-- R452: levels of sources 16k to 16k + 15: none of a reserved source, none below L3 where the default is L3. -/
def levelOk (k : Nat) (w : Word) : Bool :=
  (List.range 16).all (fun j =>
    let l := bits w (2 * j + 1) (2 * j)
    if srcReserved (16 * k + j) then l == 0 else l == 3 || srcDefault (16 * k + j) != 3)

/-- No bit of a reserved source of group `g` (R475). -/
def selOk (g : Nat) (w : Word) : Bool := (List.range 32).all (fun j => !(bit w j && srcReserved (32 * g + j)))

/-- R408: the order and the margins of the voltage limits. -/
def voltOk (c : Cfg) : Bool :=
  let ov := cfgGet c .safeVov
  let uv := cfgGet c .safeVuv
  let m := bits (cfgGet c .safeVcfg) 23 16
  decide (bits uv 28 16 < bits uv 12 0) && decide (bits uv 12 0 < bits ov 12 0) &&
    decide (bits ov 12 0 < bits ov 28 16) && decide (bits ov 28 16 + m ≤ 5400) && decide (300 + m ≤ bits uv 28 16)

/-- R408: the low-charge limit with its hysteresis lies below the over-temperature limit. -/
def tempOk (c : Cfg) : Bool :=
  decide (toSigned 16 (bits (cfgGet c .safeTlim) 15 0) + 10 * (bits (cfgGet c .safeTcfg) 7 0 : Nat)
    < toSigned 16 (bits (cfgGet c .safeTlim) 31 16))

/-- R536 step 5: the conditions that tie the fields of a register to others, on the values a write puts in force. -/
def crossOk (c : Cfg) (r : CReg) : Bool :=
  let w := cfgGet c r
  match r with
  | .mirrChA | .mirrChB => allDistinct (chans (cfgGet c .mirrChA) ++ chans (cfgGet c .mirrChB))
  | .syncIcfg => decide (bits w 23 16 < bits w 31 24) && bit w 1 == bit w 0
  | .safeVov | .safeVuv | .safeVcfg => voltOk c
  | .safeTlim | .safeTcfg => tempOk c
  | .colEnD => enableOk 1 w
  | .colEnC => enableOk 2 w
  | .colEnH => enableOk 3 w
  | .colLvl2 => levelOk 2 w
  | .colLvl3 => levelOk 3 w
  | .colLvl4 => levelOk 4 w
  | .colLvl5 => levelOk 5 w
  | .colLvl6 => levelOk 6 w
  | .colLvl7 => levelOk 7 w
  | .colSel => !srcReserved (bits w 6 0)
  | .recFselS => selOk 0 w
  | .recFselD => selOk 1 w
  | .recFselC => selOk 2 w
  | .recFselH => selOk 3 w
  | .brVwin => decide (bits w 12 0 < bits w 28 16)
  | .brTwin => decide (toSigned 16 (bits w 15 0) < toSigned 16 (bits w 31 16))
  | _ => true

/-- R419: the registers of the safety parameter set with their masks, in the order of the table. -/
def sealRegs : List (CReg × Word) :=
  [(.mirrChA, 0x3F3F3F3F), (.mirrChB, 0x3F3F3F3F), (.mirrTol, 0x0FFF01FF), (.measXchk, 0x3F),
   (.syncRshunt, 0x00FFFFFF), (.syncIauxCal, 0xFFFFFFFF), (.syncIcfg, 0xFFFFFFF3), (.tempNtc, 0x1FFF),
   (.diagCfg, 0xFF3F0000), (.safeHarness, 0xFFFF013F), (.safeVov, 0x1FFF1FFF), (.safeVuv, 0x1FFF1FFF),
   (.safeVcfg, 0x00FF00FF), (.safeTlim, 0xFFFFFFFF), (.safeTcfg, 0xFF), (.safeIlim, 0xFFFFFFFF),
   (.safeItime, 0xFFFFFFFF), (.safeIdir, 0xFFF), (.safeDeg, 0x07FF0000), (.sioCfg, 0x01FF0003)]

/-- R506: the registers of the CONFIG block with their masks, in the order of the table. -/
def configRegs : List (CReg × Word) :=
  [(.roleCfg, 1), (.linkCfg, 3), (.mirrCfg, 0x17), (.measMw, 0xF), (.measFilt, 0xF), (.measRoc, 0x7FF),
   (.measStk, 0x1F), (.syncCfg, 0x03FF0003), (.impCfg, 0x10F), (.impVarThr, 0xFFFF), (.balCfg, 0x00FF1FFF),
   (.balRb, 0x3FF), (.diagCfg, 3), (.colEnD, 0xFFFFFFFF), (.colEnC, 0xFFFFFFFF), (.colEnH, 0xFFFFFFFF),
   (.colLvl2, 0xFFFFFFFF), (.colLvl3, 0xFFFFFFFF), (.colLvl4, 0xFFFFFFFF), (.colLvl5, 0xFFFFFFFF),
   (.colLvl6, 0xFFFFFFFF), (.colLvl7, 0xFFFFFFFF), (.recCfg, 0xF3), (.recFselS, 0xFFFFFFFF),
   (.recFselD, 0xFFFFFFFF), (.recFselC, 0xFFFFFFFF), (.recFselH, 0xFFFFFFFF), (.eccCfg, 0xF),
   (.brCfg, 0x00010FFF), (.brVwin, 0x1FFF1FFF), (.brTwin, 0xFFFFFFFF), (.kaCfg, 0x01FF0F0F)]

/-- The masked words of a register set (R419, R506). -/
def setWords (l : List (CReg × Word)) (c : Cfg) : List Word := l.map (fun e => cfgGet c e.1 &&& e.2)

/-- A configuration with the masked bits of a register set taken from words. -/
def setLoad : List (CReg × Word) → List Word → Cfg → Cfg
  | e :: l, w :: ws, c => setLoad l ws (cfgSet c e.1 ((cfgGet c e.1 &&& ~~~ e.2) ||| (w &&& e.2)))
  | _, _, c => c

/-- R504: every field of a register set obeys the write rules of its own page. -/
def setOk (l : List (CReg × Word)) (c : Cfg) : Bool :=
  l.all (fun e => crossOk c e.1 &&
    descs.all (fun d => d.reg != some e.1 || fieldsOk d (cfgGet c e.1)))

/-- R419: the seal of a configuration. -/
def sealOf (c : Cfg) : Word := crc32c (1#8 :: (setWords sealRegs c).flatMap wordBytes)

end Sys2Proof.Machine
end

