-- ==== Sys2Proof/Machine/Otp.lean ====
section
/-! DEFINITION. The OTP array, its generations and their selection, programming with its judgements, and the event
journal (19_otp_journal; R421 to R424; R539). -/

namespace Sys2Proof.Machine

/-! ### Blocks and generations (R501, R502) -/

/-- R501: words per generation of a block code. -/
def blockLen (b : Nat) : Nat :=
  match b with | 1 => 52 | 2 => 8 | 3 => 32 | 4 => 16 | 5 => 36 | _ => 0
/-- R501: byte offset of a generation. -/
def blockBase (b g : Nat) : Nat :=
  match b with
  | 1 => 0x020 + 0xD0 * g | 2 => 0 | 3 => 0x1C0 + 0x80 * g | 4 => 0x3C0 + 0x40 * g | _ => 0x4C0 + 0x90 * g
/-- The words of a generation as the array holds them. -/
def genWords (o : OtpSt) (b g : Nat) : List Word :=
  (List.range (blockLen b)).map (fun k => memWord o.mem (blockBase b g + 4 * k))
/-- R502: the header word. -/
def genHeader (b g : Nat) : Word := place b 24 ||| place g 16 ||| place (blockLen b) 8 ||| 0xA5
/-- R502: header, content and check word. -/
def genForm (b g : Nat) (content : List Word) : List Word :=
  let ws := genHeader b g :: content
  ws ++ [crc32Words ws]
/-- R503: a generation is used as soon as any of its bits is programmed. -/
def genUsed (o : OtpSt) (b g : Nat) : Bool := (genWords o b g).any (· != 0)
/-- R504: the check word is valid. -/
def crcOk (ws : List Word) : Bool := ws.getLast? == some (crc32Words ws.dropLast)
/-- R502: AES-128 of an all-zero block under a key, bits [15:0]. -/
def kcvOf (key : List Word) : BitVec 16 :=
  BitVec.ofNat 16 (bytesNat ((aes (keyBytes key) (List.replicate 16 0)).drop 14))
/-- The masked registers W1, W2, … of a SAFETY or CONFIG generation over the resets of its registers. -/
def genCfg (l : List (CReg × Word)) (ws : List Word) : Cfg := setLoad l (ws.drop 1) {}
/-! ### A generation's trims (R257, R258, R260, R502) -/

/-- Primary offset code of channel `k` in a TRIM generation. -/
def trimOfs (ws : List Word) (k : Nat) : Nat := bits (ws.getD (k + 1) 0) 9 0
/-- Primary gain code of channel `k`. -/
def trimGain (ws : List Word) (k : Nat) : Nat := bits (ws.getD (k + 1) 0) 27 16
/-- Coarse offset code of SAR `k`. -/
def trimCOfs (ws : List Word) (k : Nat) : Nat := bits (ws.getD (k + 35) 0) 7 0
/-- Coarse gain code of SAR `k`. -/
def trimCGain (ws : List Word) (k : Nat) : Nat := bits (ws.getD (k + 35) 0) 23 16
/-- REF_A. -/
def trimRefA (ws : List Word) : Nat := bits (ws.getD 39 0) 9 0
/-- REF_B. -/
def trimRefB (ws : List Word) : Nat := bits (ws.getD 39 0) 25 16

/-- R270: every trim index, ascending. -/
def trimIndices : List Nat :=
  (List.range 34).map (· + 1) ++ (List.range 34).map (· + 0x41) ++ [0x80, 0x81, 0x82, 0x83, 0x88, 0x89, 0x8A, 0x8B, 0x90, 0x91]

/-- The code a generation holds for a trim index of R270. -/
def trimStored (ws : List Word) (i : Nat) : Nat :=
  if i ≤ 0x22 then trimOfs ws (i - 1)
  else if i ≤ 0x62 then trimGain ws (i - 0x41)
  else if i ≤ 0x83 then trimCOfs ws (i - 0x80)
  else if i ≤ 0x8B then trimCGain ws (i - 0x88)
  else if i = 0x90 then trimRefA ws else trimRefB ws

/-- R257: the plausible range of a trim index. -/
def trimPlausible (i v : Nat) : Bool :=
  if i ≤ 0x22 then decide (448 ≤ v) && decide (v ≤ 576)
  else if i ≤ 0x62 then decide (1984 ≤ v) && decide (v ≤ 2112)
  else if i ≤ 0x8B then decide (64 ≤ v) && decide (v ≤ 192)
  else decide (384 ≤ v) && decide (v ≤ 640)

/-- R258: the largest less the smallest of a list exceeds 80. -/
def spreadBad (l : List Nat) : Bool := l.any (fun a => l.any (fun b => decide (b + 80 < a)))

/-- R260, R270: the first check of its trims that a generation fails, and the first failing trim; cause 0 when it passes. -/
def trimFail (ws : List Word) : Nat × Nat :=
  match trimIndices.find? (fun i => !trimPlausible i (trimStored ws i)) with
  | some i => (3, i)
  | none =>
    if spreadBad ((List.range 32).map (trimOfs ws)) then (4, 0xF0)
    else if spreadBad ((List.range 32).map (trimGain ws)) then (4, 0xF1) else (0, 0)

/-! ### The judgement of generations (R504, R505, R508) -/

/-- R504: the content check of a block. -/
def contentOk (b : Nat) (ws : List Word) : Bool :=
  match b with
  | 1 => (trimFail ws).1 == 0
  | 3 => let c := genCfg sealRegs ws
         setOk sealRegs c && ws.getD 21 0 == sealOf c
  | 4 => let a := bits (ws.getD 6 0) 5 0
         decide (1 ≤ a) && decide (a ≤ 62) && bits (ws.getD 8 0) 15 0 == (kcvOf ((ws.drop 1).take 4)).toNat
  | 5 => setOk configRegs (genCfg configRegs ws)
  | _ => true
/-- R504: a generation is valid. -/
def genValid (o : OtpSt) (b g : Nat) : Bool :=
  let ws := genWords o b g
  ws.getD 0 0 == genHeader b g && crcOk ws && contentOk b ws
/-- A bit for each generation with a property. -/
def genMap (n : Nat) (p : Nat → Bool) : BitVec 4 := (mapBits n p).setWidth 4
/-- R504: the highest-numbered generation of a map. -/
def genTop (m : BitVec 4) : Option Nat := ([3, 2, 1, 0]).find? (fun g => m.getLsbD g)
/-- R505: generations left above the highest used one. -/
def gensLeft (used : BitVec 4) : Nat := match genTop used with | none => 4 | some g => 3 - g
/-- R505: the generation programmed next. -/
def genNext (used : BitVec 4) : Nat := 4 - gensLeft used

/-- R508: the byte offset of the lowest generation that is used and not valid. -/
def badGenOf (o : OtpSt) : Option Nat :=
  (([(2, 0), (1, 0), (1, 1), (3, 0), (3, 1), (3, 2), (3, 3), (4, 0), (4, 1), (4, 2), (4, 3), (5, 0), (5, 1), (5, 2),
    (5, 3)]).find? (fun e => genUsed o e.1 e.2 && !genValid o e.1 e.2)).map (fun e => blockBase e.1 e.2)

/-- R504, R505, R508: the judgement of every generation of IDENT, SAFETY, PACK and CONFIG. -/
def otpJudge (o : OtpSt) : OtpSt :=
  let us := genMap 4 (genUsed o 3)
  let vs := genMap 4 (genValid o 3)
  let up := genMap 4 (genUsed o 4)
  let vp := genMap 4 (genValid o 4)
  let uc := genMap 4 (genUsed o 5)
  let vc := genMap 4 (genValid o 5)
  let iv := genValid o 2 0
  let ws := genWords o 2 0
  { o with
    usedS := us, validS := vs, genS := genTop vs, usedP := up, validP := vp, genP := genTop vp
    usedC := uc, validC := vc, genC := genTop vc, identOk := iv
    uid := if iv then (ws.getD 1 0) ++ (ws.getD 2 0) else BitVec.allOnes 64
    grade := if iv then bits (ws.getD 3 0) 1 0 else 3
    badGen := badGenOf o }

/-- Word `k` of the SAFETY generation in force, 0 when none. -/
def safetyWord (s : State) (k : Nat) : Word :=
  match s.otp.genS with | none => 0 | some g => memWord s.otp.mem (blockBase 3 g + 4 * k)
/-- Word `k` of the PACK generation in force, 0 when none. -/
def packWord (s : State) (k : Nat) : Word :=
  match s.otp.genP with | none => 0 | some g => memWord s.otp.mem (blockBase 4 g + 4 * k)
/-- `SAFE.SEAL_GEN` (R419). -/
def sealGen (s : State) : Word := safetyWord s 21
/-- The commissioned address (R332). -/
def commAddr (s : State) : BitVec 6 := BitVec.ofNat 6 (bits (packWord s 6) 5 0)
/-- The pack key in force (R360). -/
def packKey (s : State) : List Byte := keyBytes ((List.range 4).map (fun k => packWord s (k + 1)))

/-- R505 to R507: the power-on values of every configuration register. -/
def bootCfg (o : OtpSt) (headKept xtalKept : Option Bool) : Cfg :=
  let c0 : Cfg := {}
  let c1 := match o.genS with | none => c0 | some g => setLoad sealRegs ((genWords o 3 g).drop 1) c0
  let c2 := match o.genC with | none => c1 | some g => setLoad configRegs ((genWords o 5 g).drop 1) c1
  let c3 := match headKept with | none => c2 | some b => cfgSet c2 .roleCfg (flag b 0)
  match xtalKept with
  | none => c3
  | some b => cfgSet c3 .kaCfg ((cfgGet c3 .kaCfg &&& 0xFFFFFFF7) ||| flag b 3)

/-! ### Requests (R421, R424, R509, R539) -/

/-- R510: an OTP block write runs or is pending. -/
def otpBusy (s : State) : Bool := s.otp.req.isSome || s.otp.job.isSome
/-- A generation holds the CONFIG values of a configuration already (R509). -/
def configHeld (t : Cfg) (s : State) : Bool :=
  match s.otp.genC with
  | none => false
  | some g => setWords configRegs t == ((genWords s.otp 5 g).drop 1).take 32

/-- R539: the mode that is in force once every request accepted before has reached its boundary. -/
def comesTo (s : State) (m : Mode) : Bool := (if s.sys.modeNext.isSome then s.sys.modeNext else s.sys.mode) == some m

/-- R509 in its order, after R536 steps 1 and 3; `t` holds every write accepted before. -/
def otpCmdJudge (t : Cfg) (s : State) (v : Word) : Nat :=
  let b := bits v 2 0
  if b = 0 || b = 6 || b = 7 then 1
  else if (b = 1 || b = 2) && !comesTo s .factory then 3
  else if b = 3 || b = 4 then 0xA
  else if b = 5 && (comesTo s .run || comesTo s .sleep || comesTo s .ship) then 3
  else if otpBusy s || s.thrm.otpInh || s.pwr.buckFault then 5
  else if b = 5 && configHeld t s then 0
  else if b = 5 && gensLeft s.otp.usedC == 0 then 0xA
  else if b = 1 && genUsed s.otp 1 1 then 0xA
  else if b = 2 && genUsed s.otp 2 0 then 0xA
  else 0

/-- The whole stitches of the boundary at which a write that is accepted now applies (R29), or has come (`now`). -/
def applyAt (now : Bool) (s : State) : Nat := if now then stitches s else stitches s + 1

/-- An accepted `OTP.CMD` (R509, R539). -/
def otpCmdApply (t : Cfg) (v : Word) (now : Bool) (s : State) : State :=
  let b := bits v 2 0
  { s with otp := if b = 5 && configHeld t s then { s.otp with result := 2 }
                  else { s.otp with req := some { block := b, start := applyAt now s } } }

/-- R420, R539: the set is sealed once every write accepted before has reached its boundary. -/
def staysSealed (s : State) : Bool := s.safe.sealed && !s.safe.unsealPend

/-- R421 in its order. -/
def sealConfirmJudge (t : Cfg) (s : State) (v : Word) : Nat :=
  if !comesTo s .commission then 3
  else if otpBusy s || s.thrm.otpInh then 5
  else if v != sealOf t then 0xA
  else if staysSealed s && v == sealGen s then 0
  else if gensLeft s.otp.usedS == 0 then 0xA
  else 0

/-- An accepted `SAFE.SEAL_CONFIRM` (R421, R539). -/
def sealConfirmApply (v : Word) (now : Bool) (s : State) : State :=
  if staysSealed s && v == sealGen s then { s with safe := { s.safe with sres := 2 } }
  else { s with safe := { s.safe with sres := 1 }, otp := { s.otp with req := some { block := 3, start := applyAt now s } } }

/-- The staged pack key, when all four words are staged (R377, `MIRR.KEY_ST.STAGED`). -/
def stagedKey (s : State) : Option (List Word) :=
  match s.mirr.staged with
  | [some a, some b, some c, some d] => some [a, b, c, d]
  | _ => none

/-- The content of a PACK generation (R424, R502). -/
def packContent (t : Cfg) (key : List Word) (pseal : Word) (s : State) : List Word :=
  key ++ [cfgGet t .packMap, place s.sys.addr.toNat 0, pseal, place (kcvOf key).toNat 0] ++ List.replicate 6 0

/-- The PACK generation in force holds this content (R424). -/
def packHeld (t : Cfg) (v : Word) (s : State) : Bool :=
  match s.otp.genP, stagedKey s with
  | some g, some k => ((genWords s.otp 4 g).drop 1).take 14 == packContent t k v s
  | _, _ => false

/-- R424 in its order. -/
def packConfirmJudge (t : Cfg) (s : State) (v : Word) : Nat :=
  if !comesTo s .commission then 3
  else if !staysSealed s || otpBusy s || s.thrm.otpInh then 5
  else if (stagedKey s).isNone then 0xA
  else if isHead s && (cfgGet t .packMap != s.enum.mapChk || v != s.safe.pseal) then 0xA
  else if !isHead s && !(s.safe.psealOk && v == s.safe.pseal) then 0xA
  else if packHeld t v s then 0
  else if gensLeft s.otp.usedP == 0 then 0xA
  else 0

/-- An accepted `SAFE.PACK_CONFIRM` (R424, R539). The word carries the pack seal. -/
def packConfirmApply (t : Cfg) (v : Word) (now : Bool) (s : State) : State :=
  if packHeld t v s then { s with safe := { s.safe with pres := 2 } }
  else { s with safe := { s.safe with pres := 1 }, otp := { s.otp with req := some { block := 4, words := [v], start := applyAt now s } } }

/-! ### Programming (R503, R422, R539) -/

/-- `n` free words (log 23). -/
def freeWords : Nat → State → List Word × State
  | 0, s => ([], s)
  | n + 1, s =>
    let (w, s1) := drawFree s
    let (l, s2) := freeWords n s1
    (w :: l, s2)

/-- R502: the bits of the content words of IDENT and TRIM that a generation may hold. -/
def contentMasks (b : Nat) : List Word :=
  if b = 2 then [0xFFFFFFFF, 0xFFFFFFFF, 3, 0, 0, 0]
  else List.replicate 34 0x0FFF03FF ++ List.replicate 4 0x00FF00FF ++ [0x03FF03FF] ++ List.replicate 8 0xFFFFFFFF ++ [0, 0, 0]

/-- The content of the generation that an accepted request programs, from the values in force (R502, R510). That of IDENT and
TRIM comes from the factory (log 23). -/
def jobContent (j : OtpJob) (s : State) : List Word × State :=
  match j.block with
  | 3 =>
    let ws := setWords sealRegs s.cfg
    (ws ++ [sealOf s.cfg] ++ (List.range 8).map (fun k => Config.hwslThresholdWord k ws) ++ [0], s)
  | 4 => (packContent s.cfg ((stagedKey s).getD []) (j.words.getD 0 0) s, s)
  | 5 => (setWords configRegs s.cfg ++ [0, 0], s)
  | b =>
    let (l, s1) := freeWords (blockLen b - 2) s
    (List.zipWith (fun w m => w &&& m) l (contentMasks b), s1)

/-- The generation number a request programs. -/
def jobGen (b : Nat) (o : OtpSt) : Nat :=
  match b with
  | 3 => genNext o.usedS | 4 => genNext o.usedP | 5 => genNext o.usedC
  | 1 => if genUsed o 1 0 then 1 else 0
  | _ => 0

/-- The result of a block write where its register shows it: SRES, PRES or `OTP.PROG.RESULT`; a 3 in SRES or PRES
raises SEAL_PROG_FAIL (R426). -/
def otpResult (b code : Nat) (s : State) : State :=
  let s1 : State := match b with
    | 3 => { s with safe := { s.safe with sres := if code = 1 then 2 else code } }
    | 4 => { s with safe := { s.safe with pres := if code = 1 then 2 else code } }
    | _ => s
  raiseIf ((b == 3 || b == 4) && code == 3) srcSealProgFail
    { s1 with otp := { s1.otp with result := code } }

/-- R539: a request that fails at its applying boundary reads 3 in its own register. -/
def otpFail (b : Nat) (s : State) : State :=
  if b = 3 || b = 4 then { otpResult b 3 s with otp := s.otp } else otpResult b 3 s

/-- R539: an accepted request at its applying boundary. Outside FACTORY no TRIM or IDENT is programmed (R3, R509), also where the
lock closed on the FACTORY request that it was accepted with (log 59). -/
def otpStart (s : State) : State :=
  match s.otp.req with
  | none => s
  | some j =>
    let s0 := { s with otp := { s.otp with req := none } }
    if s.thrm.otpInh || (j.block != 3 && j.block != 4 && s.pwr.buckFault) || (j.block < 3 && !inMode s .factory) then
      otpFail j.block s0
    else
      let (c, s1) := jobContent j s0
      let g := jobGen j.block s1.otp
      let ws := genForm j.block g c
      { s1 with otp := { s1.otp with job := some { block := j.block, gen := g, words := ws, done := 0, start := stitches s1 }
                                     block := j.block, gen := g, words := 0, result := 0 } }

/-- R539: the accepted request whose applying boundary has come; a change of mode at that boundary goes first. -/
def otpStartDue (s : State) : State :=
  if s.time.fresh && s.otp.req.any (fun j => decide (j.start ≤ stitches s) && !(j.block < 3 && s.sys.modeDue)) then otpStart s
  else s

/-- OTP_PROGRAM_START (R539). -/
def execOtpProgramStart (s : State) : Out := done (otpStartDue s)

/-- R503: the words programmed `us` µs after the start: 0.2 ms for each, 1.0 ms between them. -/
def wordsDone (n us : Nat) : Nat := if us < 200 then 0 else min n ((us - 200) / 1200 + 1)

/-- The used and valid maps of a block with one generation added. -/
def otpMark (j : OtpJob) (good : Bool) (o : OtpSt) : OtpSt :=
  let m : BitVec 4 := BitVec.ofNat 4 (2 ^ j.gen)
  match j.block with
  | 3 => { o with usedS := o.usedS ||| m, validS := if good then o.validS ||| m else o.validS
                  genS := if good then some j.gen else o.genS }
  | 4 => { o with usedP := o.usedP ||| m, validP := if good then o.validP ||| m else o.validP
                  genP := if good then some j.gen else o.genP }
  | 5 => { o with usedC := o.usedC ||| m, validC := if good then o.validC ||| m else o.validC
                  genC := if good then some j.gen else o.genC }
  | _ => o

/-- R290 step 2: at most the words up to the stop. -/
def stopAt (j : OtpJob) (n : Nat) : Nat := match j.stop with | none => n | some k => min k n

/-- The words programmed so far, at a slot or stitch boundary; the generation is used from its first word (R503). -/
def otpTick (s : State) : State :=
  { s with otp := match s.otp.job with
    | none => s.otp
    | some j =>
      let d := stopAt j (wordsDone j.words.length (s.time.pt.toNat - 1000 * j.start))
      let o := if d = 0 then s.otp else otpMark j false s.otp
      { o with job := some { j with done := d }, words := d } }

/-- R501: bytes programmed at rising addresses; a programmed bit never returns to 0. -/
def memBurn (m : List Host.Cell) (a : Nat) : List Byte → List Host.Cell
  | [] => m
  | v :: vs => memBurn (memSet m a (memGet m a ||| v)) (a + 1) vs

/-- The first `n` words of a generation programmed into the array. -/
def otpBurn (j : OtpJob) (n : Nat) (o : OtpSt) : OtpSt :=
  { o with mem := memBurn o.mem (blockBase j.block j.gen) ((j.words.take n).flatMap wordBytes) }

/-- R503: the array as programming stands: the words of a running job that are complete are in it. -/
def otpSoFar (o : OtpSt) : OtpSt :=
  match o.job with | some j => otpBurn j j.done o | none => o

/-- R514: the record of a programmed generation. -/
def otpRecord (j : OtpJob) (good : Bool) (s : State) : State :=
  jreq 0x07 0x7F (place j.block 16 ||| place j.gen 8 ||| (if good then 1 else 3))
    (if good then j.words.getLastD 0 else 0) 2 s

/-- R290 step 2: OTP programming stops with the word in progress at the stitch boundary of the decision. -/
def otpStop (s : State) : State :=
  { s with otp := { s.otp with job := s.otp.job.map (fun (j : OtpJob) =>
      let e := s.time.ptB.toNat - 1000 * j.start
      let now := wordsDone j.words.length e + (if e % 1200 < 200 && decide (e / 1200 < j.words.length) then 1 else 0)
      { j with stop := some (max j.done (min j.words.length now)) }) } }

/-- R422, R503, R507: a generation finishes. A failed readback leaves the check word unprogrammed (log 33). Programming
that thermal shutdown has stopped does not finish (R290). -/
def otpFinish (good : Bool) (s : State) : State :=
  match s.otp.job with
  | none => s
  | some j =>
    if j.stop.isSome then s
    else
    let n := j.words.length
    let o := otpMark j good (otpBurn j (if good then n else n - 1) { s.otp with job := none, words := n })
    let s1 := { s with otp := o
                       safe := if j.block = 3 && good then { s.safe with sealed := true } else s.safe
                       sys := if j.block = 5 && good then { s.sys with headEnKept := none, xtalKept := none } else s.sys }
    otpRecord j good (otpResult j.block (if good then 1 else 3) s1)

/-- OTP_PROGRAM_COMPLETE (R422, R503). -/
def execOtpProgramComplete (good : Bool) (s : State) : Out := done (otpFinish good s)

/-- R503: what the cut leaves of the word in progress, the first after `n` complete ones: free bits of it. A header keeps one
at least, since the generation is used for good; the check word keeps none, and neither does a word after a stop at the end of
one (R290; log 33). -/
def otpPartial (j : OtpJob) (n : Nat) (free : Word) : Word :=
  let w := j.words.getD n 0
  if j.stop.isSome || j.words.length ≤ n + 1 then 0
  else if n = 0 && w &&& free == 0 then w else w &&& free

/-- R503, R507: a generation whose words are all programmed and that passes R504, which takes the place of its readback; a CONFIG
generation clears the kept values. -/
def otpWhole (j : OtpJob) (n : Nat) (o : OtpSt) : Bool := n == j.words.length && genValid o j.block j.gen

/-- R503: programming that ends after the words that are complete, or where it was stopped (R290): cut short, or whole without its
readback; the record comes at the next core release (R514). -/
def otpCut (s : State) : State :=
  match s.otp.job with
  | none => { s with otp := { s.otp with req := none } }
  | some j =>
    let n := min j.words.length (j.stop.getD j.done)
    let (f, s1) := drawFree s
    let k := { j with words := j.words.take n ++ [otpPartial j n f] }
    let o := otpMark j false (otpBurn k (n + 1)
      { s1.otp with job := none, req := none, words := n, cut := some (j.block, j.gen) })
    let ok := otpWhole j n o
    otpResult j.block (if ok then 1 else 3) { s1 with
      otp := o, sys := if j.block = 5 && ok then { s1.sys with headEnKept := none, xtalKept := none } else s1.sys }

/-- R514: the record of a generation that was cut short, at core release. -/
def otpCutRecord (s : State) : State :=
  match s.otp.cut with
  | none => s
  | some (b, g) =>
    let ok := genValid s.otp b g
    otpRecord { block := b, gen := g, words := genWords s.otp b g } ok { s with otp := { s.otp with cut := none } }

/-! ### The journal (R512 to R516) -/

/-- R513: the words of a record. -/
def jrnlWords (num : Word) (r : JPend) : List Word :=
  let ws := [num, BitVec.ofNat 32 (r.pt.toNat / 2 ^ 32), r.pt.setWidth 32,
    place r.code 24 ||| place r.mode 21 ||| place r.safety 19 ||| flag r.mand 18 ||| place r.addr.toNat 12 |||
      place r.role 10 ||| place r.source 0,
    place r.td 16 ||| place r.tmax 0, r.data0, r.data1]
  ws ++ [crc32Words ws]

/-- The slots with one record written, ascending. -/
def slotSet (l : List (Nat × List Word)) (k : Nat) (v : Option (List Word)) : List (Nat × List Word) :=
  match l with
  | [] => match v with | none => [] | some w => [(k, w)]
  | e :: r =>
    if k < e.1 then (match v with | none => e :: r | some w => (k, w) :: e :: r)
    else if e.1 = k then (match v with | none => r | some w => (k, w) :: r)
    else e :: slotSet r k v

/-- The writing of a record begins when none is being written: of a mandatory one first; of another not while optional
NVM writes are inhibited (R288) or journal formatting is shed (R41). The keeper carries no journal write (R484). -/
def jrnlBegin (s : State) : State :=
  { s with jrnl := { s.jrnl with busy :=
    if s.jrnl.busy.isSome then s.jrnl.busy
    else if s.pwr.src == 2 then none
    else if !s.jrnl.mand.isEmpty then some true
    else if !s.jrnl.queue.isEmpty && !s.thrm.nvmInh && decide (s.time.shed < 3) then some false
    else none } }

/-- R288: the record being written, and the journal without it. -/
def jrnlFront (j : JrnlSt) : Option (JPend × JrnlSt) :=
  match j.busy, j.mand, j.queue with
  | some true, r :: rest, _ => some (r, { j with mand := rest, busy := none })
  | some false, _, r :: rest => some (r, { j with queue := rest, busy := none })
  | _, _, _ => none

/-- One record written, or failed at its readback (R512); the one that is being written completes through an inhibit
(R288). A failed record is written again in the next slot. -/
def jrnlDone (good : Bool) (s : State) : State :=
  let j := s.jrnl
  let pick := (jrnlFront j).map (fun e => (e.1, if good then e.2 else j))
  match pick with
  | none => s
  | some (r, j1) =>
    let k := j1.next.toNat % 512
    let nx := j1.next + 1
    let wears := !good || decide (46080000 ≤ nx.toNat)
    let j2 := { j1 with slots := slotSet j1.slots k (if good then some (jrnlWords j1.next r) else none), next := nx
                        badSlot := if good then j1.badSlot else satInc j1.badSlot 0xFFFF, wear := j1.wear || wears }
    let s1 := { s with jrnl := j2, col := if wears && !j1.wear then colStand srcJrnlWear true 0 s.col else s.col }
    if good && decide (0 < j2.dropSince) && decide (j2.queue.length < 16) then
      { s1 with jrnl := { j2 with dropSince := 0
                                  queue := j2.queue ++ [jrec s1 0x09 false 0x7F (BitVec.ofNat 32 j2.dropSince) 0 2] } }
    else s1

/-- R288, R512: the record in progress, or the next one that may be written, is written, and the next one begins. -/
def jrnlWrite (good : Bool) (s : State) : State := jrnlBegin (jrnlDone good (jrnlBegin s))

/-- R290 steps 2 and 3: the record in progress completes, and every mandatory record is written, after `bad` writes that fail their
readback (R512). -/
def jrnlFlush (bad : Nat) (s : State) : State :=
  let s0 := if s.jrnl.busy == some false then jrnlDone true s else s
  let s1 := if s.jrnl.busy == some false then { s0 with jrnl := { s0.jrnl with busy := none } } else s0
  let s2 := (List.range bad).foldl (fun s _ => jrnlDone false (jrnlBegin s)) s1
  let s3 := (List.range s2.jrnl.mand.length).foldl (fun s _ => jrnlDone true (jrnlBegin s)) s2
  { s3 with jrnl := { s3.jrnl with busy := none } }


/-- R512: a record write that is cut short leaves a slot without a valid record. -/
def jrnlCut (j : JrnlSt) : JrnlSt :=
  if j.busy.isSome then { j with busy := none, slots := slotSet j.slots (j.next.toNat % 512) none } else j

/-- The core's queue is lost with the core (log 34); the record that is being written completes. -/
def jrnlLose (j : JrnlSt) : JrnlSt :=
  match j.busy, j.queue with
  | some false, r :: _ => { j with queue := [], mand := r :: j.mand, busy := some true }
  | _, _ => { j with queue := [] }

/-- R512: the scan at a start of the journal engine. -/
def jrnlScan (j : JrnlSt) : JrnlSt :=
  let last := j.slots.foldl (fun (m : Option Nat) e =>
    let n := (e.2.getD 0 0).toNat
    match m with | none => some n | some x => some (max x n)) none
  { jrnlLose j with next := (match last with | none => 0 | some n => BitVec.ofNat 32 (n + 1)), dropped := 0,
                    dropSince := 0, badSlot := 0 }

/-- The record that `JRNL.SEL` names, when its slot holds it (R519). -/
def jrnlView (s : State) (num : Word) : Option (List Word) :=
  match s.jrnl.slots.find? (fun e => e.1 == num.toNat % 512) with
  | none => none
  | some e => if e.2.getD 0 0 == num then some e.2 else none

end Sys2Proof.Machine
end

