-- ==== Sys2Proof/Machine/Calib.lean ====
section
/-! DEFINITION. Trims: selection, plausibility, the start-up ramp, trim verification and restoration
(09_calibration). A channel k of 0 to 33 here is channel k + 1 of the spec. -/

namespace Sys2Proof.Machine

/-! ### Selection (R257, R258, R260, R270) -/

/-- R260, R270: the first check a generation fails, and its first failing trim; cause 0 when it passes. -/
def trimJudge (o : OtpSt) (g : Nat) : Nat × Nat :=
  let ws := genWords o 1 g
  if !genUsed o 1 g then (1, 0)
  else if ws.getD 0 0 != genHeader 1 g then (5, 0)
  else if !crcOk ws then (2, 0)
  else trimFail ws

/-- A one-bit map of the two generations. -/
def twoBits (p : Nat → Bool) : Nat := (if p 0 then 1 else 0) + (if p 1 then 2 else 0)

/-- R260, at step 4: the selection; coarse and reference trims in force, primary trims latched as targets, primary
DACs at mid-scale. -/
def trimSelect (o : OtpSt) : CalSt :=
  let j1 := trimJudge o 1
  let j0 := trimJudge o 0
  let base : CalSt := {
    genCrc := twoBits (fun g => crcOk (genWords o 1 g)), genPlaus := twoBits (fun g => (trimJudge o g).1 == 0)
    cause1 := j1.1, trim1 := j1.2, cause0 := j0.1, trim0 := j0.2 }
  let use (g st : Nat) : CalSt :=
    let ws := genWords o 1 g
    { base with status := st, gen := g
                ofsT := (List.range 34).map (trimOfs ws), gainT := (List.range 34).map (trimGain ws)
                cOfs := (List.range 4).map (trimCOfs ws), cGain := (List.range 4).map (trimCGain ws)
                refA := trimRefA ws, refB := trimRefB ws }
  if j1.1 = 0 then use 1 0
  else if j0.1 = 0 then use 0 (if genUsed o 1 1 then 1 else 0)
  else base

/-- R261: what the selection raises, at core release. -/
def calRelease (s : State) : State :=
  let s1 := { s with cal := { s.cal with checkDue := true, ramp := false } }
  if s.cal.status = 2 then stand srcTrimInvalid true s1
  else if s.cal.status = 1 then raise srcTrimFallback s1 else s1

/-! ### The ramp (R262, R263) -/

/-- One LSB toward the target. -/
def stepTo (t c : Nat) : Nat := if c < t then c + 1 else if t < c then c - 1 else c

/-- Distance of two codes. -/
def dist (a b : Nat) : Nat := (a - b) + (b - a)

/-- Distance of channel `k`'s two codes from their targets, the larger. -/
def chanLeft (c : CalSt) (k : Nat) : Nat :=
  max (dist (c.ofs.getD k 512) (c.ofsT.getD k 512)) (dist (c.gain.getD k 2048) (c.gainT.getD k 2048))

/-- The largest distance of a primary DAC from its target. -/
def rampLeft (c : CalSt) : Nat := (List.range 34).foldl (fun m k => max m (chanLeft c k)) 0

/-- The chosen channels one step nearer their targets. -/
def stepChans (p : Nat → Bool) (c : CalSt) : CalSt :=
  { c with ofs := (List.range 34).map (fun k => if p k then stepTo (c.ofsT.getD k 512) (c.ofs.getD k 512) else c.ofs.getD k 512)
           gain := (List.range 34).map (fun k => if p k then stepTo (c.gainT.getD k 2048) (c.gain.getD k 2048) else c.gain.getD k 2048) }

/-- The latched targets agree with the selected generation. -/
def targetsHeld (s : State) : Bool :=
  s.cal.status == 2 ||
  (let ws := genWords s.otp 1 s.cal.gen
   s.cal.ofsT == (List.range 34).map (trimOfs ws) && s.cal.gainT == (List.range 34).map (trimGain ws))

/-- The targets latched again from OTP. -/
def relatch (s : State) : CalSt :=
  if s.cal.status = 2 then s.cal
  else
    let ws := genWords s.otp 1 s.cal.gen
    { s.cal with ofsT := (List.range 34).map (trimOfs ws), gainT := (List.range 34).map (trimGain ws) }

/-- R263: UNTRIMMED, with every DAC at mid-scale in one step. -/
def untrim (c : CalSt) : CalSt :=
  { c with status := 2, gen := 0, ofsT := List.replicate 34 512, gainT := List.replicate 34 2048
           ofs := List.replicate 34 512, gain := List.replicate 34 2048, cOfs := List.replicate 4 128
           cGain := List.replicate 4 128, refA := 512, refB := 512 }

/-- R262, R263: the first boundary after core release. `diff` counts the comparisons that find a difference. -/
def rampCheck (diff : Nat) (s : State) : State :=
  let c0 := { s.cal with checkDue := false }
  let s1 :=
    if 2 ≤ diff && s.cal.status != 2 then stand srcTrimInvalid true { s with cal := untrim c0 }
    else if diff = 1 || !targetsHeld s then { s with cal := { relatch s with checkDue := false } }
    else { s with cal := c0 }
  if rampLeft s1.cal = 0 then { s1 with sys := { s1.sys with rampDone := true } }
  else { s1 with cal := { s1.cal with ramp := true } }

/-- R262: a step of the start-up ramp, and its end. -/
def rampStep (s : State) : State :=
  let c := stepChans (fun _ => true) s.cal
  if rampLeft c = 0 then { s with cal := { c with ramp := false }, sys := { s.sys with rampDone := true } }
  else { s with cal := c }

/-! ### Restoration (R266) -/

/-- A DAC of a trim index set to a code. -/
def dacSet (c : CalSt) (i v : Nat) : CalSt :=
  if i = 0 then c
  else if i ≤ 0x22 then { c with ofs := c.ofs.set (i - 1) v }
  else if 0x41 ≤ i ∧ i ≤ 0x62 then { c with gain := c.gain.set (i - 0x41) v }
  else if 0x80 ≤ i ∧ i ≤ 0x83 then { c with cOfs := c.cOfs.set (i - 0x80) v }
  else if 0x88 ≤ i ∧ i ≤ 0x8B then { c with cGain := c.cGain.set (i - 0x88) v }
  else if i = 0x90 then { c with refA := v }
  else if i = 0x91 then { c with refB := v } else c

/-- The code a DAC holds. -/
def dacGet (c : CalSt) (i : Nat) : Nat :=
  if i ≤ 0x22 then c.ofs.getD (i - 1) 512
  else if i ≤ 0x62 then c.gain.getD (i - 0x41) 2048
  else if i ≤ 0x83 then c.cOfs.getD (i - 0x80) 128
  else if i ≤ 0x8B then c.cGain.getD (i - 0x88) 128
  else if i = 0x90 then c.refA else c.refB

/-- The cell of a primary DAC of cells 1 to 32 (1-based), or none. -/
def dacCell (i : Nat) : Option Nat :=
  if 1 ≤ i ∧ i ≤ 32 then some i else if 0x41 ≤ i ∧ i ≤ 0x60 then some (i - 0x40) else none

/-- The target of a primary DAC. -/
def dacTarget (c : CalSt) (i : Nat) : Nat := if i ≤ 0x22 then c.ofsT.getD (i - 1) 512 else c.gainT.getD (i - 0x41) 2048

/-- R168, R266: the cells of the DACs `is` lose their history. -/
def cellsForget (is : List Nat) (s : State) : State :=
  let cells := is.filterMap dacCell
  { s with meas := { s.meas with cells := s.meas.cells.zipIdx.map (fun e =>
      if cells.contains (e.2 + 1) then cellDiscard e.1 else e.1) } }

/-- R266 at a boundary: restoring ramps by one step, other DACs reloaded, and the results that are not published. A ramp that
makes its 17th step costs its cell the history. -/
def restoreStep (s : State) : State :=
  let ws := genWords s.otp 1 s.cal.gen
  let c1 := s.cal.repair.foldl (fun c i => dacSet c i (stepTo (dacTarget c i) (dacGet c i))) s.cal
  let left := s.cal.repair.filter (fun i => dacGet c1 i != dacTarget c1 i)
  let c2 := s.cal.reload.foldl (fun c i => dacSet c i (trimStored ws i)) c1
  let both := s.cal.reload.any (fun i => i == 0x21 || i == 0x22 || i == 0x61 || i == 0x62 || i == 0x90)
  let every := s.cal.reload.contains 0x90
  let cells := left.filterMap dacCell
  let run (i : Nat) : Nat := (s.cal.rampRun.lookup i).getD 0 + 1
  cellsForget (s.cal.repair.filter (fun i => run i == 17)) { s with cal := { c2 with
    repair := left, reload := [], rampRun := left.map (fun i => (i, run i)), holdAux := if both then 3 else 0
    holdCells := if every then BitVec.allOnes 32 else mapBits 32 (fun n => cells.contains (n + 1)) } }

/-- R262, R263, R266: the trims at a stitch boundary. -/
def calBoundary (diff : Nat) (s : State) : State :=
  let s1 := if s.cal.checkDue then rampCheck diff s else if s.cal.ramp then rampStep s else s
  if s1.cal.repair.isEmpty && s1.cal.reload.isEmpty then
    { s1 with cal := { s1.cal with holdCells := 0, holdAux := 0, rampRun := [] } } else restoreStep s1

/-! ### Verification (R264, R265) -/

/-- R264: a verification has run one more stitch; or, its 1024 stitches over, the one in which its last results are
published. -/
def verifyTick (d : DiagSt) : DiagSt :=
  match d.tvLeft with
  | some 0 => { d with tvOver := true }
  | some (n + 1) => { d with tvLeft := some n }
  | none => d

/-- R265: the published results of the stitch that ended, one of the 1024, enter the verification. -/
def verifyCount (s : State) : State :=
  match s.diag.tvLeft with
  | some k =>
    if k < 1024 && !s.diag.tvOver then
      let d := s.diag
      let d1 := { d with tvCellN := (List.range 32).map (fun n =>
        if (s.meas.cells.getD n {}).stale then d.tvCellN.getD n 0 else d.tvCellN.getD n 0 + 1) }
      { s with diag := match s.meas.sumEval with
        | some (x, _) => { d1 with tvSum := d.tvSum + x, tvN := d.tvN + 1
                                   tvVstk := d.tvVstk + (match s.meas.res.stack with | some a => (stackUv s a).toNat | none => 0) }
        | none => d1 }
    else s
  | none => s

/-- R265: the OTP image check. -/
def otpImageOk (readsGood : Bool) (s : State) : Bool :=
  readsGood && s.cal.status != 2 && (trimJudge s.otp s.cal.gen).1 == 0 && targetsHeld s

/-- R265, R266: the DACs whose readback differs from the selected generation; a moving one is judged by its target. -/
def dacWrong (s : State) : List Nat :=
  let ws := genWords s.otp 1 s.cal.gen
  trimIndices.filter (fun i =>
    let moving := s.cal.repair.contains i || (s.cal.ramp && decide (i ≤ 0x62))
    (if moving then dacTarget s.cal i else dacGet s.cal i) != trimStored ws i)

/-- R265: the cells evaluated for their offset residual. -/
def ofsEvaluated (s : State) : List Nat :=
  (List.range 32).filter (fun n => populated s n && decide (896 ≤ s.diag.tvCellN.getD n 0))

/-- R265: the cell with the largest |residual| of a list, and that residual. DESIGN CHOICE (log 82): of equal ones the lowest. -/
def ofsWorst (means : List Int) (l : List Nat) : Nat × Nat :=
  l.foldl (fun m n =>
    let r := (means.getD n 0).natAbs
    if m.1 = 0 || decide (m.2 < r) then (n + 1, r) else m) (0, 0)

/-- The stack-sum check of R265; with no evaluated stitch it has no stated result, a free value (log 23). DESIGN CHOICE (log 82): VSTK
of its limit is the mean over the evaluated stitches. -/
def tvSumOk (s : State) : Bool × State :=
  let d := s.diag
  if d.tvN = 0 then
    let (w, s1) := drawFree s
    (bit w 0, s1)
  else (decide (1000 * d.tvSum.natAbs ≤ d.tvVstk + 10000000 * d.tvN), s)

/-- R265, R266: the end of a trim verification. -/
def trimVerify (dacRead : List (Nat × Nat)) (means : List Int) (readsGood : Bool) (s0 : State) : State :=
  let s := { s0 with cal := dacRead.foldl (fun c e => dacSet c e.1 e.2) s0.cal }
  let otpOk := otpImageOk readsGood s
  let wrong := if s.cal.status = 2 then [] else dacWrong s
  let dacOk := s.cal.status != 2 && wrong.isEmpty
  let ev := ofsEvaluated s
  let badCells := ev.filter (fun n => decide (150 < (means.getD n 0).natAbs))
  let worst := ofsWorst means ev
  let (sumOk, s1) := tvSumOk s
  let cells := wrong.filterMap dacCell
  let pass := otpOk && dacOk && badCells.isEmpty && sumOk
  let c := { s1.cal with
    tvSt := stitch s1, sumOk := sumOk, ofsOk := badCells.isEmpty, dacOk := dacOk, otpOk := otpOk
    result := if pass then 1 else 2, tvFail := mapBits 32 (fun n => badCells.contains n || cells.contains (n + 1))
    resIdx := worst.1, res := min worst.2 0xFFFF
    repair := if otpOk then
        s1.cal.repair ++ wrong.filter (fun i => (dacCell i).isSome && !s1.cal.repair.contains i) else s1.cal.repair
    reload := if otpOk then s1.cal.reload ++ wrong.filter (fun i => (dacCell i).isNone) else s1.cal.reload }
  let s2 := { s1 with cal := c, diag := { s1.diag with tvLeft := none } }
  raiseIf (!badCells.isEmpty || !sumOk) srcTrimVerifyFail (raiseIf (!otpOk || !dacOk) srcTrimUpset s2)

/-- A verification that has run its 1024 stitches ends once the last of them is published, or its publication is missed. DESIGN CHOICE
(log 80): it ends with its command, however late; no boundary catches it up, since only the command carries its readings. -/
def verifyDue (dacRead : List (Nat × Nat)) (means : List Int) (readsGood : Bool) (s : State) : State :=
  if s.diag.tvLeft = some 0 && (s.meas.published || s.diag.tvOver) then trimVerify dacRead means readsGood s else s

/-- TRIM_VERIFY_END (R265, R266). -/
def execTrimVerifyEnd (dacRead : List (Nat × Nat)) (chopMeans : List Int) (otpReadsGood : Bool) (s : State) : Out :=
  done (verifyDue dacRead chopMeans otpReadsGood s)

/-- R264: a change of mode or a start abandons a verification. DESIGN CHOICE (log 80): also one accepted and not yet begun. DESIGN
CHOICE (log 82): also one past its 1024th stitch that has not ended, and the other results stay those of the verification before. -/
def verifyAbandon (s : State) : State :=
  if s.diag.tvLeft.isSome || s.diag.tvPend then
    { s with diag := { s.diag with tvLeft := none, tvPend := false }
             cal := { s.cal with result := 3, tvSt := stitch s } } else s

end Sys2Proof.Machine
end

