-- ==== Sys2Proof/Machine/Recorder.lean ====
section
/-! DEFINITION. The bobbin: frames at the write pointer, triggers and freezes, BULK reads, error handling, the
weak-word tracker, retirement and the patrol (17_recorder_ecc). The bytes of `mem` are those last written; a storage
word as it stands is those bits with the flipped bits of `errs` (R465). -/

namespace Sys2Proof.Machine

/-! ### The ring -/

/-- R454: bytes of a frame at a rate. -/
def frameBytes (rate : Nat) : Nat := if rate = 2 then 96 else 128
/-- R454: the first ring page at or after `p`, wrapping; `fuel` bounds the retired pages passed. -/
def ringFrom (retired : List Nat) : Nat → Nat → Nat
  | 0, p => p % 65536
  | n + 1, p => if retired.contains (p % 65536) then ringFrom retired n (p + 1) else p % 65536
/-- R454: the ring page after `p`. -/
def ringNext (r : RecSt) (p : Nat) : Nat := ringFrom r.retired 257 (p + 1)
/-- The rate of the frames a page holds, from the TYPE field of its first frame (R455). -/
def pageRate (r : RecSt) (p : Nat) : Nat :=
  let ty := bits (memWord r.mem (p * 1024)) 10 8
  if ty = 3 then 2 else if ty = 2 then 1 else 0
/-- The frame position after one. -/
def posNext (rate : Nat) (r : RecSt) (p f : Nat) : Nat × Nat :=
  if f + 1 < framesPerPage rate then (p, f + 1) else (ringNext r p, 0)

/-! ### Storage words and their errors -/

/-- The two data words of storage word `i` as last written (R463). -/
def storWord (r : RecSt) (i : Nat) : BitVec 64 :=
  BitVec.ofNat 64 (bytesNat (memGetBytes r.mem (8 * i) 8))
/-- The flipped bits of storage word `i`. -/
def flipsOf : List Upset → Nat → BitVec 72
  | [], _ => 0
  | u :: l, i => if u.word = i then u.flips else flipsOf l i
/-- The flipped bits of one word changed; the list stays ascending and lists no word without flipped bits. -/
def flipsSet (l : List Upset) (i : Nat) (v : BitVec 72) : List Upset :=
  match l with
  | [] => if v = 0 then [] else [⟨i, v⟩]
  | u :: r =>
    if i < u.word then (if v = 0 then u :: r else ⟨i, v⟩ :: u :: r)
    else if u.word = i then (if v = 0 then r else ⟨i, v⟩ :: r)
    else u :: flipsSet r i v
/-- New upsets of the bobbin (R465); words outside it do not exist. -/
def recUpset (ups : List Upset) (r : RecSt) : RecSt :=
  let add (l : List Upset) (u : Upset) : List Upset :=
    if u.word < 8388608 then flipsSet l u.word (flipsOf l u.word ^^^ u.flips) else l
  { r with errs := ups.foldl add r.errs }

/-- R465: what a read of a storage word finds: 0 clean, 1 corrected, 2 poisoned; and the data it delivers. -/
def storRead (r : RecSt) (i : Nat) : Nat × BitVec 64 :=
  let d := storWord r i
  let f := flipsOf r.errs i
  let stored := d ^^^ f.setWidth 64
  match popCount f with
  | 0 => (0, d)
  | 1 => (1, d)
  | 2 => (2, stored)
  | _ => match Config.manyBitOutcome i stored f with
    | none => (2, stored)
    | some x => (1, x)

/-- R467, R470: a whole-word write of `n` storage words from `i` leaves clean words and frees their entries. -/
def recFresh (i n : Nat) (r : RecSt) : RecSt :=
  { r with errs := r.errs.filter (fun u => u.word < i || i + n ≤ u.word)
           trk := r.trk.filter (fun e => e.1 < i || i + n ≤ e.1) }

/-- R470: the oldest entry with the lowest count removed. -/
def trkDropLeast (l : List (Nat × Nat)) : List (Nat × Nat) :=
  match l.foldl (fun (m : Option (Nat × Nat)) e => match m with
      | none => some e
      | some x => if e.2 < x.2 then some e else some x) none with
  | none => l
  | some x => l.filter (fun e => e.1 != x.1)

/-- R470: a correction of a word enters the tracker; the new count. -/
def trkCount (i : Nat) (l : List (Nat × Nat)) : List (Nat × Nat) × Nat :=
  match l.find? (fun e => e.1 == i) with
  | some e => (l.map (fun x => if x.1 == i then (x.1, x.2 + 1) else x), e.2 + 1)
  | none => ((if l.length < 32 then l else trkDropLeast l) ++ [(i, 1)], 1)

/-- R462, R470: every frame recorded in the ring lies on page `p`, whose next ring page is `n`: the ring has not wrapped, and
the write pointer is on `p` behind the oldest frame, or at the beginning of `n`. -/
def onlyOn (p n : Nat) (r : RecSt) : Bool :=
  decide (r.fPage = p) && ((decide (r.wPage = p) && decide (r.fFrame < r.wFrame)) ||
    (r.wPage != p && decide (r.wPage = n) && decide (r.wFrame = 0)))

/-- R462, R470: a page enters the retirement table; the write pointer and the oldest position leave it. Where the ring holds
no frame outside the page, it is empty. -/
def recRetire (p : Nat) (r : RecSt) : RecSt :=
  let r1 := { r with retired := r.retired ++ [p] }
  let n := ringNext r1 p
  { r1 with wPage := if r.wPage = p then n else r.wPage, wFrame := if r.wPage = p then 0 else r.wFrame
            fPage := if r.fPage = p then n else r.fPage, fFrame := if r.fPage = p then 0 else r.fFrame
            empty := r.empty || onlyOn p n r }

/-- R467, R470: a corrected word: REC_CE, the counter, the tracker, and the retirement of a weak word's page. -/
def recCorrected (i master access : Nat) (tag : BitVec 6) (s : State) : State :=
  let (trk, n) := trkCount i s.bob.trk
  let x : FerCtx := ⟨2, 2 * i, master, access, tag⟩
  let weak := decide (fld s .eccCfg 3 0 ≤ n)
  let p := i / 128
  let r := { s.bob with ce := satInc s.bob.ce 0xFFFF, trk := if weak then trk.filter (fun e => e.1 != i) else trk }
  let s1 := raiseCtx srcRecCe x { s with bob := r }
  if !weak || r.retired.contains p then s1
  else if r.retired.length ≥ 256 then raise srcRecRetireFull s1
  else
    let r2 := recRetire p r
    jreq 0x06 srcRecRetire (BitVec.ofNat 32 p) (BitVec.ofNat 32 r2.retired.length) 2
      (raiseCtx srcRecRetire x { s1 with bob := r2 })

/-- R468, R469: a poisoned word met: REC_UE and its counter. -/
def recPoisoned (i master access : Nat) (tag : BitVec 6) (s : State) : State :=
  raiseCtx srcRecUe ⟨2, 2 * i, master, access, tag⟩ { s with bob := { s.bob with ue := satInc s.bob.ue 0xFFFF } }

/-- The bits of a storage word that a byte mask covers; bit 7 of the mask is the byte at the lowest address. -/
def byteMask (m : BitVec 8) : BitVec 64 := BitVec.ofNat 64 (bytesNat ((List.range 8).map (fun k => if m.getLsbD (7 - k) then 0xFF else 0)))

/-- What a read of a storage word of kind `k` brings about (R467, R468). -/
def recMet (k i master access : Nat) (tag : BitVec 6) (s : State) : State :=
  match k with
  | 1 => recCorrected i master access tag s
  | 2 => recPoisoned i master access tag s
  | _ => s

/-! ### BULK (R463, R464, R468) -/

/-- The words of the bobbin from word offset `o`, as a BULK delivers them. -/
def bulkData (r : RecSt) (o : Nat) : Nat → List Word
  | 0 => []
  | n + 1 =>
    let d := (storRead r (o / 2)).2
    (if o % 2 = 0 then (d >>> 32).setWidth 32 else d.setWidth 32) :: bulkData r (o + 1) n

/-- The storage words a range of word offsets covers. -/
def bulkWords (o len : Nat) : List Nat :=
  if len = 0 then [] else (List.range ((o + len - 1) / 2 - o / 2 + 1)).map (· + o / 2)

/-- R463, R468: a BULK executed: the words delivered, and `ECC.BULK_ST`, counters and sources. -/
def bulkExec (o len master : Nat) (tag : BitVec 6) (s : State) : List Word × State :=
  let data := bulkData s.bob o len
  let kinds := (bulkWords o len).map (fun i => (i, (storRead s.bob i).1))
  let pois := kinds.filter (fun e => e.2 == 2)
  let s1 := kinds.foldl (fun s e => recMet e.2 e.1 master 1 tag s) s
  (data, { s1 with bob := { s1.bob with
    bulkPoison := pois.length, bulkCorr := kinds.any (fun e => e.2 == 1)
    bulkFirst := match pois with | [] => 0 | e :: _ => 2 * e.1 } })

/-! ### Writing frames (R455, R457, R460) -/

/-- REC.FIRST after a frame was written at (p, f) of the ring at a rate (R462). -/
def firstAfter (rate p f : Nat) (r : RecSt) : RecSt :=
  if r.empty then { r with empty := false, fPage := p, fFrame := f }
  else if r.fPage = p && decide (r.fFrame = f) then
    let (p', f') := posNext rate r p f
    { r with fPage := p', fFrame := f' }
  else r

/-- One frame written whole at the write pointer (R457), and the pointer moved on. -/
def frameWrite (rate : Nat) (ws : List Word) (r : RecSt) : RecSt :=
  let p := r.wPage
  let f := r.wFrame
  let changed := f == 0 && !r.empty && r.fPage == p && pageRate r p != rate
  let r0 := if changed then { r with fPage := ringNext r p, fFrame := 0 } else r
  let base := p * 1024 + f * frameBytes rate
  let last := rate == 2 && f == 9
  let bytes := ws.flatMap wordBytes ++ (if last then List.replicate 64 0 else [])
  let r1 := recFresh (base / 8) (bytes.length / 8) { r0 with mem := memSetBytes r0.mem base bytes, rate := rate }
  let r2 := firstAfter rate p f r1
  let (p', f') := posNext rate r2 p f
  { r2 with wPage := p', wFrame := f' }

/-- R457: at a change of rate the rest of the page is filled with empty frames. -/
def rateFill (rate : Nat) : Nat → RecSt → RecSt
  | 0, r => r
  | n + 1, r =>
    if r.wFrame = 0 || decide (r.rate = rate) then r
    else rateFill rate n (frameWrite r.rate (List.replicate (frameBytes r.rate / 4) 0) r)

/-- R465, R471: a byte-masked write of storage word `i`: the bits of `mask` take those of `val`, on the data that the decoder
delivers, with fresh check bits; a poisoned word refuses it. -/
def recMasked (i : Nat) (mask val : BitVec 64) (master : Nat) (s : State) : State :=
  let (k, x) := storRead s.bob i
  let put (r : RecSt) : RecSt :=
    recFresh i 1 { r with mem := memSetBytes r.mem (8 * i) (natBytes 8 ((x &&& ~~~mask) ||| (val &&& mask)).toNat) }
  match k with
  | 0 => { s with bob := put s.bob }
  | 1 =>
    let s1 := recCorrected i master 3 0 s
    { s1 with bob := { put s1.bob with merged := satInc s1.bob.merged 0xFFFF } }
  | _ =>
    let s1 := recPoisoned i master 3 0 s
    { s1 with bob := { s1.bob with refused := satInc s1.bob.refused 0xFFFF } }

/-- The TRIG stamp of R459: the third byte of the frame's W0, at byte `base`, as the engine wrote it but with TRIG set. -/
def trigStamp (base : Nat) (s : State) : State :=
  let b : Byte := memGet s.bob.mem (base + 2) ||| 8#8
  recMasked (base / 8) 0x0000FF0000000000 (b.setWidth 64 <<< 40) 3 s

/-- R459: the stamp that waits since the trigger frame was written (log 71). -/
def stampDue (s : State) : State :=
  match s.bob.stamp with
  | none => s
  | some base => trigStamp base { s with bob := { s.bob with stamp := none } }

/-- R457, R459, R460: one frame of the stitch `st` that ended, as the recording state has it. -/
def recFrame (rate : Nat) (st : BitVec 16) (ws : List Word) (r : RecSt) : RecSt :=
  match r.st with
  | 1 => frameWrite rate ws r
  | 2 =>
    match r.trig with
    | some (_, _, ts, _) =>
      if ts == st then
        { frameWrite rate ws r with trig := none, tPage := r.wPage, tFrame := r.wFrame
                                    stamp := some (r.wPage * 1024 + r.wFrame * frameBytes rate) }
      else frameWrite rate ws r
    | none => if r.post = 0 then r else { frameWrite rate ws r with post := r.post - 1 }
  | _ => r

/-- R457: the frames of the stitch that ended, first the fill of a changed rate. -/
def recFrames (rate : Nat) (st : BitVec 16) (frames : List (List Word)) (r : RecSt) : RecSt :=
  frames.foldl (fun r ws => recFrame rate st ws r) (if r.st = 1 || r.st = 2 then rateFill rate 10 r else r)

/-- R460: POST ends when no post-trigger frame is left. -/
def postDone (r : RecSt) : RecSt := if r.st = 2 && r.trig.isNone && r.post == 0 then { r with st := 3 } else r

/-- POST_COMPLETE (R460). -/
def execPostComplete (s : State) : Out := done { s with bob := postDone s.bob }

/-! ### REC.CTRL (R459, R461, R462, R475) -/

/-- R475: `REC.CTRL` with both bits or neither is refused. -/
def recCtrlJudge (v : Word) : Nat := if bit v 0 == bit v 1 then 1 else 0

/-- An accepted write of `REC.CTRL` waits for its boundary (R29), behind the ones before it. -/
def recCtrlApply (v : Word) (s : State) : State :=
  { s with bob := { s.bob with ctrlPend := s.bob.ctrlPend ++ [bit v 0] } }

/-- R459, R461: a FREEZE at its boundary. -/
def recFreezeDue (s : State) (r : RecSt) : RecSt :=
  if r.st = 0 then { r with st := 3, cause := 3, trigSrc := 0x7F } else recTrigger 3 0x7F (stitch s) s.time.ptB (postFrames s) r

/-- R462: a RELEASE at its boundary. -/
def recReleaseDue (s : State) (r : RecSt) : RecSt :=
  if r.st = 3 then
    { r with st := if streaming s then 1 else 0, cause := 0, trigSrc := 0x7F, tPage := 0, tFrame := 0, trigSt := 0
             trigPt := 0, trig := none, post := 0 }
  else r

/-- R459, R461, R462: the accepted writes at their boundary, in the order in which they came. -/
def recCtrlBoundary (s : State) : State :=
  { s with bob := s.bob.ctrlPend.foldl (fun r b => if b then recFreezeDue s r else recReleaseDue s r) { s.bob with ctrlPend := [] } }

/-- R458: the recording state at a change of mode. -/
def recMode (streams : Bool) (r : RecSt) : RecSt :=
  if streams then (if r.st = 0 then { r with st := 1 } else r)
  else if r.st = 1 then { r with st := 0 } else if r.st = 2 then { r with st := 3, post := 0, trig := none } else r

/-- R466: the bobbin and its registers after a fill. -/
def recFill (r : RecSt) : RecSt :=
  { st := 0, wPage := ringFrom r.retired 257 0, retired := r.retired }

/-- R466, R469, R474, R476: the bobbin kept over a start (R99). The recording state and the registers of the REC page marked
Kept come back, and so does the retirement table; every other count, and the tracker, is at its reset value, and the patrol
begins at page 0. -/
def recRestart (r : RecSt) : RecSt :=
  { recFill r with st := 3, cause := r.cause, trigSrc := r.trigSrc, rate := r.rate, wPage := r.wPage, wFrame := r.wFrame
                   empty := r.empty, fPage := r.fPage, fFrame := r.fFrame, tPage := r.tPage, tFrame := r.tFrame
                   trigSt := r.trigSt, trigPt := r.trigPt, mem := r.mem, errs := r.errs }

/-! ### The factory port (R458, R465, R538) -/

/-- R465, R538: an access of the factory port to the bobbin, MASTER 6, or its command to the engine (R458, log 41). Words
outside the bobbin do not exist. -/
def portOp (x : PortOp) (s : State) : State :=
  match x with
  | .engine st => { s with bob := { s.bob with st := st.val } }
  | .read i => if i < 8388608 then recMet (storRead s.bob i).1 i 6 1 0 s else s
  | .write i v =>
    if i < 8388608 then { s with bob := recFresh i 1 { s.bob with mem := memSetBytes s.bob.mem (8 * i) (natBytes 8 v.toNat) } } else s
  | .masked i m v => if i < 8388608 then recMasked i (byteMask m) v 6 s else s

/-- R465: what the factory port did in FACTORY in the stitch that ended, in its order. -/
def portOps (l : List PortOp) (s : State) : State := if inMode s .factory then l.foldl (fun s x => portOp x s) s else s

/-! ### The patrol (R469) -/

/-- R469: stitches from one page of the patrol to the next. -/
def patrolPace : Nat := 110

/-- R469: the stitch that ended counts, in the modes in which the patrol runs. -/
def patrolTick (s : State) : State := { s with bob := { s.bob with patTick := if awake s then s.bob.patTick + 1 else 0 } }

/-- One patrol page read. -/
def patrolPage (s : State) : State :=
  let p := s.bob.patPage
  let kinds : List (Nat × Nat) := (s.bob.errs.filter (fun u => decide (u.word / 128 = p))).map
    (fun u => (u.word, (storRead s.bob u.word).1))
  let s1 := kinds.foldl (fun s e => recMet e.2 e.1 4 5 0 s) s
  let r := { s1.bob with
    accCe := satAdd s1.bob.accCe (kinds.filter (fun (e : Nat × Nat) => e.2 == 1)).length 0xFFFF
    accUe := satAdd s1.bob.accUe (kinds.filter (fun (e : Nat × Nat) => e.2 == 2)).length 0xFFFF }
  { s1 with bob := if p = 65535 then
      { r with patTick := 0, patPage := 0, passes := (r.passes + 1) % 256, passCe := r.accCe, passUe := r.accUe, accCe := 0, accUe := 0 }
    else { r with patTick := 0, patPage := p + 1 } }

/-- R469: the page of the patrol that is due: 110 stitches after the one before. -/
def patrolDue (s : State) : State := if awake s && decide (patrolPace ≤ s.bob.patTick) then patrolPage s else s

/-- RECORDER_PATROL (R469): the page that is due. The upsets that arose come first. -/
def execRecorderPatrol (ups : List Upset) (s : State) : Out := done (patrolDue { s with bob := recUpset ups s.bob })

end Sys2Proof.Machine
end

