-- ==== Sys2Proof/Machine/Collector.lean ====
section
/-! DEFINITION. The fault collector: occurrences, latching, levels and escalation, the first-error record, device and
pack event records, root tags, injection and IRQ_N (16_fault_collection). -/

namespace Sys2Proof.Machine

/-! ### Levels -/

/-- R436, R451: the assigned level of a source. -/
def assigned (c : Cfg) (n : Nat) : Nat :=
  bits (cfgGet c (([CReg.colLvl0, .colLvl1, .colLvl2, .colLvl3, .colLvl4, .colLvl5, .colLvl6, .colLvl7]).getD
    (n / 16) .colLvl0)) (2 * (n % 16) + 1) (2 * (n % 16))

/-- R451: a source is enabled. -/
def enabled (c : Cfg) (n : Nat) : Bool :=
  bit (cfgGet c (([CReg.colEnS, .colEnD, .colEnC, .colEnH]).getD (n / 32) .colEnS)) (n % 32)

/-- R459: a source is a freeze trigger. -/
def freezeSel (c : Cfg) (n : Nat) : Bool :=
  bit (cfgGet c (([CReg.recFselS, .recFselD, .recFselC, .recFselH]).getD (n / 32) .recFselS)) (n % 32)

/-- R437: the effective level of a source with assigned level `a` after `steps` escalation steps. -/
def effLevel (n a steps : Nat) : Nat :=
  if srcEscalates n then max a (min (if 96 ≤ n then 2 else 3) (a + steps)) else a

/-- R437, R440: the effective level of a source as it stands. -/
def effNow (cfg : Cfg) (c : ColSt) (n : Nat) : Nat :=
  if srcReserved n then 0 else max (c.effMin.getD n 0) (effLevel n (assigned cfg n) (c.steps.getD n 0))

/-! ### Queues of event records (R447) -/

/-- R447: the newest record of L0 or L1 removed, when there is one. -/
def dropNewestLow {α : Type} (lev : α → Nat) (q : List α) : Option (List α) :=
  match q.reverse.findIdx? (fun r => decide (lev r < 2)) with
  | none => none
  | some i => some (q.eraseIdx (q.length - 1 - i))

/-- The newest entry of a queue with a property changed. -/
def changeNewest {α : Type} (p : α → Bool) (f : α → α) (q : List α) : List α :=
  match q.reverse.findIdx? p with
  | none => q
  | some i => q.modify (q.length - 1 - i) f

/-- R447: a record enters a queue of `cap` places; the queue, and how many records were dropped. DESIGN CHOICE (log 72): of
several queued records of the source the newest takes it in. -/
def queueIn {α : Type} (cap : Nat) (lev src : α → Nat) (merge : α → α → α) (r : α) (q : List α) : List α × Nat :=
  if q.length < cap then (q ++ [r], 0)
  else if lev r < 2 then (q, 1)
  else match dropNewestLow lev q with
    | some q' => (q' ++ [r], 1)
    | none =>
      if q.any (fun x => src x == src r) then (changeNewest (fun x => src x == src r) (fun x => merge x r) q, 0)
      else (q, 1)

/-- Two device records of one source merged in a full queue. -/
def devMerge (a b : DevRec) : DevRec :=
  { a with level := max a.level b.level, cells := a.cells ||| b.cells, cnt := b.cnt, inj := a.inj || b.inj
           real := a.real || b.real, common := a.common && b.common }

/-- Two pack records of one source merged in a full queue. -/
def packMerge (a b : PackRec) : PackRec :=
  { a with level := max a.level b.level, last := b.last, devs := a.devs ||| b.devs, cells := a.cells ||| b.cells
           nrec := satAdd a.nrec b.nrec 255, inj := a.inj || b.inj, real := a.real || b.real
           common := a.common && b.common, dropped := satAdd a.dropped b.dropped 0xFFFF }

/-- R445: a device record of address `addr` taken into the open pack records. -/
def packTake (addr : BitVec 6) (r : DevRec) (l : List PackRec) : List PackRec :=
  let fits (p : PackRec) : Bool := p.source == r.source && decide ((r.stitch - p.first).toNat ≤ 15)
  let dev : BitVec 64 := BitVec.ofNat 64 (2 ^ addr.toNat)
  if l.any fits then
    l.map (fun p => if fits p then
      { p with devs := p.devs ||| dev, cells := p.cells ||| r.cells, level := max p.level r.level, inj := p.inj || r.inj
               real := p.real || r.real, common := p.common && r.common, nrec := satInc p.nrec 255
               last := if decide ((p.last - p.first).toNat < (r.stitch - p.first).toNat) then r.stitch else p.last }
      else p)
  else l ++ [{ source := r.source, level := r.level, first := r.stitch, last := r.stitch, devs := dev
               cells := r.cells, nrec := 1, inj := r.inj, real := r.real, common := r.common }]

/-- The head merges a device record and remembers the occurrence for the root tags (R445, R446). -/
def headMerge (addr : BitVec 6) (now : Nat) (r : DevRec) (c : ColSt) : ColSt :=
  { c with openRecs := packTake addr r c.openRecs
           seen := (c.seen.filter (fun e => decide (now ≤ e.2.2 + 96))) ++ [(r.source, addr, now - (BitVec.ofNat 16 now - r.stitch).toNat)] }

/-- R447: a record of this device: merged at once at the head, queued on a member. -/
def devRecord (r : DevRec) (s : State) : State :=
  if isHead s then { s with col := headMerge s.sys.addr (stitches s) r s.col }
  else
    let (q, d) := queueIn 16 DevRec.level DevRec.source devMerge r s.col.recs
    { s with col := if d = 0 then { s.col with recs := q }
                    else colRaise srcEvtOverflow 0 { s.col with recs := q, dropped := satAdd s.col.dropped d 0xFFFF } }

/-! ### Occurrences (R434 to R442) -/

/-- Lowest set bit of a word, 0 when none. -/
def lowestBit (w : Word) : Nat := ((List.range 32).find? (fun k => bit w k)).getD 0

/-- R442, R538: what the first-error record holds of an occurrence of source `n`. -/
def ferOf (n : Nat) (cells : Word) (owLow : Nat) (ctxs : List (Nat × FerCtx)) : FerCtx :=
  match ctxs.find? (fun e => e.1 == n) with
  | some e => e.2
  | none =>
    if n = srcOpenWire then ⟨5, owLow, 7, 0, 0⟩
    else if cells != 0 then ⟨5, lowestBit cells + 1, 7, 0, 0⟩
    else ⟨0, 0, 7, 0, 0⟩

/-- R441: the first-error record after an occurrence at effective level `eff`. -/
def ferTake (n eff lvl : Nat) (pt : BitVec 64) (x : FerCtx) (f : Option Fer) : Option Fer :=
  if eff < lvl then f
  else match f with
    | none => some { ctx := x, source := n, pt := pt }
    | some r => some { r with more := true }

/-- Every populated cell, as a bitmap. -/
def allCells (s : State) : Word := mapBits 32 (fun k => decide (k < ncell s))

/-- One occurrence of source `n` in the stitch that ended (R435 to R437, R449). -/
def colOccur (st : BitVec 16) (cells : List (Nat × Word)) (ctxs : List (Nat × FerCtx)) (really : Bool) (n : Nat)
    (s : State) : State :=
  let c := s.col
  let cnt := satInc (c.cnt.getD n 0) 255
  let injected := c.injSrc == some n
  let c1 := { c with cnt := c.cnt.set n cnt, inj := if injected then c.inj ||| srcBit n else c.inj
                     real := if injected && really then c.real ||| srcBit n else c.real }
  if !enabled s.cfg n then { s with col := c1 }
  else
    let a := assigned s.cfg n
    let stp := if srcEscalates n && really && c.lat.getLsbD n && c.latOcc.getLsbD n then c.steps.getD n 0 + 1
               else c.steps.getD n 0
    let e := max (c.effMin.getD n 0) (effLevel n a stp)
    let cm := match cells.find? (fun x => x.1 == n) with | none => (0 : Word) | some x => x.2
    let c2 := { c1 with lat := c1.lat ||| srcBit n, latOcc := c1.latOcc ||| srcBit n, steps := c1.steps.set n stp
                        eff := c1.eff.set n e
                        fer := ferTake n e (fld s .colCfg 1 0) s.time.pt (ferOf n cm c1.owLow ctxs) c1.fer }
    let r : DevRec := { stitch := st, source := n, level := e, cells := cm, cnt := cnt, inj := injected
                        real := injected && really
                        common := n == srcCellRoc && cm == allCells s }
    let s1 := devRecord r { s with col := c2 }
    let s2 := if 1 ≤ e && !c.kept.getLsbD n then
        jreq 0x01 n (place cnt 24 ||| place e 0) cm e s1 else s1
    let s3 := if 2 ≤ e && freezeSel s.cfg n then
        { s2 with bob := recTrigger 2 n st (s2.time.ptB - 1000) (postFrames s2) s2.bob } else s2
    if e = 3 && (32 ≤ n || n = srcCompTestFail) then tripOwn 1 true true s3 else s3

/-- R434 to R440, R448, R449: the collector evaluates the stitch that ended, at its boundary. A real raising is an occurrence
of its own where only an injection raised the source before. -/
def colEval (s : State) : State :=
  let c := s.col
  let real := (c.stand ||| c.pulse) &&& srcMask
  let injBit : BitVec 128 := match c.injSrc with | none => 0 | some n => srcBit n &&& srcMask
  let now := real ||| injBit
  let order := c.order ++ ((List.range 128).filter (fun n => now.getLsbD n && !c.order.contains n))
  let before := c.dyn &&& (c.dynReal ||| ~~~ real)
  let fired := order.filter (fun n => now.getLsbD n && !before.getLsbD n)
  let relat := (List.range 128).foldl (fun (m : BitVec 128) n =>
    if c.relatch.getLsbD n && enabled s.cfg n then m ||| srcBit n else m) 0
  let c1 := { c with
    dyn := now, dynReal := real, lat := c.lat ||| relat, relatch := 0, pulse := 0, order := [], ordAt := 0, cells := []
    ctxs := [], eff := (List.range 128).map (effNow s.cfg c) }
  let s1 := fired.foldl (fun s n => colOccur (lastStitch s) c.cells c.ctxs (real.getLsbD n) n s) { s with col := c1 }
  { s1 with col := { s1.col with kept := 0 } }

/-- R439, R140: latched bits cleared; a raised source is latched again at the boundary. -/
def colClear (cfg : Cfg) (m : BitVec 128) (c : ColSt) : ColSt :=
  { c with lat := c.lat &&& ~~~m, latOcc := c.latOcc &&& ~~~m, relatch := c.relatch ||| (c.lat &&& m &&& c.dyn)
           steps := (List.range 128).map (fun n => if m.getLsbD n then 0 else c.steps.getD n 0)
           effMin := (List.range 128).map (fun n => if m.getLsbD n then 0 else c.effMin.getD n 0)
           eff := (List.range 128).map (fun n => if m.getLsbD n && c.lat.getLsbD n then assigned cfg n else c.eff.getD n 0) }

/-- The sources a write of `FCOL.LAT_x` or `PG_EVTL` clears. -/
def latchMask (addr : Nat) (v : Word) : BitVec 128 :=
  if addr % 256 = 0x14 then
    ((pageSources (addr / 256)).zipIdx).foldl (fun m e => if bit v e.2 then m ||| srcBit e.1 else m) 0
  else (v.setWidth 128) <<< (32 * ((addr - 0x1230) / 4))

/-- R140, R439: an accepted write of `FCOL.LAT_x` or `PG_EVTL`. -/
def latchClearApply (addr : Nat) (v : Word) (s : State) : State :=
  { s with col := colClear s.cfg (latchMask addr v) s.col }

/-- R451: `FCOL.SEL.CLR_CNT` clears the counter of the selected source. -/
def clrCntApply (v : Word) (s : State) : State :=
  { s with col := if bit v 31 then { s.col with cnt := s.col.cnt.set (bits v 6 0) 0 } else s.col }

/-- R441: a write of 1 to `FCOL.FER_INFO.VALID`. -/
def ferClearApply (v : Word) (s : State) : State :=
  { s with col := if bit v 31 then { s.col with fer := none } else s.col }

/-- R452: the judgement of `FCOL.PEV_POP`. -/
def pevPopJudge (s : State) (v : Word) : Nat :=
  if !isHead s then 3
  else match s.col.queue with
    | [] => 1
    | r :: _ => if r.first.toNat == bits v 31 16 && r.source == bits v 6 0 then 0 else 1

/-- R447: the oldest pack record removed. -/
def pevPopApply (s : State) : State := { s with col := { s.col with queue := s.col.queue.drop 1 } }

/-! ### Injection (R449, R452) -/

/-- R452: the judgement of `FCOL.INJ`. -/
def injJudge (s : State) (v : Word) : Nat :=
  if !inMode s .factory then 3
  else if bit v 8 && s.col.injSrc.isSome && s.col.injSrc != some (bits v 6 0) then 5
  else 0

/-- An accepted write of `FCOL.INJ` waits for its boundary. -/
def injApply (v : Word) (s : State) : State :=
  { s with col := { s.col with injPend := some v }, cfgW := cfgSet s.cfgW .colInj (v &&& 0x00FF017F) }

/-- R449: an accepted write of `FCOL.INJ` at its boundary: the injection begins with the stitch that begins, or ends. -/
def injBegin (c : ColSt) : ColSt :=
  match c.injPend with
  | some v =>
    if bit v 8 then
      { c with injPend := none, injSrc := some (bits v 6 0)
               injLeft := if bits v 23 16 = 0 then none else some (bits v 23 16)
               order := orderAdd c.ordAt c.order (bits v 6 0) }
    else { c with injPend := none, injSrc := none, injLeft := none }
  | none => c

/-- R449: the running injection counts the stitch that ended. -/
def injCount (c : ColSt) : ColSt := { c with injLeft := c.injLeft.map (· - 1) }

/-- R449: the injection at a boundary, once the stitch that ended has been evaluated. -/
def injBoundary (c : ColSt) : ColSt := injBegin (injCount c)

/-- R449: the injection has run out. -/
def injEnd (c : ColSt) : ColSt :=
  if c.injLeft == some 0 then { c with injSrc := none, injLeft := none } else c

/-- INJECTION_END (R449). -/
def execInjectionEnd (s : State) : Out := done { s with col := injEnd s.col }

/-! ### Event record frames (R444) -/

/-- R444: the three words of a device record in a frame. -/
def devWords (r : DevRec) : List Word :=
  [place r.stitch.toNat 16 ||| place r.level 14 ||| flag r.common 13 ||| flag r.inj 12 ||| flag r.real 11 ||| place r.source 0,
   r.cells, place r.cnt 24]

/-- A device record of three words. -/
def devOfWords (a b c : Word) : DevRec :=
  { stitch := BitVec.ofNat 16 (bits a 31 16), level := bits a 15 14, common := bit a 13, inj := bit a 12, real := bit a 11
    source := bits a 6 0, cells := b, cnt := bits c 31 24 }

/-- The device records that words spell, three words each. -/
def devsOfWords : List Word → List DevRec
  | a :: b :: c :: l => devOfWords a b c :: devsOfWords l
  | _ => []

/-- R444, R308: an event record frame: HDR, ARG, records, and the CRC word in its reply form. -/
def eventFrame (addr : BitVec 6) (rseq : BitVec 8) (st : BitVec 16) (l : List DevRec) : List Word :=
  let ws := [place 9 28 ||| place addr.toNat 16 ||| place rseq.toNat 8 ||| place l.length 0, place st.toNat 16] ++
    l.flatMap devWords
  ws ++ [place (3 * l.length) 16 ||| place (crc16 (ws.flatMap wordBytes)).toNat 0]

/-- R444, R447: how many records the head counts as dropped at a device: what a gap of `gap` frames of 1 to 16 records held,
and what the device itself dropped when it says so with an EVT_OVERFLOW record. Neither number is sent: a free value in its
bounds (log 72). -/
def dropsMissed (gap : Nat) (overflow : Bool) (w : Word) : Nat :=
  gap + w.toNat % (15 * gap + 1) + (if overflow then 1 + w.toNat / 65536 else 0)

/-- R444, R445: the head takes in a member's event record frame. -/
def eventReceive (ws : List Word) (s : State) : State :=
  let hdr := ws.getD 0 0
  let n := bits hdr 7 0
  let body := ws.take (2 + 3 * n)
  let addr := BitVec.ofNat 6 (bits hdr 21 16)
  let ok := isHead s && bits hdr 31 28 == 9 && bits hdr 27 22 == 0 && decide (1 ≤ n) && decide (n ≤ 16) &&
    ws.length == 3 + 3 * n && bits (ws.getD 1 0) 15 0 == 0 &&
    bits (ws.getLastD 0) 22 16 == 3 * n && bits (ws.getLastD 0) 31 23 == 0 &&
    bits (ws.getLastD 0) 15 0 == (crc16 (body.flatMap wordBytes)).toNat
  if !ok then s
  else
    let seq := BitVec.ofNat 8 (bits hdr 15 8)
    let m := s.link.members.getD addr.toNat {}
    let gap := match m.rseq with | none => 0 | some p => (seq - p - 1).toNat
    let recs := (devsOfWords (body.drop 2)).filter (fun r => !srcReserved r.source)
    let over_ := recs.any (fun r => r.source == srcEvtOverflow)
    let (w, s1) := if gap = 0 && !over_ then ((0 : Word), s) else drawFree s
    let k := addr.toNat
    let col0 := { s.col with drops := s.col.drops.set k (satAdd (s.col.drops.getD k 0) (dropsMissed gap over_ w) 0xFFFF) }
    let col1 := recs.foldl (fun c r => headMerge addr (stitches s) r c) col0
    { s1 with col := if gap = 0 then col1 else colRaise srcEvtOverflow 0 col1
              link := { s.link with members := s.link.members.set k { m with rseq := some seq } } }

/-! ### Pack records (R445, R446) -/

/-- R446: the roots of a consequence, in order, and whether they must lie on the same device. -/
def rootsOf (n : Nat) : List Nat × Bool :=
  if n = 65 || n = 66 || n = 68 then ([64], false)
  else if n = 69 || n = 22 then ([64, 66], false)
  else if n = 33 || n = 32 then ([43], true)
  else if n = 42 then ([39, 41], true)
  else if n = 48 then ([47], true)
  else if n = 17 then ([32, 39, 41, 42, 20, 21, 22], true)
  else if n = 1 then ([0], true)
  else ([], false)

/-- R446: the first stitch of a pack record's scope, whole stitches of pack time. -/
def rootFrom (now : Nat) (p : PackRec) (back : Nat) : Nat := now - (BitVec.ofNat 16 now - p.first).toNat - back

/-- R278: as far as the head knows, a TS_PATH of device `a` that occurred in stitch `t` stood until stitch `e`: it did not occur again,
and the head's own did not end (log 53). -/
def pathStood (c : ColSt) (a : BitVec 6) (t e : Nat) : Bool :=
  !c.seen.any (fun x => x.1 == srcTsPath && x.2.1 == a && decide (t < x.2.2) && decide (x.2.2 ≤ e)) &&
    !(a == 1 && decide (t < c.pathEnd) && decide (c.pathEnd ≤ e))

/-- R446, R278: an occurrence of root `r` on device `a` in stitch `t` lies in the scope of a pack record: from FIRST − 16 on, or
it is that of the TS_PATH whose standing for 32 stitches made the device's own TS_BROKEN of the record (log 53). -/
def rootTimes (c : ColSt) (now : Nat) (p : PackRec) (r : Nat) (a : BitVec 6) (t : Nat) : Bool :=
  let first := rootFrom now p 0
  decide (rootFrom now p 16 ≤ t) || (r == srcTsPath && c.seen.any (fun e =>
    e.1 == p.source && e.2.1 == a && decide (first ≤ e.2.2) && decide (e.2.2 ≤ first + 15) &&
      (decide (t + 31 = e.2.2) || decide (t + 32 = e.2.2)) && pathStood c a t e.2.2))

/-- R446: the root source and the lowest address at which it occurred in the scope, up to the close. -/
def rootFind (c : ColSt) (now : Nat) (p : PackRec) (same : Bool) : List Nat → Option (Nat × BitVec 6)
  | [] => none
  | r :: l =>
    let hits := c.seen.filter (fun e => e.1 == r && rootTimes c now p r e.2.1 e.2.2 && (!same || p.devs.getLsbD e.2.1.toNat))
    match (List.range 64).find? (fun a => hits.any (fun e => e.2.1.toNat == a)) with
    | some a => some (r, BitVec.ofNat 6 a)
    | none => rootFind c now p same l

/-- R446: the root of a MEMBER_TRIP record: the flags of the member that opened it, first of SLV_CRIT, SLT_OT, SSI_INACTIVE and
SAFE_DEADLINE. Flag [16] stands for other causes too (R379), so it names SAFE_DEADLINE only where the member has recorded
that source in the scope. -/
def tripRoot (c : ColSt) (now : Nat) (p : PackRec) : Option (Nat × BitVec 6) :=
  let first := rootFrom now p 0
  match (c.memTrip.filter (fun e => decide (first ≤ e.1) && decide (e.1 ≤ first + 15))).getLast? with
  | none => none
  | some (_, o, fl) =>
    if fl.getLsbD 5 then some (srcSlvCrit, o) else if fl.getLsbD 4 then some (srcSltOt, o)
    else if fl.getLsbD 1 then some (srcSsiInactive, o)
    else if fl.getLsbD 0 &&
        c.seen.any (fun e => e.1 == srcSafeDeadline && e.2.1 == o && decide (rootFrom now p 16 ≤ e.2.2)) then
      some (srcSafeDeadline, o)
    else none

/-- R447: the drops that the next pack record of these devices counts: theirs, and the head's own. -/
def dropsOf (c : ColSt) (devs : BitVec 64) : Nat :=
  min 0xFFFF ((List.range 64).foldl (fun n a => if devs.getLsbD a then n + c.drops.getD a 0 else n) c.dropped)

/-- Drops that the records of a queue carry. -/
def dropsHeld (q : List PackRec) : Nat := q.foldl (fun n r => n + r.dropped) 0

/-- R445, R446: a pack record closed: its root tag and the drops before it, then the queue of 32. The drops that a dropped
record would have told go to the next one. -/
def packClose (s : State) (p : PackRec) (c : ColSt) : ColSt :=
  let root := if p.source = srcMemberTrip then tripRoot c (stitches s) p
              else rootFind c (stitches s) p (rootsOf p.source).2 (rootsOf p.source).1
  let p0 := { p with dropped := dropsOf c p.devs }
  let p1 := match root with
    | none => p0
    | some (r, a) => { p0 with rootTag := true, root := r, rootDev := a }
  let (q, d) := queueIn 32 PackRec.level PackRec.source packMerge p1 c.queue
  let lost := if d = 0 then 0 else d + (dropsHeld c.queue + p1.dropped - dropsHeld q)
  let c1 := { c with queue := q, dropped := min 0xFFFF lost, drops := (List.range 64).map (fun a =>
                       if p.devs.getLsbD a then 0 else c.drops.getD a 0)
                     roots := c.roots.set p.source (if root.isSome then p1.root else 0x7F) }
  if d = 0 then c1 else colRaise srcEvtOverflow 0 c1

/-- R445: every open record whose FIRST lies 20 stitches back closes. -/
def packCloseDue (s : State) : State :=
  let due (p : PackRec) : Bool := decide (20 ≤ (stitch s - p.first).toNat)
  let c0 := { s.col with openRecs := s.col.openRecs.filter (fun p => !due p) }
  { s with col := (s.col.openRecs.filter due).foldl (fun c p => packClose s p c) c0 }

/-- R146: IRQ_N, which nothing drives in SLEEP and SHIP (R111). -/
def irqNow (s : State) : Bool :=
  isHead s && linkUp s && (s.col.queue.any (fun r => decide (fld s .hostCfg 1 0 ≤ r.level)) ||
    (fbit s .hostCfg 8 && !s.host.doneQ.isEmpty))

/-- PACK_RECORD_CLOSE (R445, R446). -/
def execPackRecordClose (s : State) : Out :=
  let s1 := packCloseDue s
  done { s1 with host := { s1.host with irq := s1.host.irq || irqNow s1 } }

/-! ### The two copies (R17, R440) -/

/-- The registers of the assigned levels (R451). -/
def lvlRegs : List CReg := [.colLvl0, .colLvl1, .colLvl2, .colLvl3, .colLvl4, .colLvl5, .colLvl6, .colLvl7]

/-- A list of 128 numbers raised to those of another, for the sources that exist (R431). -/
def higher (l m : List Nat) : List Nat :=
  (List.range 128).map (fun n => if srcReserved n then m.getD n 0 else max (m.getD n 0) (l.getD n 0))

/-- R440: the assigned levels of a configuration raised to those of a copy. -/
def lvlMerge (lvl : List (BitVec 2)) (cfg : Cfg) : Cfg :=
  lvlRegs.zipIdx.foldl (fun (c : Cfg) e => cfgSet c e.1 ((List.range 16).foldl (fun (w : Word) j =>
    let n := 16 * e.2 + j
    w ||| place (if srcReserved n then assigned cfg n else max (assigned cfg n) (lvl.getD n 0).toNat) (2 * j)) 0)) cfg

/-- R440: the collector's copies merged: no event is lost. -/
def colMerge (x : ColCopy) (s : State) : State :=
  let c := s.col
  let eff := higher (x.eff.map BitVec.toNat) c.eff
  { s with cfg := lvlMerge x.lvl s.cfg, cfgW := lvlMerge x.lvl s.cfgW
           col := { c with dyn := c.dyn ||| (x.dyn &&& srcMask), lat := c.lat ||| (x.lat &&& srcMask), eff := eff
                           effMin := higher ((List.range 128).map (fun n =>
                             if eff.getD n 0 = effNow s.cfg c n then 0 else eff.getD n 0)) c.effMin
                           steps := higher x.steps c.steps, cnt := higher (x.cnt.map BitVec.toNat) c.cnt } }

/-- R434, R451: the enable bits of the sources. -/
def enMap (c : Cfg) : BitVec 128 :=
  (cfgGet c .colEnH ++ cfgGet c .colEnC ++ cfgGet c .colEnD ++ cfgGet c .colEnS) &&& srcMask

/-- R17, R440: the copies agree with the core's and no parity fails. -/
def dupAgrees (x : CopyB) (sealSet : List Word) (s : State) : Bool :=
  let c := s.col
  !x.parityErr && x.safety.toNat == safetyCode s.safe.state && x.sealSet == sealSet && x.col.en == enMap s.cfg &&
    x.col.inj == c.inj && x.col.real == c.real && x.col.dyn == c.dyn &&
    x.col.lat == c.lat && x.col.lvl.map BitVec.toNat == (List.range 128).map (assigned s.cfg) &&
    x.col.eff.map BitVec.toNat == c.eff && x.col.steps == c.steps && x.col.cnt.map BitVec.toNat == c.cnt

/-- R440, R441: COL_INTEGRITY raised at the boundary: it occurs in the stitch that ended, in its order among the others, and
stands until the next start that runs the start-up path. -/
def integrityRaise (s : State) : State := { s with col := { colStand srcColIntegrity true 0 s.col with integ := true } }

end Sys2Proof.Machine
end

