-- ==== Sys2Proof/Machine/Current.lean ====
section
/-! DEFINITION. The capture instant and the measurement window, the current inputs and their checks, and the
impedance tracker (06_sync_current_impedance). -/

namespace Sys2Proof.Machine

/-! ### The carrier (R184, R186) -/

/-- R186: 8 intervals, each between 50 µs and 1000 µs and within ±10 % of their mean. -/
def carrierOk (l : List Nat) : Bool :=
  let sum := l.foldl (· + ·) 0
  l.length == 8 && l.all (fun d => decide (2000 ≤ d) && decide (d ≤ 40000) &&
    decide (9 * sum ≤ 80 * d) && decide (80 * d ≤ 11 * sum))

/-- R184: the carrier period, the mean of the last 8 intervals, in 25 ns. DESIGN CHOICE (log 75): of fewer than 8 intervals the
mean of those there are, and 0 of none. -/
def carrierP (l : List Nat) : Nat := if l.isEmpty then 0 else (l.foldl (· + ·) 0 + l.length / 2) / l.length

/-- R186: the carrier lost: not valid, SYNC_LOST, and 8 new intervals are needed. P stays the mean of the last 8 (R184). -/
def carrierLost (s : State) : State :=
  stand srcSyncLost true { s with cur := { s.cur with qual := false, since := 0 } }

/-- R184, R186: a qualifying edge of SYNC_IN at the head. -/
def syncEdge (t : Nat) (s : State) : State :=
  match s.cur.edge with
  | none => { s with cur := { s.cur with edge := some t } }
  | some e =>
    let d := t - e
    let l := (d :: s.cur.intervals).take 8
    let n := min 8 (s.cur.since + 1)
    let s1 := { s with cur := { s.cur with edge := some t, intervals := l, since := n } }
    if s.cur.qual && !carrierOk l then carrierLost s1
    else if !s.cur.qual && n == 8 && carrierOk l then stand srcSyncLost false { s1 with cur := { s1.cur with qual := true } }
    else s1

/-- SYNC_EDGE (R184, R186): members ignore the pin (R70), and a pulse shorter than 200 ns is ignored. -/
def execSyncEdge (t25 : Nat) (rising : Bool) (pulseNs : Nat) (s : State) : Out :=
  done (if isHead s && coreRuns s && decide (200 ≤ pulseNs) && (rising != fbit s .syncCfg 1) then syncEdge t25 s else s)

/-- SYNC_LOST (R186): no qualifying edge for 2 × P. -/
def execSyncLost (t25 : Nat) (s : State) : Out :=
  done (match s.cur.edge with
    | some e => if isHead s && s.cur.qual && decide (e + 2 * carrierP s.cur.intervals ≤ t25) then carrierLost s else s
    | none => s)

/-! ### The capture instant and the window (R183 to R188, R192) -/

/-- R185: the first candidate e + φ + j × P at or after the boundary `b`, less `b` (25 ns). -/
def captureAt (e phi p b : Nat) : Nat :=
  let x := if b ≤ e + phi then e + phi - b else if p = 0 then 0 else (p - (b - e - phi) % p) % p
  min x 39999

/-- R183 to R187: t_c of the stitch that begins, with CARRIER, PRED_HELD and FALLBACK. DEDUCED (log 75): the head goes by the
valid bit of the record that it sent in stitch k, as its members do, so that all leave R185 in the same stitch (R187). DESIGN
CHOICE (log 75): CARRIER reads 1 also when t_c is extrapolated from an older record. -/
def captureInstant (s : State) : CurSt :=
  let c := { s.cur with predHeld := s.cur.heldWas, fallback := s.cur.fallWas }
  let ofs := 40 * fld s .syncCfg 25 16
  let b := 40 * s.time.ptB.toNat
  let plain := { c with tc := ofs, carrier := false }
  if !fbit s .syncCfg 0 then plain
  else if isHead s && !(c.recPrev && c.recValid) then plain
  else if c.recPrev then
    if c.recValid then
      { c with tc := captureAt c.recE ofs c.recP b, carrier := true, predHeld := false, fallback := false }
    else plain
  else if !c.recEver then { plain with fallback := true }
  else if 16 ≤ c.recMiss then { plain with fallback := true }
  else if c.recValid then
    { c with tc := captureAt c.recE ofs c.recP b, carrier := true, predHeld := true }
  else { plain with predHeld := true }

/-- R192: the skew class of the stitch that begins. -/
def skewOf (s : State) : Nat :=
  if isHead s then 0
  else if !s.time.locked then 3
  else if s.time.radioSync || decide (16 < s.time.flyRun) then 2
  else if s.time.flywheel then 1 else 0

/-- R188: the first slot of the window. -/
def windowFirst (tc mw : Nat) : Nat := min (tc / 5000 - (mw - 1) / 2) (8 - mw)

/-- R185, R190, R192, R195, R201, R206 at a boundary: the record in force, missed records, the skew class and the samples
of the stitch that ended; the head's current word held for one stitch. -/
def curCount (s : State) : State :=
  let c := s.cur
  { s with cur := { c with
    inValid := if c.recNow then c.recValid else c.inValid, inP := if c.recNow then c.recP else c.inP
    recMiss := if c.recNow then 0 else c.recMiss + 1, recEver := c.recEver || c.recNow, recPrev := c.recNow, recNow := false
    ptPrev := c.ptNow, ptNow := none, heldWas := c.predHeld, fallWas := c.fallback
    skewPrev := c.skew, skew := skewOf s, outPrev := c.outNow, outNow := false
    iauxOk := if c.iauxClean then c.iauxOk + 1 else 0, iauxClean := true }
           imp := { s.imp with curValid := false } }

/-- R183 to R188: t_c and the window of the stitch that begins; formed again when the settings change at its boundary. -/
def curPlan (s : State) : State :=
  let c := captureInstant s
  { s with cur := c
           meas := { s.meas with mwLen := fld s .measMw 3 0, mwFirst := windowFirst c.tc (fld s .measMw 3 0) } }

/-- R184: the record that the head sends in the stitch that runs. DESIGN CHOICE (log 75): a period beyond the 16 bits of CARRIER1
and of SYNC.CARRIER (R307, R212) is sent as 0xFFFF. -/
def curRecord (s : State) : State :=
  if isHead s then
    { s with cur := { s.cur with recNow := true, recValid := s.cur.qual
                                 recP := min 0xFFFF (carrierP s.cur.intervals)
                                 recE := match s.cur.edge with | some e => e | none => 0 } }
  else s

/-- FALLBACK (R187): a member with SRC = 1 and no record for 16 stitches. -/
def execFallback (s : State) : Out :=
  done (if !isHead s && fbit s .syncCfg 0 && decide (16 ≤ s.cur.recMiss) then
    { s with cur := { s.cur with tc := 40 * fld s .syncCfg 25 16, carrier := false, fallback := true } } else s)

/-! ### Checks of the current inputs (R193 to R204) -/

/-- R196, R169: the shunt has a published value in the stitch that ended. -/
def shuntPub (s : State) : Bool :=
  currentPresent s && streamGate s && !s.meas.auxHeldPrev.getLsbD 1 && s.meas.res.shunt.isSome

/-- The shunt average in range, whether published or not. -/
def shuntVal (s : State) : Option Int :=
  match s.meas.res.shunt with
  | none => none
  | some a => if a.ovl == 0 && !shuntOut a.v then some a.v else none

/-- R199: the mean IAUX code of the window, when samples exist. DESIGN CHOICE (log 78): it is rounded to the nearest code, half up,
and SYNC.IB is taken from that code. -/
def iauxMean (s : State) : Option Nat := if s.meas.res.iaux.2 = 0 then none else some (meanCode s.meas.res.iaux)

/-- The counts of a current check: stitches with the condition, and without. -/
def runUp (b : Bool) (run ok : Nat) : Nat × Nat := if b then (run + 1, 0) else (0, ok + 1)

/-- R168, R196: stitches since the shunt's v0 after one that is not published. -/
def shuntAge (c : CurSt) : Option Nat := if c.unpub < 16 then nextAge false c.age else none

/-- R200, R202: the current part of the safety task, on the stitch that ended. -/
def curChecks (s : State) : State :=
  if !currentPresent s then
    { s with cur := { s.cur with isnsOut := 0, isnsOk := 0, disRun := 0, disOk := 0, age := none, unpub := 0 } }
  else
    let c := s.cur
    let sat := match s.meas.res.shunt with | some a => a.ovl != 0 | none => false
    let out := match s.meas.res.shunt with | some a => a.ovl == 0 && shuntOut a.v | none => false
    let r := runUp (c.outPrev || sat) c.isnsOut c.isnsOk
    let age := if shuntPub s then nextAge true c.age else shuntAge c
    let both : Option (Int × Nat) := match shuntVal s, iauxMean s with
      | some v, some k => if shuntPub s && iauxIn s k && aged 3 age && !c.isnsLost && !c.iauxLost then some (v, k) else none
      | _, _ => none
    let d := match both with | some (v, k) => runUp (iDiffers s v k) c.disRun c.disOk | none => (c.disRun, c.disOk)
    { s with cur := { c with isnsOut := r.1, isnsOk := r.2, disRun := d.1, disOk := d.2, age := age
                             unpub := if shuntPub s then c.unpub else c.unpub + 1 }
             col := if out then colRaise srcIsnsOor 0 s.col else s.col }

/-- R387: with both channels lost at once, the head trips with bit [16]. -/
def bothLost (s : State) : State :=
  if isHead s && s.cur.isnsLost && s.cur.iauxLost then tripOwn 1 true true s else s

/-- R200: ISNS_LOST brought up to date. -/
def isnsApply (s : State) : State :=
  if !currentPresent s then stand srcIsnsLost false { s with cur := { s.cur with isnsLost := false } }
  else if !s.cur.isnsLost && decide (3 ≤ s.cur.isnsOut) then
    bothLost (stand srcIsnsLost true { s with cur := { s.cur with isnsLost := true } })
  else if s.cur.isnsLost && decide (8 ≤ s.cur.isnsOk) then
    stand srcIsnsLost false { s with cur := { s.cur with isnsLost := false } }
  else s

/-- ISNS_LOST (R200). -/
def execIsnsLost (s : State) : Out := done (isnsApply s)

/-- R201: the IAUX code of a slot. -/
def iauxSlot (code : Nat) (s : State) : State :=
  if !currentPresent s then { s with cur := { s.cur with iauxOut := 0 } }
  else if iauxIn s code then { s with cur := { s.cur with iauxOut := 0 } }
  else { s with cur := { s.cur with iauxOut := s.cur.iauxOut + 1, iauxClean := false, iauxOk := 0 } }

/-- R201: IAUX_LOST brought up to date. -/
def iauxApply (s : State) : State :=
  if !currentPresent s then stand srcIauxLost false { s with cur := { s.cur with iauxLost := false } }
  else if !s.cur.iauxLost && decide (8 ≤ s.cur.iauxOut) then
    bothLost (stand srcIauxLost true { s with cur := { s.cur with iauxLost := true } })
  else if s.cur.iauxLost && decide (8 ≤ s.cur.iauxOk) then
    stand srcIauxLost false { s with cur := { s.cur with iauxLost := false } }
  else s

/-- IAUX_LOST (R201). -/
def execIauxLost (s : State) : Out := done (iauxApply s)

/-- R202: I_DISAGREE brought up to date. -/
def disagreeApply (s : State) : State :=
  if !currentPresent s then stand srcIDisagree false { s with cur := { s.cur with disagree := false } }
  else if !s.cur.disagree && decide (3 ≤ s.cur.disRun) then
    stand srcIDisagree true { s with cur := { s.cur with disagree := true } }
  else if s.cur.disagree && decide (8 ≤ s.cur.disOk) then
    stand srcIDisagree false { s with cur := { s.cur with disagree := false } }
  else s

/-- I_DISAGREE (R202). -/
def execIDisagree (s : State) : Out := done (disagreeApply s)

/-- R196, R199, R212: the current registers of the stitch that ended; the steps of IA and IB as `iaSteps` and `ibSteps` round
them (log 75). -/
def publishCur (s : State) : State :=
  let c := s.cur
  let pub := shuntPub s
  let v : Int := match s.meas.res.shunt with | some a => a.v | none => 0
  let oor := match s.meas.res.shunt with | some a => a.ovl != 0 || shuntOut a.v | none => false
  let c1 := if pub then
      { c with isns := v, isnsStale := false, isnsOor := oor, ia := iaSteps (fld s .syncRshunt 23 0) v, iaStale := c.isnsLost
               unpub := 0 }
    else { c with isnsStale := true, iaStale := true }
  let c2 := match pub, c.ptPrev with
    | true, some p => { c1 with point := p.v, pointOor := p.ovl != 0 || shuntOut p.v, pointStale := false
                                pointSkew := c.skewPrev }
    | _, _ => { c1 with pointStale := true, pointSkew := c.skewPrev }
  let c3 := match iauxMean s with
    | some k => if currentPresent s then
        { c2 with iaux := k, iauxStale := false, iauxOor := !iauxIn s k, ib := ibSteps s k, ibStale := c.iauxLost }
      else { c2 with iauxStale := true, ibStale := true }
    | none => { c2 with iauxStale := true, ibStale := true }
  { s with cur := c3 }

/-- R42, R103, R168: the current registers of a stitch left unpublished. It is no v0, and it counts among the stitches since
the last one whether the safety task ran on it or not. DESIGN CHOICE (log 75): SYNC.ISNS_PT keeps the SKEW_CLASS of the capture
before, since nothing was published (R192). -/
def unpublishCur (s : State) : CurSt :=
  let c := s.cur
  let c1 := if !s.meas.decided then { c with age := shuntAge c, unpub := c.unpub + 1 }
    else if shuntPub s then { c with age := if c.age == some 0 then none else c.age, unpub := c.unpub + 1 } else c
  { c1 with isnsStale := true, iaStale := true, pointStale := true, iauxStale := true, ibStale := true }

/-! ### The impedance tracker (R205 to R211) -/

/-- R209: a restart of the tracker. DESIGN CHOICE (log 69): it clears the count of stitches without current data too, so the
next restart comes 17 such stitches later, and FILL counts meanwhile. -/
def impRestart (i : ImpSt) : ImpSt :=
  { i with fill := 0, win := [], var := 0, valid := 0, z := List.replicate 32 (0, false, false), noData := 0 }

/-- The tracker runs (R31, R205). -/
def impRuns (s : State) : Bool := fbit s .impCfg 8 && streaming s && decide (s.time.shed < 2) && coreRuns s

/-- R206: the current sub-samples by slot, the number in the source's window, and the source; none when there is no
valid current. DESIGN CHOICE (log 75): the shunt of a settling stitch, or one that a repair of R266 withholds, is a valid source
of R207 as long as its modulators ran. -/
def impCurrent (s : State) : Option (List (Nat × Int)) × Nat :=
  let m := s.meas
  if fbit s .syncIcfg 0 then
    let w := winOf m.prevFirst m.prevLen m.prevShunt
    (if m.prevModOn && !s.cur.isnsLost && w.length == m.prevLen && ovlOf w == 0 then
      some (w.zipIdx.map (fun e => (e.2 + m.prevFirst, e.1.v))) else none, 1)
  else if !isHead s && s.imp.curValid then
    (some ((List.range 8).filterMap (fun k =>
      if s.imp.curMap.getLsbD k then some (k, s.imp.curSubs.getD k 0) else none)), 2)
  else (none, 0)

/-- R205: the deviations of the sub-samples of cell `n` from their mean over the window, scaled by 840, by slot. -/
def cellRipple (m : MeasSt) (n : Nat) : List (Nat × Int) :=
  let w := ((winOf m.prevFirst m.prevLen m.prevSubs).filterMap (fun r => r[n]?)).map Sub.v
  let k := w.length
  let sum := w.foldl (· + ·) (0 : Int)
  w.zipIdx.map (fun e => (e.2 + m.prevFirst, ((840 / k : Nat) : Int) * (k * e.1 - sum)))

/-- R207: what the stitch that ended contributes. -/
def impEntry (s : State) (i : List (Nat × Int)) : Option ImpEnt :=
  let m := s.meas
  let sum := i.foldl (fun a e => a + e.2) (0 : Int)
  let k := i.length
  let ir := i.map (fun e => (e.1, ((840 / k : Nat) : Int) * (k * e.2 - sum)))
  let pairs := ir.filter (fun e => decide (m.prevFirst ≤ e.1) && decide (e.1 < m.prevFirst + m.prevLen))
  if pairs.length < 2 || decide (8000000 * k < sum.natAbs) || !m.prevModOn then none
  else some {
    p := pairs.length
    b := pairs.foldl (fun a e => a + e.2 * e.2) 0
    a := (List.range 32).map (fun n =>
      if (cellGood s n).isSome && !(m.cells.getD n {}).stale then
        let v := cellRipple m n
        some (pairs.foldl (fun a e => match v.find? (fun x => x.1 == e.1) with
          | some x => a + x.2 * e.2 | none => a) 0)
      else none) }

/-- R208, R210, R211: the estimate of one cell over the window: Z, NEG, SAT and whether it is valid. DESIGN CHOICE (log 75): Z to
the nearest step, halves away from zero, and 0 with clear flags when ΣB is 0. -/
def impCell (s : State) (w n : Nat) (full : Bool) (l : List (Option ImpEnt)) : (Nat × Bool × Bool) × Bool :=
  let t := l.foldl (fun (x : Nat × Int × Int) e => match e with
    | some k => match k.a.getD n none with
      | some a => (x.1 + 1, x.2.1 + a, x.2.2 + k.b)
      | none => x
    | none => x) (0, 0, 0)
  let r : Int := (fld s .syncRshunt 23 0 : Nat)
  if !populated s n || t.2.2 ≤ 0 then ((0, false, false), false)
  else
    let z := divRound (t.2.1 * r) (4 * t.2.2.toNat)
    let neg := decide (t.2.1 * r < 0)
    let sat := !neg && decide (0xFFFFFF * (4 * t.2.2) ≤ t.2.1 * r)
    let okv := !neg && decide (t.2.1 * r ≤ 0xFFFFFF * (4 * t.2.2))
    ((if neg then 0 else if sat then 0xFFFFFF else z.toNat, neg, sat), full && okv && decide (7 * w ≤ 8 * t.1))

/-- R207 to R211: the tracker at a boundary, on the stitch that ended before the one that ends now. DESIGN CHOICE (log 69):
while it does not run, its registers keep what they held. DESIGN CHOICE (log 75): VAR is 0 when Σp is 0, and the first stitch after a
restart brings the data of the stitch that ended at the boundary of the restart. -/
def impStep (s : State) : State :=
  if !impRuns s then s
  else
    let src := impCurrent s
    let w := 2 ^ fld s .impCfg 3 0
    let e := match src.1 with | some i => impEntry s i | none => none
    let i0 := s.imp
    let nod := if e.isSome then 0 else i0.noData + 1
    if 16 < nod then { s with imp := { impRestart i0 with csrc := src.2 } }
    else
      let win := (e :: i0.win).take w
      let fill := min w (i0.fill + 1)
      let tot := win.foldl (fun (x : Nat × Int) k => match k with | some q => (x.1 + q.p, x.2 + q.b) | none => x) (0, 0)
      let r := fld s .syncRshunt 23 0
      let den := 705600 * r * r * tot.1
      let var := if den = 0 then 0 else min 0xFFFF ((tot.2.toNat * 160000) / den)
      let big := decide (fld s .impVarThr 15 0 * den ≤ tot.2.toNat * 160000) && decide (0 < den)
      let cs := (List.range 32).map (fun n => impCell s w n (fill == w && big) win)
      { s with imp := { i0 with
          fill := fill, win := win, var := var, noData := nod, csrc := src.2
          z := cs.map Prod.fst, valid := mapBits 32 (fun n => match cs[n]? with | some c => c.2 | none => false) } }

end Sys2Proof.Machine
end

