-- ==== Sys2Proof/Machine/Temp.lean ====
section
/-! DEFINITION. Thermistors: conversion, publication, TS_BROKEN, the SLT counts of both channels; the die sensors and
their thresholds (10_temperature). -/

namespace Sys2Proof.Machine

/-! ### The B-parameter model (R275) -/

/-- The scale of the logarithms: 10^24. -/
def lnOne : Nat := 10 ^ 24

/-- The series z + z³/3 + z⁵/5 + … of `n` more terms, for z = a/b, from the term number `k` with power `p`. -/
def atanhSum (a b : Nat) : Nat → Nat → Nat → Nat
  | 0, _, _ => 0
  | n + 1, k, p => p / k + atanhSum a b n (k + 2) (p * a * a / (b * b))

/-- ln of a number of 16 bits, scaled: k ln 2 + 2 artanh of (m − 1)/(m + 1) of its mantissa. -/
def lnNat (n : Nat) : Nat :=
  let k := Nat.log2 n
  let p := 2 ^ k
  k * 693147180559945309417232 + 2 * atanhSum (n - p) (n + p) 30 1 (lnOne * (n - p) / (n + p))

/-- R275: numerator and denominator of the temperature in kelvin × 100 for a ratio code. -/
def ntcFrac (beta q : Nat) : Nat × Nat :=
  let l : Int := (lnNat q : Int) - lnNat (65536 - q)
  (2981500 * beta * lnOne, ((100 * beta * lnOne : Nat) + 29815 * l : Int).toNat)

/-- R275: the temperature of a ratio code, 0.01 °C. -/
def ntcTemp (beta q : Nat) : Int :=
  let f := ntcFrac beta q
  if f.2 = 0 then 32767 else divRound ((f.1 : Int) - 27315 * f.2) f.2

/-- R281: a ratio beyond the threshold of a limit: hotter than `t` (0.01 °C). -/
def ntcAbove (beta q : Nat) (t : Int) : Bool :=
  let f := ntcFrac beta q
  decide ((27315 + t) * (f.2 : Int) < f.1)

/-- R281: colder than `t`. -/
def ntcBelow (beta q : Nat) (t : Int) : Bool :=
  let f := ntcFrac beta q
  decide ((f.1 : Int) < (27315 + t) * f.2)

/-- R276: broken in a conversion. -/
def qBroken (q : Nat) : Bool := decide (63570 ≤ q) || decide (q ≤ 1966)

/-! ### Results (R277, R279) -/

/-- R277: a result: T, STALE, BROKEN, CLAMP, PATH. -/
structure TsRes where
  t : Int
  stale : Bool
  broken : Bool
  clamp : Bool
  path : Bool
  deriving DecidableEq, Repr

/-- R277: the result of input `k` for a ratio code; `have_` says that a conversion exists. -/
def tsResult (pop path have_ : Bool) (beta q : Nat) : TsRes :=
  if !pop then ⟨-32768, false, false, false, false⟩
  else if path then ⟨0x7FFF, false, true, false, true⟩
  else if !have_ then ⟨0, true, false, false, false⟩
  else if qBroken q then ⟨0x7FFF, false, true, false, false⟩
  else
    let t := ntcTemp beta q
    if t < -4000 then ⟨-4000, false, false, true, false⟩
    else if 12500 < t then ⟨12500, false, false, true, false⟩
    else ⟨t, false, false, false, false⟩

/-- The result of input `k` in the stitch that ended. -/
def tsPrev (s : State) (k : Nat) : TsRes :=
  tsResult (tsPop s k) s.diag.path.stand s.temp.havePrev (fld s .tempNtc 12 0) (s.temp.qPrev.getD k 0)

/-- R279: the input with the highest or lowest result among those that qualify. -/
def tsExtreme (l : List (Nat × Int)) (high : Bool) : Option (Nat × Int) :=
  l.foldl (fun (m : Option (Nat × Int)) e => match m with
    | none => some e
    | some x => if (high && decide (x.2 < e.2)) || (!high && decide (e.2 < x.2)) then some e else some x) none

/-- R274, R277 to R279: the TEMP page of the stitch that ended. -/
def publishTemp (s : State) : State :=
  let rs := (List.range 16).map (fun k => (k, tsPrev s k))
  let live := rs.filter (fun (e : Nat × TsRes) => tsPop s e.1 && !e.2.stale)
  let hi := tsExtreme (live.map (fun (e : Nat × TsRes) => (e.1, e.2.t))) true
  let lo := tsExtreme ((live.filter (fun (e : Nat × TsRes) => !e.2.broken)).map (fun (e : Nat × TsRes) => (e.1, e.2.t))) false
  let ts := rs.map (fun (e : Nat × TsRes) =>
    let o := s.temp.ts.getD e.1 {}
    let r := e.2
    { o with q := if s.temp.havePrev then s.temp.qPrev.getD e.1 0 else o.q
             t := r.t, stale := r.stale, broken := r.broken, clamp := r.clamp, path := r.path
             brk := if r.broken then o.brk + 1 else 0, ok := if r.broken then 0 else o.ok + 1 })
  { s with temp := { s.temp with
    ts := ts, maxNone := hi.isNone, minNone := lo.isNone
    maxIdx := match hi with | none => 0 | some e => e.1, maxT := match hi with | none => 0 | some e => e.2
    minIdx := match lo with | none => 0 | some e => e.1, minT := match lo with | none => 0 | some e => e.2 } }

/-- R278: a stitch without a published result ends every run of broken and of not broken readings. -/
def tsRunsEnd (t : TempSt) : TempSt := { t with ts := t.ts.map (fun (x : Ts) => { x with brk := 0, ok := 0 }) }

/-- R42: the thermistor results of a stitch left unpublished. -/
def unpublishTemp (t : TempSt) : TempSt :=
  tsRunsEnd { t with ts := t.ts.map (fun (x : Ts) => { x with stale := x.stale || x.t != -32768 }) }

/-- R278: the TS_BROKEN condition: raised by one populated input broken for 32 stitches, gone when every populated input
has read not broken for 32. -/
def tsBrokenNow (s : State) : Bool :=
  let pop := s.temp.ts.zipIdx.filter (fun e => tsPop s e.2)
  if s.temp.broken then !(pop.all (fun e => decide (32 ≤ e.1.ok))) else pop.any (fun e => decide (32 ≤ e.1.brk))

/-- R278: TS_BROKEN and `TEMP.BROKEN` brought up to date. -/
def tsBrokenApply (s : State) : State :=
  let ts := s.temp.ts.map (fun (x : Ts) =>
    { x with isBroken := if 32 ≤ x.brk then true else if 32 ≤ x.ok then false else x.isBroken })
  let any := tsBrokenNow s
  let s1 := { s with temp := { s.temp with ts := ts, broken := any } }
  if any != s.temp.broken then stand srcTsBroken any s1 else s1

/-- TS_BROKEN (R278). -/
def execTsBroken (s : State) : Out := done (tsBrokenApply s)

/-! ### SLT (R281 to R283) -/

/-- R282: how one stitch of one input stands against the limits: over-temperature, low-charge, and back on the safe
side of both by the hysteresis. -/
structure SltEval where
  ovr : Bool
  low : Bool
  overBack : Bool
  lowBack : Bool
  deriving DecidableEq, Repr

/-- R282: channel A's evaluation of input `k`, on the result of the stitch that ended; none when it has none. -/
def sltA (s : State) (k : Nat) : Option SltEval :=
  let r := tsPrev s k
  if !tsPop s k || r.stale then none
  else
    let tov := toSigned 16 (fld s .safeTlim 31 16)
    let lo := toSigned 16 (fld s .safeTlim 15 0)
    let h : Int := (10 * fld s .safeTcfg 7 0 : Nat)
    some ⟨r.broken || decide (tov < r.t), r.broken || decide (r.t < lo),
      !r.broken && decide (r.t ≤ tov - h), !r.broken && decide (lo + h ≤ r.t)⟩

/-- R281, R420: a word of the limits channel B applies: of the SAFETY generation while the set is sealed, else of the
values in force. -/
def hwslWord (s : State) (r : CReg) (k : Nat) : Word :=
  if s.safe.sealed && s.otp.genS.isSome then safetyWord s k else cfgGet s.cfg r

/-- R281, R282: channel B's evaluation of input `k`, on the ratio sampled in the stitch that ended; broken while TS_PATH
stands (R253). -/
def sltB (s : State) (k : Nat) : Option SltEval :=
  if !tsPop s k then none
  else if s.diag.path.stand then some ⟨true, true, false, false⟩
  else if !s.temp.havePrev then none
  else
    let q := s.temp.qPrev.getD k 0
    let beta := bits (hwslWord s .tempNtc 8) 12 0
    let lim := hwslWord s .safeTlim 14
    let tov := toSigned 16 (bits lim 31 16)
    let lo := toSigned 16 (bits lim 15 0)
    let h : Int := (10 * bits (hwslWord s .safeTcfg 15) 7 0 : Nat)
    if qBroken q then some ⟨true, true, false, false⟩
    else some ⟨ntcAbove beta q tov, ntcBelow beta q lo, !ntcAbove beta q (tov - h), !ntcBelow beta q (lo + h)⟩

/-- R282: a run of stitches in violation; a stitch without one, evaluated or not, starts it again. -/
def runOf (b : Option Bool) (n : Nat) : Nat := if b = some true then n + 1 else 0

/-- R282, R383: channel A's counts. -/
def sltCountA (s : State) : State :=
  let ev := (List.range 16).map (sltA s)
  let seen := ev.filterMap id
  { s with
    temp := { s.temp with ts := s.temp.ts.zipIdx.map (fun e =>
      { e.1 with ovA := runOf ((ev.getD e.2 none).map SltEval.ovr) e.1.ovA
                 loA := runOf ((ev.getD e.2 none).map SltEval.low) e.1.loA }) }
    safe := { s.safe with a := { s.safe.a with
      loRel := if seen.isEmpty then s.safe.a.loRel else if seen.all SltEval.lowBack then s.safe.a.loRel + 1 else 0
      sltBack := if seen.isEmpty then s.safe.a.sltBack else seen.all SltEval.overBack
      slt := s.safe.a.slt && !(!seen.isEmpty && seen.all SltEval.overBack) } } }

/-- R282, R383: a stitch whose safety task did not run evaluated no input on channel A: its counts start again. -/
def sltGap (s : State) : State :=
  if s.time.safeNow.isSome then s
  else { s with
    temp := { s.temp with ts := s.temp.ts.map (fun (x : Ts) => { x with ovA := 0, loA := 0 }) }
    safe := { s.safe with a := { s.safe.a with loRel := 0 } } }

/-- R282, R383: channel B's counts. -/
def sltCountB (s : State) : State :=
  let ev := (List.range 16).map (sltB s)
  let seen := ev.filterMap id
  { s with
    temp := { s.temp with ts := s.temp.ts.zipIdx.map (fun e =>
      { e.1 with ovB := runOf ((ev.getD e.2 none).map SltEval.ovr) e.1.ovB
                 loB := runOf ((ev.getD e.2 none).map SltEval.low) e.1.loB }) }
    safe := { s.safe with b := { s.safe.b with
      loRel := if seen.isEmpty then s.safe.b.loRel else if seen.all SltEval.lowBack then s.safe.b.loRel + 1 else 0
      sltBack := if seen.isEmpty then s.safe.b.sltBack else seen.all SltEval.overBack
      slt := s.safe.b.slt && !(!seen.isEmpty && seen.all SltEval.overBack) } } }

/-- R282: input `k` counts as violating on a channel: 32 stitches in a row, or TS_PATH stands. -/
def sltViolates (s : State) (ch : Chan) (k : Nat) (low : Bool) : Bool :=
  let t := s.temp.ts.getD k {}
  tsPop s k && (s.diag.path.stand || decide (32 ≤ match ch, low with
    | .a, false => t.ovA | .a, true => t.loA | .b, false => t.ovB | .b, true => t.loB))

/-- R383: the action of a violation on a channel: the low-charge inhibit, or the over-temperature trip. -/
def sltAct (ch : Chan) (low : Bool) (s : State) : State :=
  match low with
  | true =>
    let set (c : ChanSt) : ChanSt := { c with lowChg := true, loRel := 0 }
    stand srcSltLowchg true { s with safe := match ch with
      | .a => { s.safe with a := set s.safe.a } | .b => { s.safe with b := set s.safe.b } }
  | false =>
    let s1 := { s with safe := match ch with
      | .a => { s.safe with a := { s.safe.a with slt := true, sltOwed := true } }
      | .b => { s.safe with b := { s.safe.b with slt := true, sltOwed := true } } }
    tripOwn 16 (ch == .a) (ch == .b) (stand srcSltOt true s1)

/-- R282, R383: a violation takes effect when it counts and has none yet. -/
def sltApply (ch : Chan) (k : Nat) (low : Bool) (s : State) : State :=
  let c := match ch with | .a => s.safe.a | .b => s.safe.b
  let already := match low with | true => c.lowChg | false => c.slt
  if sltViolates s ch k low && !already then sltAct ch low s else s

/-- R383: the low-charge release after 32 stitches, and the sources of SLT when nothing stands. -/
def sltRelease (s : State) : State :=
  let a := if s.safe.a.lowChg && decide (32 ≤ s.safe.a.loRel) then { s.safe.a with lowChg := false } else s.safe.a
  let b := if s.safe.b.lowChg && decide (32 ≤ s.safe.b.loRel) then { s.safe.b with lowChg := false } else s.safe.b
  let c1 := if a.lowChg || b.lowChg then s.col else colStand srcSltLowchg false 0 s.col
  let c2 := if a.slt || b.slt then c1 else colStand srcSltOt false 0 c1
  { s with safe := { s.safe with a := a, b := b }, col := c2 }

/-- Every violation of one channel that is due. -/
def sltDue (ch : Chan) (s : State) : State :=
  (List.range 16).foldl (fun s k => sltApply ch k true (sltApply ch k false s)) s

/-- SLT_VIOLATION (R282, R383). -/
def execSltViolation (ch : Chan) (ts : Fin 16) (low : Bool) (s : State) : Out :=
  done (match ch with | .a => aStep (sltApply .a ts.val low) s | .b => sltApply .b ts.val low s)

/-! ### Die sensors (R283 to R289) -/

/-- R283: the temperatures of RO0 to RO7, 0.25 °C, from their counts. -/
def dieTemps (counts : List Nat) (t : ThrmSt) : List Int :=
  (List.range 8).map (fun k => Config.roTemp (t.roChar.getD k none) (counts.getD k 0))

/-- R284: the readings of a stitch from the temperatures to which the counts map: implausible outside −55 °C to +175 °C,
and then read as 135.00 °C. -/
def dieRead (l : List Int) : List Die :=
  (List.range 8).map (fun k =>
    let q := l.getD k 0
    if -220 ≤ q ∧ q ≤ 700 then ⟨q, true⟩ else ⟨540, false⟩)

/-- R285: the hottest reading and its sensor. -/
def dieHot (l : List Die) : Nat × Int :=
  match tsExtreme (l.zipIdx.map (fun e => (e.2, e.1.quarter))) true with
  | none => (0, 0)
  | some e => e

/-- R289: the shutdown condition that held in a stitch: cause and sensor. -/
def dieShut (l : List Die) : Option (Nat × Nat) :=
  let hot := tsExtreme ((l.zipIdx.filter (fun (e : Die × Nat) => e.1.plausible && decide (600 ≤ e.1.quarter))).map
    (fun (e : Die × Nat) => (e.2, e.1.quarter))) true
  match hot with
  | some e => some (0, e.1)
  | none =>
    match (List.range 4).find? (fun d => !(l.getD (2 * d) {}).plausible && !(l.getD (2 * d + 1) {}).plausible) with
    | some d => some (1, 2 * d)
    | none => none

/-- R284 to R286, R289, R291: the thermal monitor after the readings of one stitch. -/
def dieStep (l : List Int) (t : ThrmSt) : ThrmSt :=
  let ds := dieRead l
  let hot := dieHot ds
  let impl := ds.any (fun d => !d.plausible)
  let sd := dieShut ds
  { t with
    dies := ds, hotIdx := hot.1, td := hot.2, otpInh := decide (440 < hot.2) || impl
    nvmInh := if t.nvmInh then decide (520 < hot.2) else decide (540 ≤ hot.2)
    warn := if t.warn then decide (440 < hot.2) else decide (460 ≤ hot.2)
    throttle := decide (420 < hot.2), impl := impl
    peak := match t.peak with | none => some hot.2 | some p => some (max p hot.2)
    sdRun := if sd.isSome then t.sdRun + 1 else 0
    sdNowCause := match sd with | some e => e.1 | none => t.sdNowCause
    sdNowIdx := match sd with | some e => e.2 | none => t.sdNowIdx
    cool := if !impl && ds.all (fun d => decide (d.quarter < 500)) then t.cool + 1 else 0 }

/-- R283 to R286, R289: the die readings of the stitch that ended, at its boundary, and the stitches in a row with every sensor
plausible (R284). -/
def dieBoundary (l : List Int) (s : State) : State :=
  let t0 := dieStep l s.thrm
  let t := { t0 with implOk := if t0.impl then 0 else t0.implOk + 1 }
  { s with thrm := t, col := colFollow srcNvmInhibit t.nvmInh (colFollow srcDieWarn t.warn s.col) }

end Sys2Proof.Machine
end

