-- ==== Sys2Proof/Machine/Slv.lean ====
section
/-! DEFINITION. The voltage and current functions of both channels, SLV, SLI and SDI, and the coarse conversions that
feed channel B (14_safety_functions; R24, R28, R155, R156, R242, R243). -/

namespace Sys2Proof.Machine

/-! ### Limits -/

/-- Channel B's voltage limits: VOV, VUV, VOV_CRIT, VUV_CRIT and CMARG, mV (R380, R281). -/
def limB (s : State) (crit ovr : Bool) : Int :=
  let m : Int := (bits (hwslWord s .safeVcfg 13) 23 16 : Nat)
  if ovr then (if crit then bits (hwslWord s .safeVov 11) 28 16 else bits (hwslWord s .safeVov 11) 12 0 : Nat) + m
  else (if crit then bits (hwslWord s .safeVuv 12) 28 16 else bits (hwslWord s .safeVuv 12) 12 0 : Nat) - m

/-- Channel A's voltage limits, mV (R380). -/
def limA (s : State) (crit ovr : Bool) : Int :=
  if ovr then (if crit then fld s .safeVov 28 16 else fld s .safeVov 12 0 : Nat)
  else (if crit then fld s .safeVuv 28 16 else fld s .safeVuv 12 0 : Nat)

/-- R380: the release hysteresis, mV. -/
def limHyst (s : State) : Int := (fld s .safeVcfg 7 0 : Nat)

/-- A coarse code in mV (R155). -/
def codeMv (code : Nat) : Int := 2 * code - 500

/-- R380: a coarse code beyond channel B's limit. -/
def beyondB (s : State) (crit ovr : Bool) (code : Nat) : Bool :=
  if ovr then decide (limB s crit true < codeMv code) else decide (codeMv code < limB s crit false)

/-- R380: a coarse code not on the safe side of an inhibit limit by HYST. -/
def unsafeB (s : State) (ovr : Bool) (code : Nat) : Bool :=
  if ovr then decide (limB s false true - limHyst s < codeMv code) else decide (codeMv code < limB s false false + limHyst s)

/-- R380: accepted samples in a row that channel B asks for. -/
def needB (s : State) : Nat := if kelvin s then 4 else 2

/-! ### SLV: the actions (R380) -/

/-- A charge (over) or discharge inhibit set on a channel, with SLV_OV or SLV_UV (R380, R406). -/
def slvInhibit (ch : Chan) (ovr : Bool) (cells : Word) (s : State) : State :=
  let set (c : ChanSt) : ChanSt := if ovr then { c with ov := true, ovRel := 0 } else { c with uv := true, uvRel := 0 }
  standCells (if ovr then srcSlvOv else srcSlvUv) true cells { s with safe := match ch with
    | .a => { s.safe with a := set s.safe.a } | .b => { s.safe with b := set s.safe.b } }

/-- A critical voltage on a channel: SLV_CRIT and the trip (R380). -/
def slvCrit (ch : Chan) (cells : Word) (s : State) : State :=
  let s1 := standCells srcSlvCrit true cells { s with safe := match ch with
    | .a => { s.safe with a := { s.safe.a with crit := true } } | .b => { s.safe with b := { s.safe.b with crit := true } } }
  tripOwn 32 (ch == .a) (ch == .b) s1

/-- SLV_CRIT follows the critical conditions of both channels. -/
def critFollow (s : State) : State :=
  if s.safe.a.crit || s.safe.b.crit then s else stand srcSlvCrit false s

/-- R380: an inhibit released after 8 stitches on the safe side. -/
def inhibitRelease (ch : Chan) (ovr : Bool) (s : State) : State :=
  let c := match ch with | .a => s.safe.a | .b => s.safe.b
  if ovr && c.ov && decide (8 ≤ c.ovRel) then
    let s1 := { s with safe := match ch with
      | .a => { s.safe with a := { s.safe.a with ov := false } } | .b => { s.safe with b := { s.safe.b with ov := false } } }
    if s1.safe.a.ov || s1.safe.b.ov then s1 else stand srcSlvOv false s1
  else if !ovr && c.uv && decide (8 ≤ c.uvRel) then
    let s1 := { s with safe := match ch with
      | .a => { s.safe with a := { s.safe.a with uv := false } } | .b => { s.safe with b := { s.safe.b with uv := false } } }
    if s1.safe.a.uv || s1.safe.b.uv then s1 else stand srcSlvUv false s1
  else s

/-- INHIBIT_RELEASE (R380). Channel B drives its own pins at once. -/
def execInhibitRelease (ch : Chan) (ovr : Bool) (s : State) : Out :=
  done (match ch with | .a => aStep (inhibitRelease .a ovr) s | .b => driveB (inhibitRelease .b ovr s))

/-! ### Channel B: an accepted sample -/

/-- R243: the tested comparator's masked evaluation of slot 6 (R242). -/
def cttMasks (s : State) (n : Nat) (ovr : Bool) : Bool :=
  match s.meas.cttCell, s.diag.unit with
  | some c, some u => c.val == n && s.time.slot == 6 && (decide (u.count < 8) == ovr)
  | _, _ => false

/-- A run of samples beyond a limit. -/
def runNext (beyond : Bool) (r : Nat) : Nat := if beyond then r + 1 else 0

/-- R380: one accepted sample against the limits of one direction; a masked comparator keeps its runs (R242). A cell that reaches
its count while the condition stands is a cell of the source too (R442, R444). -/
def slvSample (n code : Nat) (ovr : Bool) (s : State) : State :=
  if cttMasks s n ovr then s
  else
    let r := s.safe.runs.getD n {}
    let k := runNext (beyondB s false ovr code) (if ovr then r.ov else r.uv)
    let kc := runNext (beyondB s true ovr code) (if ovr then r.ovc else r.uvc)
    let r1 := if ovr then { r with ov := k, ovc := kc } else { r with uv := k, uvc := kc }
    let un := unsafeB s ovr code
    let b := s.safe.b
    let s1 := { s with safe := { s.safe with
      runs := s.safe.runs.set n r1
      b := if ovr then { b with ovUnsafe := b.ovUnsafe || un } else { b with uvUnsafe := b.uvUnsafe || un } } }
    let s2 := if k < needB s then s1
      else if !(if ovr then b.ov else b.uv) then slvInhibit .b ovr (place 1 n) s1
      else raiseCells (if ovr then srcSlvOv else srcSlvUv) (place 1 n) s1
    if kc < needB s then s2
    else if !b.crit then slvCrit .b (place 1 n) s2 else raiseCells srcSlvCrit (place 1 n) s2

/-- R28, R156: the HWSL accepts the conversion of the slot that runs. -/
def acceptedNow (s : State) (conv : Nat) : Bool :=
  if kelvin s then true
  else inWindow s.meas s.time.slot.val && !(s.time.slot.val == s.meas.mwFirst && conv == 0)

/-- R242, R243: the comparator test of the cell, at its sample of slot 7. -/
def cttSample (n code : Nat) (acc : Bool) (s : State) : State :=
  match s.meas.cttCell, s.diag.unit with
  | some c, some u =>
    if c.val = n && s.time.slot = 7 then
      let ovr := decide (u.count < 8)
      cttJudge n ovr (beyondB s false ovr) acc code s
    else s
  | _, _ => s

/-- A coarse conversion of a cell. -/
def cellSample (n : Fin 32) (conv code : Nat) (s : State) : State :=
  let acc := acceptedNow s conv
  let s1 := { s with meas := { s.meas with coarse := s.meas.coarse ++ [(s.time.slot, n, code, acc)] } }
  let s2 := if acc && populated s n.val then slvSample n.val code false (slvSample n.val code true s1) else s1
  cttSample n.val code acc s2

/-- R380: channel B at the end of a stitch: releases counted, and whether a critical condition still stands on a
populated cell (R62). -/
def slvCountB (s : State) : State :=
  let b := s.safe.b
  let any := s.meas.coarse.any (fun e => e.2.2.2)
  let b1 := { b with
    ovRel := if !any then b.ovRel else if b.ovUnsafe then 0 else b.ovRel + 1
    uvRel := if !any then b.uvRel else if b.uvUnsafe then 0 else b.uvRel + 1
    ovUnsafe := false, uvUnsafe := false
    crit := b.crit && (s.safe.runs.take (ncell s)).any (fun r => decide (0 < r.ovc) || decide (0 < r.uvc)) }
  let s1 := { s with safe := { s.safe with b := b1 } }
  if b.crit && !b1.crit then critFollow s1 else s1

/-! ### Channel A (R380, R382) -/

/-- A coarse mean as a fraction of µV, where there is one. -/
def coarseRead (cm : Nat × Nat) : List (Int × Nat) := if cm.2 = 0 then [] else [(2000 * (cm.1 : Int) - 500000 * cm.2, cm.2)]

/-- R382: the readings channel A takes of cell `n`, as fractions of µV, and whether channel B's limits apply; none when
it has no reading. In the test stitch of CTT the MW average alone counts, where there is one (R242). -/
def slvReadA (s : State) (n : Nat) : Option (List (Int × Nat) × Bool) :=
  let coarse := coarseRead (s.meas.res.coarse.getD n (0, 0))
  let mw : Option Int := match s.meas.res.cells.getD n none with
    | some a => if a.ovl == 0 && !s.meas.prevSettling && !bit s.meas.heldPrev n && s.meas.donePrev then some a.v else none
    | none => none
  match mw with
  | some v => some (if (s.meas.cells.getD n {}).xdis then (v, 1) :: coarseRead (crseSum s.meas n) else [(v, 1)], false)
  | none => if coarse.isEmpty then none else some (coarse, true)

/-- A reading (a fraction of µV) beyond a limit in mV. -/
def fracBeyond (ovr : Bool) (lim : Int) (x : Int × Nat) : Bool :=
  if ovr then decide (lim * 1000 * x.2 < x.1) else decide (x.1 < lim * 1000 * x.2)

/-- R380: cell `n` beyond a limit on channel A. -/
def beyondA (s : State) (crit ovr : Bool) (n : Nat) : Bool :=
  match slvReadA s n with
  | some (l, b) => l.any (fracBeyond ovr (if b then limB s crit ovr else limA s crit ovr))
  | none => false

/-- R380: cell `n` on the safe side of an inhibit limit by HYST on channel A. -/
def safeA (s : State) (ovr : Bool) (n : Nat) : Bool :=
  match slvReadA s n with
  | some (l, b) =>
    let lim := if b then limB s false ovr else limA s false ovr
    !(l.any (fracBeyond ovr (if ovr then lim - limHyst s else lim + limHyst s)))
  | none => false

/-- R380, R382: channel A's evaluation of SLV on the stitch that ended. -/
def slvTaskA (s : State) : State :=
  let seen := (List.range (ncell s)).any (fun n => (slvReadA s n).isSome)
  if !seen then s
  else
    let map (crit ovr : Bool) : Word := mapBits 32 (fun n => populated s n && beyondA s crit ovr n)
    let ov := map false true
    let uv := map false false
    let cr := map true true ||| map true false
    let rel (ovr : Bool) (k : Nat) : Nat := if (List.range (ncell s)).all (safeA s ovr) then k + 1 else 0
    let a := s.safe.a
    let s1 := { s with safe := { s.safe with a := { a with ovRel := rel true a.ovRel, uvRel := rel false a.uvRel
                                                           crit := cr != 0 } } }
    let s2 := if ov != 0 then slvInhibit .a true ov s1 else s1
    let s3 := if uv != 0 then slvInhibit .a false uv s2 else s2
    if cr != 0 then slvCrit .a cr s3 else critFollow s3

/-! ### SLI and SDI (R384 to R387) -/

/-- R384, R387: the functions run on a channel. -/
def currentRuns (s : State) (ch : Chan) : Bool :=
  isHead s && currentPresent s && !(match ch with | .a => s.cur.isnsLost | .b => s.cur.iauxLost)

/-- R385, R386: counts of one evaluation: beyond the charge limit, beyond the discharge limit, and against a removed
direction. -/
def currentCount (chg dsg sdi : Bool) (c : ChanSt) : ChanSt :=
  { c with sliRunChg := runNext chg c.sliRunChg, sliRunDsg := runNext dsg c.sliRunDsg
           sdiRun := runNext sdi c.sdiRun, sdi := c.sdi && sdi }

/-- R387: a channel whose source is lost evaluates neither function. -/
def currentDrop (c : ChanSt) : ChanSt := { c with sliRunChg := 0, sliRunDsg := 0, sdiRun := 0 }

/-- R395: channel B's slots of a stitch taken together at its end: beyond a limit when one of them was (log 12). -/
def currentStitchB (c : ChanSt) : ChanSt :=
  match c.outNow with
  | some o => { c with outChg := o.1, outDsg := o.2, outNow := none }
  | none => c

/-- SDI_LOCKOUT follows the conditions of both channels. -/
def sdiFollow (s : State) : State := if s.safe.a.sdi || s.safe.b.sdi then s else stand srcSdiLockout false s

/-- R385, R386: channel B's evaluation of a slot's IAUX code. -/
def currentSlotB (code : Nat) (s : State) : State :=
  if !currentRuns s .b then { s with safe := { s.safe with b := currentDrop s.safe.b } }
  else
    let tol := fld s .safeIdir 11 0
    let chg := ibBeyond s code true (fld s .safeIlim 31 16)
    let dsg := ibBeyond s code false (fld s .safeIlim 15 0)
    let sdi := (ibBeyond s code true tol && !packChg s) || (ibBeyond s code false tol && !packDsg s)
    let o := s.safe.b.outNow.getD (false, false)
    let s1 := { s with safe := { s.safe with
      b := { currentCount chg dsg sdi s.safe.b with outNow := some (o.1 || chg, o.2 || dsg) } } }
    if s.safe.b.sdi && !s1.safe.b.sdi then sdiFollow s1 else s1

/-- The shunt value of the stitch that ended, whether in range or not, when the stitch has one (R385). -/
def shuntSeen (s : State) : Option Int :=
  match s.meas.res.shunt with
  | some a => if !s.meas.prevSettling && !s.meas.auxHeldPrev.getLsbD 1 then some a.v else none
  | none => none

/-- R385, R386: channel A's evaluation of the stitch that ended. -/
def currentTaskA (s : State) : State :=
  if !currentRuns s .a then { s with safe := { s.safe with a := currentDrop s.safe.a } }
  else match shuntSeen s with
    | none => s
    | some v =>
      let r := fld s .syncRshunt 23 0
      let tol := fld s .safeIdir 11 0
      let chg := iaBeyond r v true (fld s .safeIlim 31 16)
      let dsg := iaBeyond r v false (fld s .safeIlim 15 0)
      let sdi := (iaBeyond r v true tol && !packChg s) || (iaBeyond r v false tol && !packDsg s)
      let s1 := { s with safe := { s.safe with a := { currentCount chg dsg sdi s.safe.a with outChg := chg, outDsg := dsg } } }
      if s.safe.a.sdi && !s1.safe.a.sdi then sdiFollow s1 else s1

/-- R385: the run that latches an inhibit: 1 stitch or 3 slots, and SLI_T more. -/
def sliNeed (s : State) (ch : Chan) : Nat :=
  match ch with | .a => 1 + fld s .safeItime 31 16 | .b => 3 + 8 * fld s .safeItime 31 16

/-- R385: an inhibit latched on a channel when its run is long enough. -/
def sliLatch (ch : Chan) (dsg : Bool) (s : State) : State :=
  let c := match ch with | .a => s.safe.a | .b => s.safe.b
  let run := if dsg then c.sliRunDsg else c.sliRunChg
  if sliNeed s ch ≤ run && !(if dsg then c.sliDsg else c.sliChg) then
    let c1 := if dsg then { c with sliDsg := true } else { c with sliChg := true }
    stand srcSliLimit true { s with safe := match ch with
      | .a => { s.safe with a := c1 } | .b => { s.safe with b := c1 } }
  else s

/-- SLI_LATCH (R385). -/
def execSliLatch (ch : Chan) (dsg : Bool) (s : State) : Out := 
  done (match ch with | .a => aStep (sliLatch .a dsg) s | .b => sliLatch .b dsg s)

/-- R386: the run that locks out: IDIR_T stitches, or that time in slots. -/
def sdiNeed (s : State) (ch : Chan) : Nat :=
  match ch with | .a => fld s .safeItime 15 0 | .b => 8 * fld s .safeItime 15 0

/-- R386: LOCKOUT when a channel's count reaches IDIR_T. -/
def sdiLockout (ch : Chan) (s : State) : State :=
  let c := match ch with | .a => s.safe.a | .b => s.safe.b
  if sdiNeed s ch ≤ c.sdiRun && decide (0 < c.sdiRun) && !c.sdi then
    let s1 := stand srcSdiLockout true { s with safe := match ch with
      | .a => { s.safe with a := { s.safe.a with sdi := true } } | .b => { s.safe with b := { s.safe.b with sdi := true } } }
    trip .lockout 4 (ch == .a) (ch == .b) s1.sys.addr true s1
  else s

/-- SDI_LOCKOUT (R386). -/
def execSdiLockout (ch : Chan) (s : State) : Out := 
  done (match ch with | .a => aStep (sdiLockout .a) s | .b => sdiLockout .b s)

/-! ### Coarse conversions (R24, R198, R252) -/

/-- R91, R97: the coarse path and the HWSL run. -/
def hwslOn (s : State) : Bool :=
  (match s.sys.phase with | .filled | .coreOn | .coreRestart => true | _ => false) &&
  (match s.sys.mode with | some .ship | some .sleep => false | _ => true)

/-- An auxiliary conversion of SAR `sar`; IAUX feeds channel B (R198, R385). -/
def auxSample (sar : Fin 4) (code : Nat) (s : State) : State :=
  let s1 := { s with meas := { s.meas with aux := s.meas.aux ++ [(s.time.slot, sar, code)] } }
  if sar = 0 then currentSlotB code (iauxSlot code s1) else s1

/-- The cell of conversion `conv` of a SAR (R24). -/
def sarCell (sar : Fin 4) (conv : Fin 9) : Option (Fin 32) :=
  if h : conv.val < 8 then some ⟨8 * sar.val + conv.val, by omega⟩ else none

end Sys2Proof.Machine
end

