-- ==== Sys2Proof/Machine/Inputs.lean ====
section
/-! DEFINITION. The safety inputs: filtered levels, SSI, test points, test-pulse readback, discrepancy and its reset
sequence (15_safety_inputs_commissioning; R388). -/

namespace Sys2Proof.Machine

/-- R427: input `x` is in use. -/
def siUse (s : State) (x : Nat) : Bool := fbit s .sioCfg x
/-- The record of input `x`. -/
def siGet (o : SioSt) (x : Nat) : Si := if x = 0 then o.in0 else o.in1
/-- The record of input `x` replaced. -/
def siPut (o : SioSt) (x : Nat) (v : Si) : SioSt := if x = 0 then { o with in0 := v } else { o with in1 := v }
/-- R413: the level a channel evaluates: its filtered level, inactive while TP_FAULT stands on its output. -/
def siLevel (o : SioSt) (ch : Chan) (x : Nat) : Bool :=
  match ch with | .a => (siGet o x).filtA && !o.tpaFault | .b => (siGet o x).filtB && !o.tpbFault
/-- R540: the channel has settled. -/
def siSettled (o : SioSt) (ch : Chan) : Bool := match ch with | .a => o.settleA == 0 | .b => o.settleB == 0
/-- R540: the input may trip though the channel has not settled, because it has been active. -/
def siSeen (o : SioSt) (ch : Chan) (x : Nat) : Bool := match ch with | .a => (siGet o x).seenA | .b => (siGet o x).seenB

/-- R97, R540: a channel evaluates its inputs. -/
def siRuns (s : State) (ch : Chan) : Bool :=
  hwslOn s && match ch with | .a => coreRuns s | .b => true

/-- R388, R540: input `x` is inactive on a channel and counts. -/
def siInactive (s : State) (ch : Chan) (x : Nat) : Bool :=
  siRuns s ch && siUse s x && !siLevel s.sio ch x && (siSettled s.sio ch || siSeen s.sio ch x)

/-- R417: a discrepancy fault of input `x` is a trip condition, until its reset sequence is complete. -/
def siDiscStands (s : State) (x : Nat) : Bool :=
  let i := siGet s.sio x
  i.disc && (i.rst == 1 || i.rst == 2)

/-- R388, R412, R417: the trip conditions of the safety inputs on a channel, bit [17]. SI_PULSE stands until the input has
passed, in use or not. -/
def ssiCond (s : State) (ch : Chan) : Bool :=
  [0, 1].any (fun x => siInactive s ch x || siDiscStands s x ||
    match ch with | .a => (siGet s.sio x).pulseA | .b => (siGet s.sio x).pulseB)

/-- R410, R412: the failures of input `x` as `USE` counts them now: those before its change into use, or out of it, are not
failures of an input in use, or not in use (log 54). -/
def siCounts (s : State) (x : Nat) : Si :=
  let i := siGet s.sio x
  if i.wasUse == siUse s x then i else { i with wasUse := siUse s x, failA := 0, failB := 0 }

/-- R410: SI_UNUSED's condition brought up to date for input `x`. -/
def unusedStep (s : State) (x : Nat) : Si :=
  let i := siCounts s x
  let both := siLevel s.sio .a x && siLevel s.sio .b x
  if siUse s x then { i with unusedErr := false }
  else if (siRuns s .a && siRuns s .b && !both) || decide (2 ≤ i.failA) || decide (2 ≤ i.failB) then { i with unusedErr := true }
  else if both && decide (8 ≤ i.passA) && decide (8 ≤ i.passB) then { i with unusedErr := false }
  else i

/-- R388, R410 to R417: sources and trips brought up to date. A channel whose condition appears trips. -/
def siRefresh (s0 : State) : State :=
  let s := { s0 with sio := siPut (siPut s0.sio 0 (unusedStep s0 0)) 1 (unusedStep s0 1) }
  let ca := ssiCond s .a
  let cb := ssiCond s .b
  let na := ca && !s.safe.a.ssi
  let nb := cb && !s.safe.b.ssi
  let s1 := { s with safe := { s.safe with a := { s.safe.a with ssi := ca }, b := { s.safe.b with ssi := cb } } }
  let s2 := follow srcSsiInactive ([0, 1].any (fun x => siInactive s .a x || siInactive s .b x)) s1
  let s3 := follow srcSiDisc (siDiscStands s 0 || siDiscStands s 1) s2
  let s4 := follow srcSiPulse ([0, 1].any (fun x => (siGet s.sio x).pulseA || (siGet s.sio x).pulseB)) s3
  let s5 := follow srcTpFault (s.sio.tpaFault || s.sio.tpbFault) s4
  let s6 := follow srcSiUnused (s.sio.in0.unusedErr || s.sio.in1.unusedErr) s5
  if na || nb then tripOwn 2 na nb s6 else s6

/-- R427: the bit of a pin in FILT and RAW. -/
def siBit (ch : Chan) (x : Nat) : Nat := 2 * x + (match ch with | .a => 0 | .b => 1)

/-- R414: the filtered level of an input changes; `last` is the last sample of its pin (R427). -/
def siEdge (ch : Chan) (x : Nat) (active last : Bool) (o : SioSt) : SioSt :=
  let i := siGet o x
  let v := match ch with
    | .a => { i with filtA := active, seenA := i.seenA || active }
    | .b => { i with filtB := active, seenB := i.seenB || active }
  let m : BitVec 4 := BitVec.ofNat 4 (2 ^ siBit ch x)
  { siPut o x v with raw := if last then o.raw ||| m else o.raw &&& ~~~ m }

/-- R411: test-pulse dropouts come in the stitch that runs. -/
def dropsNow (s : State) : Bool := s.sys.mode.isSome && s.sio.tpOn

/-- R411: the dropouts of stitch `k` of pack time, up to the running one, came: the mode was in force in it. -/
def dropsIn (s : State) (k : Int) : Bool :=
  decide ((stitches s : Int) ≤ k + s.sio.tpRun) && (decide (k < stitches s) || dropsNow s)

/-- R44, R45: the spans between steps of pack time, newest first: the stitches by which it counted ahead in each, and the instants
between which it lies. -/
def stepSpans (ahead : Nat) (upto : Option Nat) : List (Nat × Nat) → List (Nat × Option Nat × Option Nat)
  | [] => [(ahead, none, upto)]
  | e :: l => (ahead, some e.1, upto) :: stepSpans e.2 (some e.1) l

/-- R411, R414: `t` µs of pack time lies from `lo` to `hi` µs after the begin of a stitch whose number modulo `m` is `k`, and
the dropout that begins at `lo` came. A dropout stands in the stitch that had this number in the span in which it began. -/
def inDropout (s : State) (t m k lo hi : Int) (e : Nat × Option Nat × Option Nat) : Bool :=
  let u := (t + 1000 * (e.1 : Int)) % (1000 * m)
  let b := t - u + 1000 * k
  decide (b + lo ≤ t) && decide (t ≤ b + hi) && e.2.1.all (fun x => decide ((x : Int) ≤ b + lo)) &&
    e.2.2.all (fun x => decide (b + lo < (x : Int))) && dropsIn s (b / 1000)

/-- R414: a sample taken `t` µs of pack time is excluded: from the start of a dropout that came until 50 µs after its end. -/
def siExcluded (s : State) (t : Int) : Bool :=
  (stepSpans 0 none s.sio.steps).any (fun e =>
    inDropout s t 4 1 250 400 e || inDropout s t 8 3 625 775 e || inDropout s t 8 3 875 1025 e)

/-- R414: the samples `l`, 10 µs apart and the last of them at `t` µs of pack time, begin at the new level, run for 2.0 ms
from it, and none that is not excluded is at the old level. -/
def siHolds (s : State) (active : Bool) (t : Nat) (l : List Bool) : Bool :=
  let n := l.length
  l.head? == some active && decide (200 ≤ n - 1) &&
    (l.zipIdx.all (fun e => e.1 == active || siExcluded s ((t : Int) - 10 * ((n - 1 - e.2 : Nat) : Int))))

/-- SI_FILTER_EDGE (R414, R388): the filtered level changes when the samples hold the new one. -/
def execSiFilterEdge (ch : Chan) (input : Fin 2) (active : Bool) (us : BitVec 10) (samples : List Bool) (s : State) : Out :=
  done (if siRuns s ch && siHolds s active (1000 * stitches s + us.toNat) samples then
    siRefresh { s with sio := siEdge ch input.val active (samples.getLastD active) s.sio } else s)

/-- SI_SETTLED (R540). -/
def execSiSettled (ch : Chan) (s : State) : Out := done (if siRuns s ch && siSettled s.sio ch then siRefresh s else s)

/-! ### Test points (R411, R412) -/

/-- R411: the stitch and slot that runs hold a test point of TPA (false) or TPB (true). -/
def pointHere (s : State) (b : Bool) : Bool :=
  let k := (stitch s).toNat
  if b then k % 8 == 3 && (s.time.slot == 5 || s.time.slot == 7) else k % 4 == 1 && s.time.slot == 2

/-- R412: input `x` at a test point; `lv` are the four pins. -/
def pointInput (s : State) (b : Bool) (lv : BitVec 4) (x : Nat) : Si :=
  let i := siCounts s x
  if siUse s x && !(siLevel s.sio .a x && siLevel s.sio .b x) then i
  else
    let bad := (lv.getLsbD (siBit .a x) != b) || (lv.getLsbD (siBit .b x) == b)
    let j := if b then { i with failB := if bad then i.failB + 1 else 0, passB := if bad then 0 else i.passB + 1 }
             else { i with failA := if bad then i.failA + 1 else 0, passA := if bad then 0 else i.passA + 1 }
    let newA := !b && bad && siUse s x && !i.pulseA && decide (2 ≤ j.failA)
    let newB := b && bad && siUse s x && !i.pulseB && decide (2 ≤ j.failB)
    if newA || newB then { j with pulseA := i.pulseA || newA, pulseB := i.pulseB || newB, passA := 0, passB := 0 }
    else if decide (8 ≤ j.passA) && decide (8 ≤ j.passB) then { j with pulseA := false, pulseB := false }
    else j

/-- R412: input `x` fails at a test point. -/
def pointFails (s : State) (b : Bool) (lv : BitVec 4) (x : Nat) : Bool :=
  !(siUse s x && !(siLevel s.sio .a x && siLevel s.sio .b x)) &&
    ((lv.getLsbD (siBit .a x) != b) || (lv.getLsbD (siBit .b x) == b))

/-- R412, R427: a test point of TPA (false) or TPB (true). -/
def testPoint (b : Bool) (lv : BitVec 4) (s : State) : State :=
  let n := ([0, 1].filter (pointFails s b lv)).length
  let o := siPut (siPut s.sio 0 (pointInput s b lv 0)) 1 (pointInput s b lv 1)
  let o1 := { o with raw := lv, points := satInc o.points 0xFFFF }
  siRefresh { s with sio := if b then { o1 with failB := satAdd o1.failB n 0xFF } else { o1 with failA := satAdd o1.failA n 0xFF } }

/-- TEST_POINT (R412): the four pins, bits 3 to 0 SIB1, SIA1, SIB0, SIA0. -/
def execTestPoint (b : Bool) (levels : BitVec 4) (s : State) : Out :=
  done (if siRuns s .a && siRuns s .b && s.sys.mode.isSome && pointHere s b then testPoint b levels s else s)

/-! ### Readback of the test-pulse outputs (R413) -/

/-- R411: a dropout of the output begins at this slot boundary, so its level there is not judged (log 17). -/
def dropoutStarts (s : State) (b : Bool) (slot : Fin 8) : Bool :=
  let k := (stitch s).toNat
  s.sys.mode.isSome && (if b then k % 8 == 3 && (slot == 5 || slot == 7) else k % 4 == 1 && slot == 2)

/-- R427: `SIO.IN.FILT`. -/
def siFilt (o : SioSt) : Nat :=
  (if o.in1.filtB then 8 else 0) + (if o.in1.filtA then 4 else 0) + (if o.in0.filtB then 2 else 0) + (if o.in0.filtA then 1 else 0)

/-- R413: one slot boundary's readback of both outputs, and the samples of the pins there (R427). -/
def tpSlot (slot : Fin 8) (ra rb : Bool) (si : BitVec 4) (s : State) : State :=
  let o := s.sio
  let xa := dropoutStarts s false slot
  let xb := dropoutStarts s true slot
  let ba := if xa then o.tpaBad else if ra == o.tpOn then 0 else o.tpaBad + 1
  let bb := if xb then o.tpbBad else if rb == o.tpOn then 0 else o.tpbBad + 1
  let o1 := { o with
    raw := si, tpaBad := ba, tpbBad := bb
    tpaClean := o.tpaClean && (xa || ra == o.tpOn), tpbClean := o.tpbClean && (xb || rb == o.tpOn)
    tpaFault := o.tpaFault || decide (2 ≤ ba), tpbFault := o.tpbFault || decide (2 ≤ bb)
    tpaOk := if 2 ≤ ba then 0 else o.tpaOk, tpbOk := if 2 ≤ bb then 0 else o.tpbOk }
  let s1 := { s with sio := o1 }
  if o1.tpaFault == o.tpaFault && o1.tpbFault == o.tpbFault then s1 else siRefresh s1

/-- R413: the stitches that read back correctly, at a boundary. -/
def tpStitch (o : SioSt) : SioSt :=
  let ka := if o.tpaClean then o.tpaOk + 1 else 0
  let kb := if o.tpbClean then o.tpbOk + 1 else 0
  { o with tpaOk := ka, tpbOk := kb, tpaClean := true, tpbClean := true
           tpaFault := o.tpaFault && decide (ka < 8), tpbFault := o.tpbFault && decide (kb < 8) }

/-! ### Discrepancy (R415 to R417) -/

/-- R415, R417: input `x` at a boundary; `eval` says that both channels have passed their settling (R540). The reset sequence
goes on whether the input is in use or not. -/
def discStep (s : State) (eval : Bool) (x : Nat) : Si :=
  let i := siGet s.sio x
  let a := siLevel s.sio .a x
  let b := siLevel s.sio .b x
  let n := if a == b || !siUse s x then 0 else satInc i.cnt 511
  if !eval then { i with cnt := 0 }
  else
    { i with cnt := n, due := i.due || (n == fld s .sioCfg 24 16 + 1 && n != i.cnt)
             rst := if i.rst = 1 && !a && !b then 2 else if i.rst = 2 && a && b then 3 else i.rst }

/-- R413, R415, R417, R540: the inputs at a stitch boundary. -/
def siBoundary (s : State) : State :=
  let o := s.sio
  let o1 := tpStitch { o with tpRun := if dropsNow s then o.tpRun + 1 else 0, settleA := if siRuns s .a then o.settleA - 1 else o.settleA
                              settleB := if siRuns s .b then o.settleB - 1 else o.settleB }
  let s1 := { s with sio := o1 }
  let ev := siRuns s .a && siRuns s .b && siSettled o1 .a && siSettled o1 .b
  let s2 := { s1 with sio := siPut (siPut o1 0 (discStep s1 ev 0)) 1 (discStep s1 ev 1) }
  siRefresh s2

/-- R415, R417: the discrepancy fault of input `x` latches when due. -/
def siDiscLatch (x : Nat) (s : State) : State :=
  let i := siGet s.sio x
  if i.due then
    let s1 := siRefresh { s with sio := siPut s.sio x { i with due := false, disc := true, rst := 1 } }
    tripOwn 2 true true s1
  else s

/-- SI_DISC (R415, R417). -/
def execSiDisc (input : Fin 2) (s : State) : Out := done (siDiscLatch input.val s)

/-- R417: an accepted acknowledge clears DISC and RST. -/
def siAcked (o : SioSt) : SioSt :=
  let clr (i : Si) : Si := if i.rst = 3 then { i with disc := false, rst := 0 } else i
  { o with in0 := clr o.in0, in1 := clr o.in1 }

/-- R540: a channel begins: filtered levels inactive, 3 boundaries to settle. -/
def siBegin (ch : Chan) (o : SioSt) : SioSt :=
  let z (i : Si) : Si := match ch with
    | .a => { i with filtA := false, seenA := false } | .b => { i with filtB := false, seenB := false }
  let o1 := { o with in0 := z o.in0, in1 := z o.in1 }
  match ch with | .a => { o1 with settleA := 3 } | .b => { o1 with settleB := 3 }

/-- R427: every input in use is active on both channels. -/
def siAllActive (s : State) : Bool := [0, 1].all (fun x => !siUse s x || (siLevel s.sio .a x && siLevel s.sio .b x))

end Sys2Proof.Machine
end

