-- ==== Sys2Proof/Machine/Permits.lean ====
section
/-! DEFINITION. The pack view at the head, DEGRADED, the permits and their readback, the safety deadline, ACK_N and the
acknowledge, the unlock (14_safety_functions; R34 to R37, R107 to R109). -/

namespace Sys2Proof.Machine

/-! ### The pack view (R389, R390) -/

/-- The addresses of the safety set other than the head's. -/
def setAddrs (s : State) : List Nat := ((List.range 61).map (· + 2)).filter (fun a => s.enum.set.getLsbD a)
/-- The head's record of an address. -/
def member (s : State) (a : Nat) : Member := s.link.members.getD a {}
/-- R389: the copies that stand for an address: the latest accepted wired and radio copies. -/
def copiesOf (s : State) (a : Nat) : List Copy := (member s a).wired.toList ++ (member s a).radio.toList
/-- The flags of either field of a copy. -/
def copyFlags (c : Copy) : BitVec 8 := c.tripA ||| c.tripB
/-- A copy reports TRIPPED or LOCKOUT. -/
def copyTripped (c : Copy) : Bool := c.safety == .tripped || c.safety == .lockout
/-- R389: a copy that makes the head TRIPPED: its state, or any of bits [21], [20], [18], [17], [16]. -/
def copyTrips (c : Copy) : Bool := copyTripped c || copyFlags c &&& 0x37 != 0
/-- R389: a copy that reports DEGRADED or DEG. -/
def copyDeg (c : Copy) : Bool := c.safety == .degraded || c.deg
/-- The lowest address of the safety set one of whose copies has a property. -/
def memberWith (s : State) (p : Copy → Bool) : Option Nat := (setAddrs s).find? (fun a => (copiesOf s a).any p)
/-- Some copy of some member of the safety set has a property. -/
def anyCopy (s : State) (p : Copy → Bool) : Bool := (memberWith s p).isSome
/-- R407: a bit for each address with a property. -/
def copyMap (s : State) (p : Copy → Bool) : BitVec 64 :=
  (List.range 64).foldl (fun m a => if (copiesOf s a).any p then m ||| BitVec.ofNat 64 (2 ^ a) else m) 0
/-- R365: a mirror fault of a member of the safety set stands. -/
def mirrorFault (s : State) : Bool := (setAddrs s).any (fun a => (member s a).fault)

/-- R375: the sources of the mirror faults that stand. -/
def mirrorFollow (s : State) : State :=
  let n := fld s .mirrTol 27 24 + 1
  let has (p : Member → Bool) : Bool := (setAddrs s).any (fun a => p (member s a))
  let bad (k : Nat) : Bool := has (fun m => m.fault && m.lastBad == k)
  follow 23 (has (fun m => decide (n ≤ m.both))) (follow 22 (bad 3) (follow 21 (bad 2) (follow 20 (bad 1) s)))

/-- R389, R446: MEMBER_TRIP follows the copies that report TRIPPED or LOCKOUT; the member that raises it is remembered with
the flags of its copies. -/
def memberTrip (s : State) : State :=
  let s1 := follow srcMemberTrip (anyCopy s copyTripped) s
  match memberWith s copyTripped with
  | some a =>
    let fl := (copiesOf s a).foldl (fun (f : BitVec 8) c => f ||| copyFlags c) 0
    if stands s srcMemberTrip then s1
    else { s1 with col := { s1.col with memTrip := (stitches s - 1, BitVec.ofNat 6 a, fl) :: s1.col.memTrip.take 31 } }
  | none => s1

/-- R389: both channels of the head judge the members' copies, at a stitch boundary. -/
def packJudge (s : State) : State :=
  if !isHead s || !coreRuns s || !awake s then s
  else
    let s1 := memberTrip s
    match memberWith s (fun c => c.safety == .lockout) with
    | some a => trip .lockout 1 true true (BitVec.ofNat 6 a) true s1
    | none =>
      match memberWith s copyTrips with
      | some a => trip .tripped 1 true true (BitVec.ofNat 6 a) true s1
      | none => s1

/-- R390: no bit [23] (charge) or [22] (discharge) stands in a copy of a member. -/
def membersAllow (s : State) (dsg : Bool) : Bool := !(anyCopy s (fun c => (copyFlags c).getLsbD (if dsg then 6 else 7)))

/-- R390: the head's pack permits of both channels, at a boundary. A direction whose SLI inhibit an acknowledge has just cleared
does not rise before the next one (R395). -/
def headPermits (s : State) : SafeSt :=
  let ok := inMode s .run && coreRuns s && !tripped s
  let x := s.safe
  let c (old : Bool) : Bool := !x.sliBackChg || old
  let d (old : Bool) : Bool := !x.sliBackDsg || old
  let mc := membersAllow s false
  let md := membersAllow s true
  { x with
    chgA := ok && mc && !(x.a.ov || x.a.lowChg || x.a.sliChg) && c x.chgA
    chgB := ok && mc && !(x.b.ov || x.b.lowChg || x.b.sliChg) && c x.chgB
    dsgA := ok && md && !(x.a.uv || x.a.sliDsg) && d x.dsgA, dsgB := ok && md && !(x.b.uv || x.b.sliDsg) && d x.dsgB }

/-- Word `k` of a thread message: bits [127 − 32k : 96 − 32k] (R317). -/
def threadWord (m : BitVec 128) (k : Nat) : Word := (m >>> (96 - 32 * k)).setWidth 32

/-- R332, R351: this device belongs to the safety set; a member compares with the downstream message (R317). -/
def inSet (s : State) : Bool :=
  if isHead s then s.enum.set.getLsbD 1
  else s.otp.genP.isSome && s.sys.addr != 63 && commAddr s == s.sys.addr &&
    (match s.link.thrd with | some m => threadWord m 2 == packWord s 5 | none => false)

/-- R45, R305: the stitch number of the ring: the one the serving START gave while this device's own pack time has not
been set to the head's. -/
def ringStitch (s : State) : BitVec 16 := stitch s + s.link.stitchOfs

/-- R369: HEADSTATE of the current stitch stands: that of the stitch before does until the running one's arrives (log
54). -/
def hsNow (s : State) : Bool := match s.link.hs.at_ with | some k => decide (stitches s ≤ k + 1) | none => false

/-- R369: a beacon was accepted within the last TIMEOUT + 1 cycles. -/
def beaconUsed (s : State) : Bool := s.mirr.seen && decide (s.mirr.beaconMiss ≤ fld s .mirrTol 27 24)

/-- R369, R95, R96, R332: the pack permit state a member takes, charge then discharge. -/
def memberPermits (s : State) : Bool × Bool :=
  let wired := s.link.state != .split && s.link.started
  let placed := decide (2 ≤ s.sys.addr.toNat) && decide (s.sys.addr.toNat ≤ 62)
  if !placed || !inSet s then (false, false)
  else if wired then
    (hsNow s && s.link.hs.chg && (!beaconUsed s || s.mirr.chg), hsNow s && s.link.hs.dsg && (!beaconUsed s || s.mirr.dsg))
  else (beaconUsed s && s.mirr.chg, beaconUsed s && s.mirr.dsg)

/-- The pack permits in force brought up to date: the head's own at a boundary, a member's as received. -/
def packPermits (s : State) : State :=
  if isHead s then { s with safe := headPermits s }
  else
    let (c, d) := memberPermits s
    { s with safe := { s.safe with chgA := c, chgB := c, dsgA := d, dsgB := d } }

/-- R390, R402: a direction that a newly accepted copy removes falls at once. -/
def packFall (c : Copy) (s : State) : State :=
  let f := copyFlags c
  let x := s.safe
  { s with safe := { x with chgA := x.chgA && !f.getLsbD 7, chgB := x.chgB && !f.getLsbD 7
                            dsgA := x.dsgA && !f.getLsbD 6, dsgB := x.dsgB && !f.getLsbD 6 } }

/-! ### DEGRADED (R399 to R401) -/

/-- The local causes of R399, as `SAFE.DEGST` bits [3:0]. -/
def degLocal (s : State) : Nat :=
  (if s.meas.cells.zipIdx.any (fun e => e.1.xdis && populated s e.2) then 1 else 0) + (if s.cur.disagree then 2 else 0) +
    (if s.cur.isnsLost then 4 else 0) + (if s.cur.iauxLost then 8 else 0)

/-- R399: a cause of DEGRADED stands: a local one or, at the head, one of R389. -/
def degCause (s : State) : Bool :=
  degLocal s != 0 || (isHead s && ((inMode s .run && mirrorFault s) || anyCopy s copyDeg))

/-- R399, R401: entry to DEGRADED, or the trip of the fourth entry. -/
def degEnter (s : State) : State :=
  let n := satInc s.safe.degEntries 4
  if 4 ≤ n then tripOwn 1 true true (raise srcDegLimit { s with safe := { s.safe with degEntries := n } })
  else raise srcDegEnter { s with safe := { s.safe with
    degEntries := n, state := .degraded, degLeft := 1000 * fld s .safeDeg 26 16 } }

/-- R394, R398, R400: DEGRADED at a boundary. A timer at 0 leaves the state to DEG_EXPIRE. -/
def degStep (s : State) : State :=
  match s.safe.state with
  | .degraded =>
    let n := if inMode s .run then s.safe.degLeft - 1 else s.safe.degLeft
    let s1 := { s with safe := { s.safe with degLeft := n } }
    if n = 0 then s1
    else if degCause s then s1
    else { s1 with safe := { s1.safe with state := .normal } }
  | .normal =>
    if coreRuns s && (inMode s .standby || inMode s .commission || inMode s .run) && degCause s then degEnter s else s
  | _ => s

/-- R400: the timer has run out. -/
def degExpire (s : State) : State :=
  if s.safe.state == .degraded && s.safe.degLeft == 0 then tripOwn 1 true true (raise srcDegExpire s) else s

/-- DEG_EXPIRE (R400). -/
def execDegExpire (s : State) : Out := done (degExpire s)

/-! ### Permit readback (R16, R393) -/

/-- R393: the four pins read back at a slot boundary. -/
def permitReadback (rb : BitVec 4) (s : State) : State :=
  let s1 := { s with safe := { s.safe with rb := rb } }
  if !hwslOn s then s1
  else if rb == s.safe.pins then
    (if s.safe.rbFault then stand srcPermitReadback false { s1 with safe := { s1.safe with rbFault := false } } else s1)
  else
    let high := rb &&& ~~~ s.safe.pins != 0
    let s2 := tripOwn 1 true true { s1 with safe := { s1.safe with rbFault := high } }
    if high then stand srcPermitReadback true s2
    else if s.safe.rbFault then raise srcPermitReadback (stand srcPermitReadback false s2)
    else raise srcPermitReadback s2

/-! ### The safety deadline (R34 to R36) -/

/-- The completion token of the running stitch (R34). -/
def tokenOf (s : State) : BitVec 8 × BitVec 8 := ((stitch s).setWidth 8, ~~~ (stitch s).setWidth 8)

/-- R34: at the check, 900 µs after the boundary, the running stitch's token is present and its complement right (log
12). -/
def tokenMet (s : State) : Bool :=
  s.safe.token == some (tokenOf s) && (match s.time.safeNow with | some us => decide (us ≤ 900) | none => false)

/-- R34, R35, R37: the check of the token, 900 µs after the boundary. -/
def deadlineCheck (s0 : State) : State :=
  let s := atNs 900000 s0
  if tokenMet s then
    { s with safe := { s.safe with token := none, tokens := satInc s.safe.tokens 100, misses := 0, checked := true } }
  else
    let rises := tripRises s.safe.state .tripped
    let s1 := tripOwn 1 false true { s with safe := { s.safe with gate := true, token := none, tokens := 0, checked := true
                                                                  misses := s.safe.misses + 1 } }
    raise srcSafeDeadline { s1 with safe := { s1.safe with byDeadline := s1.safe.byDeadline || rises } }

/-- R34: the check of this stitch has not been made, the core runs and a mode that runs the safety task is in force. -/
def checkOpen (s : State) : Bool := coreRuns s && awake s && !s.safe.checked

/-- DEADLINE_CHECK (R34, R35): 900 µs after the boundary lies in slot 7. -/
def execDeadlineCheck (s : State) : Out :=
  done (if checkOpen s && s.time.slot == 7 && !s.time.fresh then deadlineCheck s else s)

/-! ### ACK_N (R107 to R109) -/

/-- ACK_N is sampled from core release, outside SLEEP and SHIP. -/
def ackSampled (s : State) : Bool :=
  coreRuns s && (match s.sys.mode with | some .sleep | some .ship => false | _ => true)

/-- ACK_STUCK set. -/
def ackStuckSet (s : State) : State := stand srcAckStuck true { s with sys := { s.sys with ackStuck := true } }

/-- R7: what a count of boundaries starts from at a change of the debounced level: a change at the sample of slot 0, at
the boundary itself, has seen that one. -/
def ackFrom (s : State) : Nat := if s.time.fresh then 1 else 0

/-- R107: whole stitches at the debounced level, which lie between the boundaries that have passed since its change. -/
def ackWhole (y : Sys) : Nat := y.ackBounds - 1

/-- A stitch boundary counted at the debounced level. -/
def ackBoundary (s : State) : State :=
  if ackSampled s && !s.sys.ackInit then { s with sys := { s.sys with ackBounds := s.sys.ackBounds + 1 } } else s

/-- One sample of ACK_N. The first after core release gives the level at release (R109). -/
def ackSample (high : Bool) (s : State) : State :=
  if !ackSampled s then s
  else
    let y := s.sys
    if y.ackInit then
      let s1 := { s with sys := { y with ackInit := false, ackLow := !high, ackRun := 0, ackBounds := ackFrom s, ackEnded := none } }
      if high then s1 else ackStuckSet s1
    else if high != y.ackLow then { s with sys := { y with ackRun := 0 } }
    else if y.ackRun + 1 < 8 then { s with sys := { y with ackRun := y.ackRun + 1 } }
    else
      { s with sys := { y with ackRun := 0, ackBounds := ackFrom s, ackLow := !high
                               ackEnded := if high then some (ackWhole y) else y.ackEnded } }

/-- An acknowledge requested: at the head a pack acknowledge that names the stitch 2 stitches on (R396, log 35), at a
member its own. -/
def ackRequest (viaPin : Bool) (s : State) : State :=
  if isHead s then
    { s with safe := { s.safe with packAckAt := stitches s + 2, packAckPt := s.time.pt, packAckSeq := none
                                   acks := s.safe.acks ++ [⟨some (stitches s + 3), viaPin, true⟩] } }
  else { s with safe := { s.safe with acks := s.safe.acks ++ [⟨some (stitches s + 1), viaPin, false⟩] } }

/-- R107: the end of a low. -/
def ackPulse (s : State) : State :=
  match s.sys.ackEnded with
  | none => s
  | some d =>
    let s1 := { s with sys := { s.sys with ackEnded := none } }
    if !s.sys.ackStuck && decide (50 ≤ d) && decide (d ≤ 2000) then
      ackRequest true { s1 with sys := { s1.sys with ackCnt := satInc s1.sys.ackCnt 0xFF } }
    else s1

/-- ACK_N_PULSE (R107). -/
def execAckNPulse (s : State) : Out := done (ackPulse s)

/-- R107: the low has lasted more than 5000 stitches. -/
def ackStuckDue (s : State) : State :=
  if s.sys.ackLow && !s.sys.ackStuck && decide (5001 ≤ ackWhole s.sys) then ackStuckSet s else s

/-- ACK_STUCK (R107, R109). -/
def execAckStuck (s : State) : Out := done (if ackSampled s then ackStuckDue s else s)

/-- R108: after 1000 stitches high. -/
def ackRearm (s : State) : State :=
  if s.sys.ackStuck && !s.sys.ackLow && decide (1000 ≤ ackWhole s.sys) then
    stand srcAckStuck false { s with sys := { s.sys with ackStuck := false } }
  else s

/-- R107, R108: what the boundaries counted so far make due, before the sample of a slot is taken. -/
def ackHeld (s : State) : State := if ackSampled s then ackRearm (ackStuckDue s) else s

/-- ACK_REARM (R108). -/
def execAckRearm (s : State) : Out := done (if ackSampled s then ackRearm s else s)

/-! ### The acknowledge (R395, R396, R398) -/

/-- R395, R439: an event whose effective level is L3, enabled or not, has its dynamic bit set. -/
def l3Dynamic (s : State) : Bool :=
  (List.range 128).any (fun n => s.col.dyn.getLsbD n && effNow s.cfg s.col n == 3)

/-- R380, R383, R388: a trip condition stands on either channel. That of SLT stands until every input is back by THYST when the
acknowledge comes (R383). -/
def tripStands (s : State) : Bool :=
  let f (c : ChanSt) : Bool := c.crit || c.slt || (c.sltOwed && !c.sltBack) || c.ssi
  f s.safe.a || f s.safe.b

/-- R395: an acknowledge in TRIPPED is accepted. -/
def ackTrippedOk (s : State) : Bool :=
  !tripStands s && !l3Dynamic s && (!s.safe.byDeadline || decide (100 ≤ s.safe.tokens)) &&
    !(isHead s && anyCopy s copyTrips)

/-- R395: the condition of one latched SLI inhibit: the current of the last evaluated stitch lies within the limit. -/
def sliWithin (s : State) (ch : Chan) (dsg : Bool) : Bool :=
  let use : Option Chan := match ch with
    | .a => if !s.cur.isnsLost then some .a else if !s.cur.iauxLost then some .b else none
    | .b => if !s.cur.iauxLost then some .b else if !s.cur.isnsLost then some .a else none
  match use with
  | none => false
  | some k =>
    let c := match k with | .a => s.safe.a | .b => s.safe.b
    !(if dsg then c.outDsg else c.outChg)

/-- R395: an acknowledge at the head in NORMAL or DEGRADED is accepted. -/
def ackSliOk (s : State) : Bool :=
  let l : List (Bool × Chan × Bool) := [(s.safe.a.sliChg, .a, false), (s.safe.a.sliDsg, .a, true),
    (s.safe.b.sliChg, .b, false), (s.safe.b.sliDsg, .b, true)]
  isHead s && l.any (fun e => e.1) && l.all (fun e => !e.1 || sliWithin s e.2.1 e.2.2)

/-- Every latched SLI inhibit cleared. -/
def sliClear (s : State) : State :=
  let z (c : ChanSt) : ChanSt := { c with sliChg := false, sliDsg := false }
  follow srcSliLimit false { s with safe := { s.safe with a := z s.safe.a, b := z s.safe.b } }

/-- R407: `SAFE.CAUSE`. -/
def causeWord (x : SafeSt) : Word :=
  place x.causeStitch.toNat 16 ||| place x.causeFlags.toNat 8 ||| flag x.causeA 7 ||| flag x.causeB 6 |||
    place x.causeOrigin.toNat 0

/-- R395: the inhibits cleared in NORMAL or DEGRADED; their directions return from the next boundary. -/
def sliReturn (s : State) : State :=
  let t := sliClear s
  { t with safe := { t.safe with sliBackChg := t.safe.sliBackChg || s.safe.a.sliChg || s.safe.b.sliChg
                                 sliBackDsg := t.safe.sliBackDsg || s.safe.a.sliDsg || s.safe.b.sliDsg } }

/-- What every accepted acknowledge does: the count, the record of R514, DISC (R417). -/
def ackCount (r : AckReq) (s : State) : State :=
  siRefresh (jreq 0x08 0x7F (flag r.viaPin 1 ||| flag r.pack 0) (causeWord s.safe) 2
    { s with safe := { s.safe with ackOk := satInc s.safe.ackOk 0xFF }, sio := siAcked s.sio })

/-- R394, R395: the trip cleared; DEGRADED when a cause stands. -/
def ackClear (s : State) : State :=
  let s1 := sliClear { s with safe := { s.safe with
    state := .normal, gate := false, byDeadline := false, saidA := 0, saidB := 0
    a := { s.safe.a with other := false, sltOwed := false }, b := { s.safe.b with other := false, sltOwed := false } } }
  if degCause s1 then degEnter s1 else s1

/-- One acknowledge judged at its boundary (R395, R398). -/
def ackJudge (r : AckReq) (s : State) : State :=
  let refuse : State := { s with safe := { s.safe with ackRef := satInc s.safe.ackRef 0xFF } }
  let calm := s.safe.state == .normal || s.safe.state == .degraded
  if r.pack && !isHead s && calm then s
  else if !(inMode s .standby || inMode s .commission || inMode s .run) || s.safe.tripNow then refuse
  else if s.safe.state == .tripped then (if ackTrippedOk s then ackClear (ackCount r s) else refuse)
  else if calm && ackSliOk s then sliReturn (ackCount r s)
  else refuse

/-- An acknowledge is due at this boundary. -/
def ackDue (s : State) (r : AckReq) : Bool := match r.stitch with | none => true | some k => decide (k ≤ stitches s)

/-- Every acknowledge that is due, oldest first. The permits follow a TRIPPED state that has cleared; the direction of an
inhibit that cleared in NORMAL or DEGRADED returns at the next boundary (R390, R395). -/
def ackApply (s : State) : State :=
  let l := s.safe.acks.filter (ackDue s)
  let s0 := { s with safe := { s.safe with acks := s.safe.acks.filter (fun r => !ackDue s r) } }
  let t := l.foldl (fun s r => ackJudge r s) s0
  if tripped s && !tripped t then driveB (packPermits t) else t

/-- R398: the trips that a condition which stands makes due, taken before an acknowledge of the same boundary is judged: those of the
safety inputs under the settings in force since the boundary too. -/
def newTrips (s : State) : State :=
  let s1 := sltDue .b (aStep (sltDue .a) (degExpire (siRefresh s)))
  siDiscLatch 1 (siDiscLatch 0 (sdiLockout .b (aStep (sdiLockout .a) s1)))

/-- R418: the judgement of `SIO.ACK`. -/
def hostAckJudge (s : State) : Nat :=
  if inMode s .standby || inMode s .commission || inMode s .run then 0 else 3

/-! ### The unlock (R397) -/

/-- R397: the key; the mode, SDI and the state are conditions of the register as a whole (R536). -/
def unlockJudge (s : State) (v : Word) : Nat := if bits v 15 0 != bits (sealGen s) 15 0 then 0xA else 0

/-- An accepted unlock waits for its boundary (R394). -/
def unlockApply (s : State) : State := { s with safe := { s.safe with unlockPend := true } }

/-- R394, R397: the accepted unlock at its boundary. -/
def unlockBoundary (s : State) : State :=
  if s.safe.unlockPend then
    { s with safe := { s.safe with
      unlockPend := false
      state := if s.safe.state == .lockout && !s.safe.a.sdi && !s.safe.b.sdi then .tripped else s.safe.state } }
  else s

end Sys2Proof.Machine
end

