-- ==== Sys2Proof/Machine/Flags.lean ====
section
/-! DEFINITION. Status and result words that registers, summaries, frames and snapshots share: full words and codes of
cells (R161, R164), current and thermistor words, `SYS.STATE`, trip flags, the summary of R310. -/

namespace Sys2Proof.Machine

/-! ### Result words -/

/-- R161, R164: the full word of cell `n`; an unpopulated cell has its own row. -/
def cellWord (s : State) (n : Nat) : Word :=
  let c := s.meas.cells.getD n {}
  if !populated s n then flag true 31
  else flag c.stale 31 ||| flag c.hist 30 ||| flag c.oor 29 ||| flag c.xd 28 ||| place (u24 c.value) 0

/-- R162, R164: the compressed code of cell `n`. -/
def cellCode (s : State) (n : Nat) : Nat := if populated s n then (s.meas.cells.getD n {}).code else 0xFFF1

/-- R181: `CELL.CCk`. -/
def ccWord (s : State) (k : Nat) : Word := place (cellCode s (2 * k + 1)) 16 ||| place (cellCode s (2 * k)) 0

/-- R181: `CELL.VSTK`. -/
def vstkWord (s : State) : Word := flag s.meas.vstkStale 31 ||| place s.meas.vstk 0

/-- R212: `SYNC.ISNS`. -/
def isnsWord (s : State) : Word :=
  flag s.cur.isnsStale 31 ||| flag s.cur.isnsOor 29 ||| flag s.cur.disagree 28 ||| place (u24 s.cur.isns) 0

/-- R212: `SYNC.ISNS_PT`. -/
def isnsPtWord (s : State) : Word :=
  flag s.cur.pointStale 31 ||| flag s.cur.pointOor 29 ||| flag s.cur.disagree 28 ||| place s.cur.pointSkew 26 |||
    place (u24 s.cur.point) 0

/-- R212: `SYNC.IAUX`. -/
def iauxWord (s : State) : Word :=
  flag s.cur.iauxStale 31 ||| flag s.cur.iauxLost 30 ||| flag s.cur.iauxOor 29 ||| flag s.cur.disagree 28 |||
    place s.cur.iaux 0

/-- R277: the word of a thermistor result. -/
def tsWord (r : TsRes) : Word :=
  flag r.stale 31 ||| flag r.broken 30 ||| flag r.clamp 29 ||| flag r.path 28 ||| place (signedSat 16 r.t) 0

/-- R295: `TEMP.TSn`. -/
def tsReg (s : State) (k : Nat) : Word :=
  let x := s.temp.ts.getD k {}
  if !tsPop s k then 0x8000 else tsWord ⟨x.t, x.stale, x.broken, x.clamp, x.path⟩

/-- R279, R295: `TEMP.MAX.T`. -/
def tmaxField (s : State) : Nat := if s.temp.maxNone then 0 else signedSat 16 s.temp.maxT

/-- R182: `CRSE.CMAX` and `CRSE.CMIN`. -/
def extremeWord (idx code : Nat) : Word := place idx 16 ||| place code 0

/-! ### Safety words -/

/-- R379: TRIP_A as the summary carries it: the result of the last completed safety task (R32). -/
def tripA (s : State) : BitVec 8 := s.safe.sumA
/-- R379: TRIP_B at this instant. -/
def tripB (s : State) : BitVec 8 := chanFlags s.safe.b

/-- R407: `SAFE.TRIP`. -/
def tripReg (s : State) : Word :=
  flag (isHead s && (s.safe.a.sliDsg || s.safe.b.sliDsg)) 24 ||| place (chanFlags s.safe.a).toNat 16 |||
    place (chanFlags s.safe.b).toNat 8

/-- R97 step 7, R101: the mode that begins at the first boundary after core release. -/
def firstMode (s : State) : Mode := if s.sys.startCause = 4 || s.otp.genS.isSome then .standby else .commission

/-- R110: the code of the mode in force; before the first boundary, of the mode that will begin (its reset value 2 or
3). -/
def modeField (s : State) : Nat := modeCode (s.sys.mode.getD (firstMode s))

/-- R110: `SYS.STATE`. -/
def stateReg (s : State) : Word :=
  place s.sys.addr.toNat 24 ||| place (roleCode s.sys.role) 20 ||| place (linkCode s.link.state) 16 |||
    place (safetyCode s.safe.state) 12 ||| flag s.sys.modeNext.isSome 11 |||
    place (match s.sys.modeNext with | some m => modeCode m | none => 0) 8 ||| place (modeField s) 0

/-- R407: `SAFE.PERMIT`. -/
def permitReg (s : State) : Word :=
  flag (packChg s) 23 ||| flag (packDsg s) 22 ||| place s.safe.pins.toNat 8 ||| place s.safe.rb.toNat 4 |||
    flag s.safe.gate 3 ||| flag s.link.hold.isSome 2

/-- R407: `SAFE.DEGST`. -/
def degReg (s : State) : Word :=
  place (s.safe.degLeft / 1000) 16 ||| place s.safe.degEntries 12 ||| flag (isHead s && anyCopy s copyDeg) 5 |||
    flag (isHead s && mirrorFault s) 4 ||| flag s.cur.iauxLost 3 ||| flag s.cur.isnsLost 2 ||| flag s.cur.disagree 1 |||
    flag (xdisMap s.meas != 0) 0

/-! ### The summary (R310, R36) -/

/-- The thread bit of the running stitch (R317). -/
def threadBit (s : State) : Bool := s.link.thrdTx.getLsbD (127 - (ringStitch s).toNat % 128)

/-- R310: SUM0. While the core restarts the HWSL reports TRIPPED and CORE_RESTART (R36). -/
def sum0 (s : State) : Word :=
  let restart := s.sys.phase == .coreRestart
  let st := if restart && s.safe.state != .lockout then Safety.tripped else s.safe.state
  place s.sys.addr.toNat 26 ||| place (safetyCode st) 24 ||| place (tripA s).toNat 16 ||| place (tripB s).toNat 8 |||
    flag restart 7 ||| flag (threadBit s) 6 ||| place (min 63 s.dev.ready.length) 0

/-- R310: SUM1. -/
def sum1 (s : State) : Word := place s.meas.vminCode 16 ||| place s.meas.vmaxCode 0

/-- R310: SUM2. -/
def sum2 (s : State) : Word :=
  place (s.meas.vminIdx - 1) 27 ||| place (s.meas.vmaxIdx - 1) 22 ||| place (linkCode s.link.state) 20 |||
    flag (xdisMap s.meas != 0) 19 ||| flag (s.cur.isnsLost || s.cur.iauxLost || s.cur.disagree) 18 |||
    flag (degLocal s != 0) 17 ||| flag (!s.col.recs.isEmpty) 16 ||| place (tmaxField s) 0

/-- R310: the check word of a summary of stitch `st`. -/
def sumCheck (st : BitVec 16) (a b c : Word) : Word := crc32c (natBytes 2 st.toNat ++ [a, b, c].flatMap wordBytes)

/-- R310, R311: the four SUM words of the container as they stand at this instant. -/
def summaryWords (s : State) : List LinkWord :=
  [sum0 s, sum1 s, sum2 s, sumCheck (ringStitch s) (sum0 s) (sum1 s) (sum2 s)].map (fun w => ⟨9, w, false⟩)

/-- The copy that four summary words of a stitch spell, when the check holds and the address is `a` (R312). -/
def copyOfWords (st : BitVec 16) (a : BitVec 6) (ws : List Word) : Option Copy :=
  match ws with
  | [x, y, z, k] =>
    if k == sumCheck st x y z && bits x 31 26 == a.toNat then
      some { addr := a, safety := safetyOf (bits x 25 24), tripA := BitVec.ofNat 8 (bits x 23 16)
             tripB := BitVec.ofNat 8 (bits x 15 8), coreRestart := bit x 7, thread := bit x 6, req := bits x 5 0
             vmin := bits y 31 16, vmax := bits y 15 0, imin := bits z 31 27, imax := bits z 26 22
             link := linkOf (bits z 21 20), xdis := bit z 19, ilost := bit z 18, deg := bit z 17, evt := bit z 16
             tmax := BitVec.ofNat 16 (bits z 15 0), stitch := st }
    else none
  | _ => none

end Sys2Proof.Machine
end

