-- ==== Sys2Proof/Machine/Frames.lean ====
section
/-! DEFINITION. The recorder frames of a stitch (R455 to R457) and the snapshots of a device (R131 to R133, R154, R165,
R190). Both are formed at the boundary that ends their stitch, from what the converters delivered in it; the state they
take has that stitch as its previous one. -/

namespace Sys2Proof.Machine

/-! ### Recorder frames -/

/-- R455: W0, without its TRIG bit. -/
def frameW0 (s : State) (slot : Nat) (mw : Bool) (ty : Nat) : Word :=
  place s.meas.prevStitch.toNat 16 ||| place slot 13 ||| flag mw 12 ||| place ty 8 |||
    place (safetyCode s.safe.state) 6 ||| place (linkCode s.link.state) 4

/-- Pack time at the start of slot `k` of the stitch that ended. -/
def framePt (s : State) (k : Nat) : Word := (s.time.ptB - 1000 + BitVec.ofNat 64 (125 * k)).setWidth 32

/-- R456: the code of sub-samples of cell `n` (one, or the two of a HALF pair). -/
def slotCode (s : State) (n : Nat) (l : List Sub) : Nat :=
  if !populated s n then 0xFFF1
  else if owStands s n then 0xFFF2
  else if !s.meas.prevModOn || !s.meas.donePrev || bit s.meas.heldPrev n || l.isEmpty then 0xFFF0
  else if l.any (fun x => x.ovl != 0 || decide (x.v < -500000) || decide (5500000 < x.v)) then 0xFFF3
  else chainCode (divRound (l.foldl (fun a x => a + x.v) 0) l.length)

/-- Two codes of 16 bits in a word. -/
def codePair (f : Nat → Nat) (k : Nat) : Word := place (f (2 * k + 1)) 16 ||| place (f (2 * k)) 0

/-- The mean of sub-samples of the slots of a frame. -/
def subMean (l : List Sub) : Int := if l.isEmpty then 0 else divRound (l.foldl (fun a x => a + x.v) 0) l.length

/-- R455: the stack field: 100 µV steps, 21 bits. -/
def stackField (v : Int) : Nat := min (v.toNat) 0x1FFFFF

/-- R279, R455: `TEMP.MAX.T` of the stitch that ended. -/
def frameTmax (s : State) : Nat := tmaxField (publishTemp s)

/-- R455: the last words that both kinds of frame share. -/
def frameW23 (s : State) : Word :=
  place (chanFlags s.safe.a).toNat 16 ||| place (chanFlags s.safe.b).toNat 8 ||| place (modeField s) 0

/-- The IAUX code of a slot. -/
def iauxOf (s : State) (k : Nat) : Nat := s.meas.prevAux.foldl (fun a e => if e.1.val = k && e.2.1 == 0 then e.2.2 else a) 0

/-- R455: the slot frame of the slots `ks` (one at FULL, two at HALF). Its coarse extremes are of every coarse sample of the
slots, accepted by the HWSL or not. -/
def slotFrame (s : State) (ty : Nat) (ks : List Nat) : List Word :=
  let m := s.meas
  let k := ks.headD 0
  let mw := ks.any (fun k => decide (m.prevFirst ≤ k) && decide (k < m.prevFirst + m.prevLen))
  let code (n : Nat) : Nat := slotCode s n (ks.filterMap (fun k => (m.prevSubs.getD k [])[n]?))
  let cs := (m.prevCoarse.filter (fun e => ks.contains e.1.val)).map (fun e => (e.1, e.2.1, e.2.2.1, true))
  let hi := coarseExtreme (ncell s) true cs
  let lo := coarseExtreme (ncell s) false cs
  let sh := ks.filterMap (fun k => m.prevShunt[k]?)
  let st := ks.filterMap (fun k => m.prevStack[k]?)
  let noSh := !currentPresent s || !m.prevModOn || !s.meas.donePrev || m.auxHeldPrev.getLsbD 1 || sh.isEmpty
  let noSt := !m.prevModOn || !s.meas.donePrev || m.auxHeldPrev.getLsbD 0 || st.isEmpty
  [frameW0 s k mw ty, framePt s k] ++ (List.range 16).map (codePair code) ++
  [flag noSh 31 ||| place (if noSh then 0 else u24 (subMean sh)) 0,
   extremeWord hi.1 hi.2, extremeWord lo.1 lo.2,
   place (frameTmax s) 16 ||| place (iauxOf s (ks.getLastD 0)) 0,
   flag noSt 31 ||| place (if noSt then 0 else stackField (subMean st)) 0,
   frameW23 s,
   ks.foldl (fun w k => w ||| m.prevSw.getD k 0) 0,
   xdisMap m] ++
  (List.range 4).map (fun g => (s.col.dyn >>> (32 * g)).setWidth 32) ++ [0, 0]

/-- R455: the code of the MW average of cell `n` in a stitch frame. -/
def avgCode (s : State) (n : Nat) : Nat :=
  if !populated s n then 0xFFF1
  else if owStands s n then 0xFFF2
  else match s.meas.res.cells.getD n none with
    | some a => if cellPub s n then (if avgOk a then chainCode a.v else 0xFFF3) else 0xFFF0
    | none => 0xFFF0

/-- R455: the stitch frame. -/
def stitchFrame (s : State) : List Word :=
  let m := s.meas
  let hi := coarseExtreme (ncell s) true m.prevCoarse
  let lo := coarseExtreme (ncell s) false m.prevCoarse
  let sh : Option Int := match m.res.shunt with | some a => if shuntPub s then some a.v else none | none => none
  let st : Option Nat := match m.res.stack with
    | some a => if streamGate s && !m.auxHeldPrev.getLsbD 0 then some (field100 (stackUv s a)) else none
    | none => none
  [frameW0 s 0 false 3, framePt s 0] ++ (List.range 16).map (codePair (avgCode s)) ++
  [flag sh.isNone 31 ||| place (match sh with | some v => u24 v | none => 0) 0,
   extremeWord hi.1 hi.2, extremeWord lo.1 lo.2,
   place (frameTmax s) 16 ||| place (meanCode m.res.iaux) 0,
   flag st.isNone 31 ||| place (st.getD 0) 0,
   frameW23 s]

/-- R454, R457: the frames of the stitch that ended at a rate. -/
def framesOf (s0 : State) (rate : Nat) : List (List Word) :=
  let s := planView s0
  match rate with
  | 0 => (List.range 8).map (fun k => slotFrame s 1 [k])
  | 1 => (List.range 4).map (fun p => slotFrame s 2 [2 * p, 2 * p + 1])
  | _ => [stitchFrame s]

/-- R457: the recorder engine writes the frames of the stitch that ended, as `v` saw it at its end, with the dynamic bits that
its evaluation left (R434). -/
def recorderWrite (v s : State) : State :=
  let rate := fld v .recCfg 1 0
  if s.bob.st = 1 || s.bob.st = 2 then
    { s with bob := recFrames rate v.meas.prevStitch (framesOf { v with col := s.col } rate) s.bob }
  else s

/-! ### Snapshots -/

/-- R131: a SNAP received: number and capture stitch. -/
def snapRequest (num st : BitVec 16) (s : State) : State :=
  if s.dev.snaps.any (fun x => x.num == num && x.stitch == st) then s
  else { s with dev := { s.dev with snaps := { num := num, stitch := st } :: s.dev.snaps } }

/-- R165: XDIS of cell `n`, populated, as it stands. -/
def snapXd (s : State) (n : Nat) : Word := flag (populated s n && (s.meas.cells.getD n {}).xdis) 28

/-- R165: the snapshot word of cell `n`. -/
def snapCell (s : State) (n : Nat) : Word :=
  let m := s.meas
  match m.res.cells.getD n none with
  | some a =>
    if !populated s n || !m.prevModOn then flag true 31 ||| snapXd s n
    else
      let stale := owStands s n || bit m.heldPrev n || m.prevSettling || !s.meas.donePrev
      flag stale 31 ||| flag (!avgOk a) 29 ||| snapXd s n ||| place (u24 a.v) 0
  | none => flag true 31 ||| snapXd s n

/-- R132, R277: the thermistor results of the stitch that ended. -/
def snapTs (s : State) : List Word := (List.range 16).map (fun k => if tsPop s k then tsWord (tsPrev s k) else 0x8000)

/-- R31, R165, R277: while the stitch after the capture judges the capture stitch, what the words show of its checks follows them:
XDIS of the cells, DISAGREE of the currents, and a TS_PATH in the thermistor results. -/
def snapXdis (s : State) : State :=
  let put (b : Bool) (w : Word) : Word := (w &&& ~~~ (flag true 28)) ||| flag b 28
  { s with dev := { s.dev with snaps := s.dev.snaps.map (fun (x : Snap) =>
      if x.judging then
        { x with cells := x.cells.zipIdx.map (fun e => (e.1 &&& ~~~ (flag true 28)) ||| snapXd s e.2)
                 isns := put s.cur.disagree x.isns, isnsPt := put s.cur.disagree x.isnsPt
                 iaux := put s.cur.disagree x.iaux, ts := snapTs s }
      else x) } }

/-- R132, R190, R196: what a snapshot holds at the end of its capture stitch. -/
def snapFill (s : State) (x : Snap) : Snap :=
  let m := s.meas
  let bad := !m.prevModOn || m.prevSettling || !s.meas.donePrev
  let noSh := bad || !currentPresent s || m.auxHeldPrev.getLsbD 1
  let noSt := bad || m.auxHeldPrev.getLsbD 0
  let dis := flag s.cur.disagree 28
  { x with
    captured := true, held := true, judging := true
    cells := (List.range 32).map (snapCell s)
    vstk := match m.res.stack with
      | some a => flag noSt 31 ||| place (field100 (stackUv s a)) 0
      | none => flag true 31
    isns := match m.res.shunt with
      | some a => flag noSh 31 ||| flag (a.ovl != 0 || shuntOut a.v) 29 ||| dis ||| place (u24 a.v) 0
      | none => flag true 31 ||| dis
    isnsPt := match s.cur.ptPrev with
      | some p => flag noSh 31 ||| flag (p.ovl != 0 || shuntOut p.v) 29 ||| dis ||| place s.cur.skewPrev 26 ||| place (u24 p.v) 0
      | none => flag true 31 ||| dis ||| place s.cur.skewPrev 26
    iaux := match iauxMean s with
      | some k => flag (!currentPresent s) 31 ||| flag s.cur.iauxLost 30 ||| flag (!iauxIn s k) 29 ||| dis ||| place k 0
      | none => flag true 31 ||| flag s.cur.iauxLost 30 ||| dis
    ts := snapTs s }

/-- R48: the capture instant of the running stitch: `TIME.SNAP` shows the snapshot. -/
def snapCapture (s : State) : State :=
  s.dev.snaps.foldl (fun s x =>
    if x.stitch == stitch s && !x.captured then
      { s with dev := { s.dev with snaps := s.dev.snaps.map (fun (y : Snap) => if y.num == x.num && y.stitch == x.stitch then { y with captured := true } else y) }
               time := { s.time with snapNum := x.num, snapStitch := x.stitch } }
    else s) s

/-- SNAPSHOT_CAPTURE (R131, R190): t_c of the named stitch. -/
def execSnapshotCapture (s : State) : Out :=
  done (if s.sys.mode.isSome && coreRuns s then snapCapture s else s)

/-- R133, R154: the captures of the stitch that ended are held, with the one before them the two most recent; a request
whose stitch has passed without a capture is gone. -/
def snapBoundary (s0 : State) : State :=
  let s := planView s0
  let past (x : Snap) : Bool := decide ((s.meas.prevStitch - x.stitch).toNat < 32768)
  let l := s.dev.snaps.filter (fun x => !x.held)
  let new := l.filter (fun x => x.captured && x.stitch == s.meas.prevStitch)
  let old := s.dev.snaps.filter (fun x => x.held)
  { s0 with dev := { s0.dev with
    snaps := l.filter (fun x => !past x) ++
      (new.map (snapFill s) ++ old.map (fun (x : Snap) => { x with judging := false })).take 2 } }

/-- R133: the judgement of an SNRD of snapshot `n`. -/
def snapJudge (s : State) (n : BitVec 16) : Nat :=
  match s.dev.snaps.find? (fun x => x.num == n) with
  | some x => if x.held then 0 else 5
  | none => 1

/-- R132: the word of a snapshot at a register address, when it belongs to the set. -/
def snapWord (x : Snap) (a : Nat) : Option Word :=
  if 0x0720 ≤ a && a ≤ 0x079C then some (x.cells.getD ((a - 0x0720) / 4) 0)
  else if a = 0x07A0 then some x.vstk
  else if a = 0x0930 then some x.isns
  else if a = 0x0934 then some x.isnsPt
  else if a = 0x0938 then some x.iaux
  else if 0x0B20 ≤ a && a ≤ 0x0B5C then some (x.ts.getD ((a - 0x0B20) / 4) 0)
  else none

end Sys2Proof.Machine
end

