-- ==== Sys2Proof/Machine/Link.lean ====
section
/-! DEFINITION. The Ibeel link of a device: STARTs and pack time, the command burst, summaries, TRIP words, thread
messages, carrier, folding and the link state (11_ibeel_link; R44 to R46, R87, R369, R423). -/

namespace Sys2Proof.Machine

/-- The record of a port. -/
def portGet (l : LinkSt) (p : Port) : PortSt := match p with | .l => l.portL | .u => l.portU
/-- The record of a port replaced. -/
def portPut (l : LinkSt) (p : Port) (v : PortSt) : LinkSt :=
  match p with | .l => { l with portL := v } | .u => { l with portU := v }
/-- R298: the stream that arrives on a port of a member, as `LINK.STAT.SERVE` codes it. -/
def portStream (p : Port) : Nat := match p with | .l => 1 | .u => 2
/-- The port on which a stream arrives at a member. -/
def streamPort (k : Nat) : Port := if k = 2 then .u else .l
/-- R298: the code of a stream. -/
def streamCode (st : Stream) : Nat := match st with | .out => 1 | .back => 2

/-- R317, R318: bits [15:0] of a thread message check bits [127:16]. -/
def threadOk (m : BitVec 128) : Bool := m.setWidth 16 == crc16 (natBytes 14 (m.toNat / 65536))
/-- A thread message from its upper 112 bits. -/
def threadSeal (hi : Nat) : BitVec 128 := BitVec.ofNat 128 (hi * 65536 + (crc16 (natBytes 14 hi)).toNat)

/-! ### Words, carrier and forwarding (R298, R302, R319, R320) -/

/-- R302: a word error: a type of odd parity, or a bit time without a mid-bit transition. -/
def wordErr (w : LinkWord) : Bool := w.violation || popCount w.ty % 2 == 1

/-- R319: some 8 consecutive words hold 4 word errors. -/
def errsDense : List LinkWord → Bool
  | [] => false
  | w :: ws => decide (4 ≤ ((w :: ws).take 8).countP wordErr) || errsDense ws

/-- R298: the other port of a device. -/
def portOther : Port → Port | .l => .u | .u => .l

/-- R298, R320: the port on which a member sends on what arrives on a port: the other one, or the same one when the other
is folded. Nothing arrives on a folded port. -/
def outPort (l : LinkSt) (p : Port) : Option Port :=
  if (portGet l p).folded then none else if (portGet l (portOther p)).folded then some p else some (portOther p)

/-- R298: words that arrive on a port of a member and go on; the head is the only sink. A member that no START has reached
sends nothing (R101). -/
def forward (p : Port) (xs : List Sym) (s : State) : State :=
  if isHead s || !s.link.started then s
  else match outPort s.link p with
    | none => s
    | some o => { s with link := { s.link with fwdTx := s.link.fwdTx ++ xs.map (fun x => (o, x)) } }

/-- R303: the filler word. -/
def idleWord : LinkWord := ⟨0, 0, false⟩

/-- R303, R323: READY, the filler word of a folded port that asks to unfold. -/
def readyWord : LinkWord := ⟨0, 0x0000A55A, false⟩

/-- R341, R342: an abort condition met in stitch `k` of a search, S to S + 17: the search is cancelled; after the fourth
restart it ends with ENUM_UNSTABLE. A COMMIT that has not gone out yet is not sent. -/
def searchAbort (k : Nat) (s : State) : State :=
  let e := s.enum
  let tx := if e.phase == 3 && s.time.fresh then [] else e.frameTx
  if isHead s && e.aborted && decide (1 ≤ e.phase) && decide (e.phase ≤ 3) && decide (k ≤ e.startAt + 17) then
    if 4 ≤ e.restarts then
      raise srcEnumUnstable { s with enum := { e with phase := 0, unstable := true, held := false, aborted := false
                                                      commit := none, frameTx := tx, waitUntil := k + 1001 } }
    else
      raise srcEnumRestart { s with enum := { e with phase := 4, quiet := 0, restarts := e.restarts + 1, commit := none, frameTx := tx } }
  else s

/-- R319, R320, R335: a port loses carrier. -/
def carrierLoss (p : Port) (s : State) : State :=
  let q := portGet s.link p
  let q1 := { q with carrier := false, clean := 0, cleanRun := 0, readyTx := false, readyRx := false, readySent := false, changed := true, gap := true, idle := idleWord }
  if isHead s then
    let e := { s.enum with aborted := s.enum.aborted || (q.carrier && decide (s.enum.phase ≠ 0)), quiet := 0 }
    searchAbort (stitches s) { s with link := portPut s.link p q1, enum := e }
  else
    let e := { s.enum with tackOut := 0, tackBack := 0, aborted := s.enum.aborted || (q.carrier && s.enum.tackSearch.isSome) }
    if q.folded then { s with link := portPut s.link p q1, enum := e }
    else
      let l := { s.link with foldCnt := satInc s.link.foldCnt 0xFFFF }
      raise srcLinkFold { s with link := portPut l p { q1 with folded := true }, enum := e }

/-- R319: the condition that fails at a loss: no transition in 16 bit times (no flags), or 4 word errors among the 8
consecutive words whose flags are given. -/
def carrierFails (errs : Option (BitVec 8)) : Bool := match errs with | none => true | some m => decide (4 ≤ popCount m)

/-- CARRIER_LOSS (R319, R320, R341). -/
def execCarrierLoss (port : Port) (errs : Option (BitVec 8)) (s : State) : Out :=
  done (if linkUp s && carrierFails errs then carrierLoss port s else s)

/-- R319, R335, R341: a port gains carrier. -/
def carrierGain (p : Port) (s : State) : State :=
  let q := portGet s.link p
  if q.carrier then s
  else
    let l := portPut s.link p { q with carrier := true, clean := 0, cleanRun := 0, changed := true, gap := true }
    if isHead s then
      let e := { s.enum with aborted := s.enum.aborted || decide (s.enum.phase ≠ 0), quiet := 0 }
      searchAbort (stitches s) { s with link := l, enum := e }
    else { s with link := l, enum := { s.enum with tackOut := 0, tackBack := 0, aborted := s.enum.aborted || s.enum.tackSearch.isSome } }

/-- CARRIER_GAIN (R319, R341). -/
def execCarrierGain (port : Port) (s : State) : Out := done (if linkUp s then carrierGain port s else s)

/-- R302, R319: the words of a command as they are received on a port. -/
def wordsSeen (p : Port) (ws : List LinkWord) (s : State) : State :=
  let q := portGet s.link p
  let n := ws.countP wordErr
  let s1 := { s with link := portPut s.link p { q with errNow := q.errNow + n, werr := satAdd q.werr n 0xFF } }
  if n = 0 then s else if errsDense ws then carrierLoss p s1 else s1

/-- Words received on a port and, at a member, sent on. -/
def wordsPass (p : Port) (ws : List LinkWord) (s : State) : State := forward p (ws.map Sym.word) (wordsSeen p ws s)

/-- R298: words for the head that arrive at a member; nothing arrives on a folded port. -/
def wordsThrough (p : Port) (ws : List LinkWord) (s : State) : State :=
  if isHead s || (portGet s.link p).folded then s else wordsPass p ws s

/-! ### START (R44 to R46, R89, R321) -/

/-- R44: the delay of a serving stream, ns; `none` when it has not been measured. -/
def pathDelay (s : State) (serve : Nat) : Option (BitVec 16) :=
  let d := if serve = 2 then s.enum.dBack else s.enum.dOut
  if serve = 0 || d == 0xFFFF then none else some d

/-- The delay of a stream as measured, ns. -/
def streamDelay (s : State) (k : Nat) : Option Nat := (pathDelay s k).map (fun d => d.toNat)

/-- R301: the least latency of a member, ns: what a later pass is late by at least. -/
def hopLeast : Nat := 187

/-- R311, R321: a START on a port belongs to a later pass of a stream: the other port has had its START in this stitch,
and this one does not come when a first pass does: its path has not been measured though the other's has, or it is off
by a member's least latency (log 56). -/
def startLater (s : State) (p : Port) (lateNs : Int) : Bool :=
  let k := portStream p
  (portGet s.link (portOther p)).start && !(portGet s.link (portOther p)).later &&
    (match streamDelay s k, streamDelay s (3 - k) with
     | none, some _ => true
     | none, none => false
     | some _, _ => decide (hopLeast ≤ lateNs.natAbs))

/-- A port carries stitches: carrier, and not folded. -/
def portUsable (l : LinkSt) (p : Port) : Bool := (portGet l p).carrier && !(portGet l p).folded

/-- R321: the named stream would have come before this START, so its first pass is gone: its path is shorter by more than
a tie, or the stitch before had no serving START. -/
def namedGone (s : State) (k : Nat) : Bool :=
  s.time.flywheel || (match streamDelay s k, streamDelay s (3 - k) with
    | some x, some y => decide (y + hopLeast ≤ x) | _, _ => false)

/-- R321: the serving stream after a START on a port: the placed one while its first pass arrives, else the first one in
the stitch. -/
def serveNext (s : State) (p : Port) (lateNs : Int) : Nat :=
  let l := s.link
  let k := portStream p
  let other := portGet l (portOther p)
  if startLater s p lateNs then (if l.serve = k || l.serve = 0 then 3 - k else l.serve)
  else if s.enum.place = 0 then (if other.start && portUsable l (portOther p) && l.serve != 0 then l.serve else k)
  else if k = s.enum.place then k
  else if !portUsable l (streamPort s.enum.place) then k
  else if other.start && !other.later then (if l.serve = 0 then k else l.serve)
  else if l.serve = 0 || l.serve = k || namedGone s k then k
  else l.serve

/-- R70, R88, R89, R329: another head heard while listening: the role MEMBER, address 63, the pins of a head released. -/
def roleConflict (s : State) : State :=
  raise srcRoleConflict { s with
    sys := { s.sys with role := .member, roleConflict := true, listen := false, sending := false, addr := 63 }
    enum := { s.enum with epoch := 0 }, pwr := { s.pwr with wakeOut := false }, host := { s.host with irq := false } }

/-- The class of the stitch brought up to date (R192). -/
def skewNow (s : State) : State := { s with cur := { s.cur with skew := skewOf s } }

/-- R44 to R46, R305, R321, R340: a START at a member. -/
def startMember (p : Port) (payload : Word) (lateNs : Int) (s : State) : State :=
  let l := s.link
  let k := serveNext s p lateNs
  let own := k == portStream p
  let s1 := { s with link := { portPut l p { portGet l p with start := true, startNs := lateNs, later := startLater s p lateNs }
                               with serve := k, started := true } }
  let s2 := if k != l.serve && l.started then raise srcLinkUpstreamLost s1 else s1
  if !own && k == l.serve then s2
  else
    let d := pathDelay s2 k
    let fly := d.isNone && s2.sys.addr != 63
    skewNow { s2 with
      link := { s2.link with
        startNow := if fly then s2.link.startNow else 1, startRx := payload
        phaseNs := if own then lateNs else (portGet l (streamPort k)).startNs
        stitchOfs := if s2.time.locked then 0 else BitVec.ofNat 16 (bits payload 31 16) - stitch s2 }
      time := { s2.time with flywheel := fly, flyRun := if fly then s2.time.flyRun else 0, radioSync := false
                             hopDly := match d with | some x => x | none => s2.time.hopDly } }

/-- START_RECEIVE: a member's START, another head's while listening, or the head's own over the closure (R324). A folded port
takes none (R320). -/
def execStartReceive (port : Port) (payload : Word) (lateNs : Int) (s : State) : Out :=
  done (if !linkUp s || (portGet s.link port).folded || bits payload 14 0 != 0 then s
    else if isHead s then
      if s.sys.listen then forward port [.start payload] (startMember port payload lateNs (roleConflict s))
      else { s with link := portPut s.link port { portGet s.link port with start := true, startNs := lateNs } }
    else forward port [.start payload] (startMember port payload lateNs s))

/-- R46: the expected START did not arrive. DESIGN CHOICE (log 68): none is expected before the first START of a start, so
FLYWHEEL and the counts of misses wait for it too. -/
def startMissed (s : State) : State :=
  if isHead s || !linkUp s || !s.link.started || s.link.startNow != 0 then s
  else skewNow { s with
    link := { s.link with startNow := 2, startMiss := satInc s.link.startMiss 255 }
    time := { s.time with flywheel := true, missed := satInc s.time.missed 0xFF, flyRun := s.time.flyRun + 1 } }

/-- START_MISSED (R46). -/
def execStartMissed (s : State) : Out := done (startMissed s)

/-! ### The command burst (R307) -/

/-- HEADSTATE of stitch `st`, at whole stitches `now` of this device's pack time (R307). -/
def headStateOf (w : Word) (st : BitVec 16) (now : Nat) : HeadState :=
  { mode := bits w 31 29, safety := bits w 28 27, chg := bit w 26, dsg := bit w 25, thread := bit w 24, cont := bits w 23 18
    link := bits w 17 16, stitch := st, at_ := some now }

/-- R45: a step of pack time by `d` moves with it the instants that the part counts from: the wake frames' end and the end of
the rest after a tone (R372, R325). The time of the last wake frame is what that frame carried (R372) and stays. -/
def stepTimes (d : BitVec 64) (s : State) : State :=
  { s with mirr := { s.mirr with wakeUntil := s.mirr.wakeUntil + d }
           link := { s.link with toneUntil := s.link.toneUntil + d } }

/-- R44, R45, R411: what a step of pack time to `pt` leaves of the stitch numbers before it; a first lock has no earlier step. -/
def stepNumbers (pt : BitVec 64) (s : State) : SioSt :=
  let back := (stitches s + 7 * (pt.toNat / 1000)) % 8
  let before := if s.time.locked then s.sio.steps.map (fun e => (e.1 + (pt - s.time.ptB).toNat, (e.2 + back) % 8)) else []
  { s.sio with steps := ((pt + (s.time.pt - s.time.ptB)).toNat, back) :: before.take 3 }

/-- R44, R45: pack time from the burst, at a member that holds an address. The step of the first lock moves with it what counts
in it, the stitch of a waiting recorder trigger too (R459). -/
def takePackTime (pt : BitVec 64) (s : State) : State :=
  if s.sys.addr == 63 then s
  else if !s.time.locked then
    let d : Int := (pt.toNat : Int) - s.time.ptB.toNat
    stepTimes (pt - s.time.ptB) { s with
      bob := trigStep s.time.ptB pt s.bob
      sio := stepNumbers pt s
      time := { s.time with
        locked := true, pt := pt + (s.time.pt - s.time.ptB), ptB := pt, step := BitVec.ofNat 32 (signedSat 32 d) }
      link := { s.link with stitchOfs := 0 } }
  else if s.time.ptB.toNat < pt.toNat then
    { s with
      sio := stepNumbers pt s
      time := { s.time with pt := pt + (s.time.pt - s.time.ptB), ptB := pt } }
  else s

/-- R316: the hold ends with the HEADSTATE of its stitch or of a later one. -/
def holdEnds (h : Option (BitVec 16)) (st : BitVec 16) : Option (BitVec 16) :=
  match h with
  | none => none
  | some n => if (st - n).toNat < 32768 then none else some n

/-- R317, R318: the bit of stitch `n` of a message. -/
def threadTake (n : BitVec 16) (b : Bool) (x : ThreadRx) : ThreadRx :=
  { x with acc := if b then x.acc ||| BitVec.ofNat 128 (2 ^ (127 - n.toNat % 128)) else x.acc, got := x.got + 1 }

/-- R317, R318: the period ends: its message awaits its judgement, complete when all its bits arrived. -/
def threadEnd (x : ThreadRx) : ThreadRx := { ended := some (x.acc, x.got == 128) }

/-- R307: HEADSTATE taken, once in a stitch: mode, permits, hold, container count, thread bit; the recorder trigger of
R459. -/
def takeHeadState (w : Word) (s : State) : State :=
  let h := headStateOf w (ringStitch s) (stitches s)
  let new := decide (2 ≤ h.safety) && decide (s.link.hs.safety < 2)
  { s with
    link := { s.link with
      hs := h, cont := h.cont, hold := holdEnds s.link.hold (ringStitch s)
      thrdRx := if s.link.hs.at_ == h.at_ then s.link.thrdRx else threadTake (ringStitch s) h.thread s.link.thrdRx }
    bob := if new then recTrigger 1 0x7F (stitch s) s.time.ptB (postFrames s) s.bob else s.bob }

/-- R184, R185: the carrier record taken; its period is what CARRIER1 can hold, a longer one comes as 0xFFFF (log 75). -/
def takeCarrier (a b : Word) (s : State) : State :=
  { s with cur := { s.cur with
    recNow := true, recEver := true, recValid := bit a 31, recE := 40 * s.time.ptB.toNat - bits a 23 0, recP := bits b 15 0 } }

/-- R206: the head's current word taken. -/
def takeCurrent (ws : List Word) (s : State) : State :=
  let h := ws.getD 0 0
  { s with imp := { s.imp with
    curValid := bit h 31, curMap := BitVec.ofNat 8 (bits h 7 0)
    curSubs := (List.range 8).map (fun m => toSigned 24 (bits (ws.getD (m + 1) 0) 23 0)) } }

/-- A word of type `ty` received intact (R302, R303). -/
def wordOf (ty : BitVec 4) (w : LinkWord) : Option Word := if w.ty == ty && !w.violation then some w.payload else none

/-- R307: word `k` (1 to 15) of the fixed burst, when it arrived intact as a BST word. -/
def burstWord (ws : List LinkWord) (k : Nat) : Option Word := (ws[k - 1]?).bind (wordOf 0xA)

/-- R313: the grants of the burst for this device: the GRT words that LAYOUT counts. -/
def takeGrants (layout : Word) (ws : List LinkWord) (s : State) : State :=
  let g := ((ws.take (bits layout 23 16)).filterMap (wordOf 0xC)).filterMap (fun w =>
    if bits w 31 26 == s.sys.addr.toNat && bits w 7 0 == 0 then some (bit w 25, bits w 24 16, bits w 15 8) else none)
  { s with link := { s.link with grants := s.link.grants ++ g.filter (fun x => !s.link.grants.contains x) } }

/-- R307: the burst at a member, on its serving stream: each of its fields that arrived intact. -/
def burstReceive (ws : List LinkWord) (s : State) : State :=
  let s1 := match burstWord ws 1, burstWord ws 2 with | some hi, some lo => takePackTime (hi ++ lo) s | _, _ => s
  let s2 := match burstWord ws 3 with | some w => takeHeadState w s1 | none => s1
  let s3 := match burstWord ws 4, burstWord ws 5 with | some a, some b => takeCarrier a b s2 | _, _ => s2
  let cs := ((ws.drop 5).take 9).filterMap (wordOf 0xA)
  let s4 := if cs.length = 9 then takeCurrent cs s3 else s3
  let s5 := match burstWord ws 15 with | some w => takeGrants w (ws.drop 15) s4 | none => s4
  driveB (packPermits s5)

/-! ### The container of a member (R306, R311) -/

/-- R304, R306: ns after the boundary at which the container of address `a` leaves the head. -/
def containerNs (a : Nat) : Nat := (88 + 4 * (a - 2)) * 2250 - 125

/-- R311: the first pass of a stream goes through this member on a port. -/
def firstPass (s : State) (p : Port) : Bool := portUsable s.link p && !(portGet s.link p).later

/-- R306: this member has a container: its address lies within the C of HEADSTATE. -/
def hasContainer (s : State) : Bool :=
  linkUp s && !isHead s && decide (2 ≤ s.sys.addr.toNat) && decide (s.sys.addr.toNat ≤ 62) && decide (s.sys.addr.toNat ≤ s.link.cont + 1)

/-- R32, R311: each copy of the summary is assembled as its container begins to pass: the copies that have begun by `ns`
after the boundary (log 58). -/
def sumCatch (ns : Nat) (s : State) : State :=
  if !hasContainer s then s
  else
    let due (p : Port) (d : BitVec 16) (l : List LinkWord) : Bool :=
      l.isEmpty && firstPass s p && decide (containerNs s.sys.addr.toNat + (if d == 0xFFFF then 0 else d.toNat) ≤ ns)
    { s with link := { s.link with
      sumOut := if due .l s.enum.dOut s.link.sumOut then summaryWords s else s.link.sumOut
      sumBack := if due .u s.enum.dBack s.link.sumBack then summaryWords s else s.link.sumBack } }

/-- R311: a container that arrives is this member's own, on the first pass of its stream. -/
def ownPass (p : Port) (place : BitVec 6) (s : State) : Bool := hasContainer s && place == s.sys.addr && firstPass s p

/-- R311: the copy of the stream that arrives on a port. -/
def sumCopy (p : Port) (l : LinkSt) : List LinkWord := match p with | .l => l.sumOut | .u => l.sumBack

/-- R311: the container begins to pass on a port: its copy is assembled now, if it has not been. -/
def sumTake (p : Port) (s : State) : State :=
  if !(sumCopy p s.link).isEmpty then s
  else { s with link := match p with
    | .l => { s.link with sumOut := summaryWords s }
    | .u => { s.link with sumBack := summaryWords s } }

/-! ### Summaries at the head (R312) -/

/-- The more severe of two safety states. -/
def worseSafety (a b : Safety) : Safety := if safetyCode a < safetyCode b then b else a

/-- R312: the merge of a later copy of a stitch into an earlier one. -/
def copyMerge (a b : Copy) : Copy :=
  { a with tripA := a.tripA ||| b.tripA, tripB := a.tripB ||| b.tripB, safety := worseSafety a.safety b.safety }

/-- A member's record at the head changed. -/
def setMember (a : Nat) (f : Member → Member) (s : State) : State :=
  { s with link := { s.link with members := s.link.members.modify a f } }

/-- R312, R313, R318, R334, R390: an accepted wired copy. -/
def takeCopy (p : Port) (c : Copy) (s : State) : State :=
  let a := c.addr.toNat
  let m := member s a
  let k := match m.now with | some x => copyMerge x c | none => c
  let rx := if m.now.isSome then m.threadRx else threadTake (stitch s) c.thread m.threadRx
  let heals := match m.wired with | some x => x.link != .intact && k.link == .intact | none => false
  let s1 := setMember a (fun m => { m with
    now := some k, box := 2, at63 := false, wired := some k, wiredAt := stitches s, threadRx := rx, onL := m.onL || p == .l, onU := m.onU || p == .u }) s
  let s2 := if s.enum.set.getLsbD a then packFall k s1 else s1
  { s2 with enum := { s2.enum with want := s2.enum.want || heals } }

/-- R344: what the container of an address brought back in this stitch (log 65). -/
def boxSeen (a : BitVec 6) (k : Nat) (s : State) : State := setMember a.toNat (fun (m : Member) => { m with box := max m.box k }) s

/-- R312: four words of the container of address `a` that returned to the head. -/
def summaryReceive (p : Port) (a : BitVec 6) (ws : List LinkWord) (s : State) : State :=
  let bad : State := boxSeen a 2 { s with link := { s.link with sumCrc := satInc s.link.sumCrc 0xFFFF } }
  if ws.all (fun w => w.ty == 0xF && !w.violation) then boxSeen a (if ws.length = 4 then 1 else 0) s
  else
    match copyOfWords (stitch s) a (ws.filterMap (wordOf 9)) with
    | some c => if ws.length = 4 && s.enum.map.any (fun e => e.addr == a) && a != 1 then takeCopy p c s else bad
    | none => bad

/-- SUMMARY_RECEIVE (R311, R312): the container at the place of address `place`; a member sends that of another on (R298),
and in its own, on the first pass, its summary. -/
def execSummaryReceive (port : Port) (place : BitVec 6) (words : List LinkWord) (s : State) : Out :=
  done (if !linkUp s then s
    else if !isHead s then
      if ownPass port place s then
        let s1 := sumTake port (wordsSeen port words s)
        forward port ((sumCopy port s1.link).map Sym.word) s1
      else wordsThrough port words s
    else if s.sys.sending then summaryReceive port place words (wordsSeen port words s)
    else s)

/-! ### TRIP words (R316) -/

/-- R316: a TRIP word is valid when it names the current or the previous stitch. -/
def tripValid (s : State) (w : Word) : Bool :=
  let n : BitVec 16 := BitVec.ofNat 16 (bits w 15 0)
  n == ringStitch s || n == ringStitch s - 1

/-- R316: the later of a hold and a new one. -/
def holdLater (h : Option (BitVec 16)) (n : BitVec 16) : BitVec 16 :=
  match h with
  | none => n
  | some m => if (n - m).toNat < 32768 then n else m

/-- R316, R389, R459: a TRIP word received. -/
def tripWordReceive (w : Word) (s : State) : State :=
  let l := s.link
  if tripValid s w then
    let s1 := { s with link := { l with tokOrigin := BitVec.ofNat 6 (bits w 31 26), tokCh := BitVec.ofNat 2 (bits w 25 24)
                                        tokFlags := BitVec.ofNat 8 (bits w 23 16), tokRx := satInc l.tokRx 0xFF } }
    if isHead s then
      let none_ := bits w 25 24 == 0
      let s2 := trip .tripped (BitVec.ofNat 8 (bits w 23 16)) (bit w 24 || none_) (bit w 25 || none_)
        (BitVec.ofNat 6 (bits w 31 26)) false s1
      if tripRises s.safe.state .tripped then s2
      else { s2 with bob := recTrigger 1 0x7F (stitch s) s.time.ptB (postFrames s) s2.bob }
    else
      { s1 with
        link := { s1.link with hold := some (holdLater l.hold (BitVec.ofNat 16 (bits w 15 0) + 2)) }
        bob := recTrigger 1 0x7F (stitch s) s.time.ptB (postFrames s) s1.bob }
  else raise srcTripTokenBad { s with link := { l with tokBad := satInc l.tokBad 0xFF } }

/-- TRIP_WORD_RECEIVE (R316): a member sends the word on, valid or not. -/
def execTripWordReceive (port : Port) (payload : Word) (s : State) : Out :=
  done (if linkUp s then tripWordReceive payload (forward port [.trip payload] s) else s)

/-! ### Thread messages (R317, R318, R423) -/

/-- R423: the pack seal the head computes, and whether it was formed from valid messages for every address. -/
def packSealOf (s : State) : Word × Bool :=
  let h := s.enum.h.toNat
  let one (a : Nat) : Option Word :=
    if a = 1 then some (sealGen s)
    else if s.enum.map.any (fun e => e.addr.toNat == a) then (member s a).thread.map (fun m => threadWord m 0) else none
  let l := (List.range h).map (fun i => one (i + 1))
  (crc32c (wordBytes s.enum.mapChk ++ l.flatMap (fun o => wordBytes (o.getD 0xFFFFFFFF))), l.all (fun o => o.isSome))

/-- R423: the pack seal recomputed at the end of a message period. -/
def packSealStep (s : State) : State :=
  if isHead s && s.enum.inForce then
    let (v, ok) := packSealOf s
    { s with safe := { s.safe with pseal := v, psealOk := ok } }
  else s

/-- R318: THREAD_LOST follows two invalid messages in a row of a sender. -/
def threadFollow (s : State) : State :=
  follow srcThreadLost (if isHead s then s.link.members.any (fun m => decide (2 ≤ m.badThreads)) else decide (2 ≤ s.link.thrdInval)) s

/-- R318, R345: a downstream message at a member. -/
def threadDown (m : BitVec 128) (ok : Bool) (s : State) : State :=
  let l := s.link
  if ok then
    { s with
      link := { l with thrd := some m, thrdInval := 0
                       epochBad := if threadWord m 0 == s.enum.epoch then 0 else l.epochBad + 1 }
      safe := { s.safe with pseal := threadWord m 1, psealOk := true } }
  else { s with link := { l with thrdBad := satInc l.thrdBad 0xFF, thrdInval := l.thrdInval + 1, epochBad := 0 } }

/-- R318: an upstream message at the head. -/
def threadUp (a : Nat) (m : BitVec 128) (ok : Bool) (s : State) : State :=
  if ok then setMember a (fun x => { x with thread := some m, badThreads := 0 }) s
  else setMember a (fun x => { x with badThreads := x.badThreads + 1 })
    { s with link := { s.link with thrdBad := satInc s.link.thrdBad 0xFF } }

/-- R317: the message this device sends in the period that begins. -/
def threadMessage (s : State) : BitVec 128 :=
  if isHead s then
    threadSeal ((((s.enum.epoch.toNat * 2 ^ 32 + s.safe.pseal.toNat) * 2 ^ 32 + (packWord s 5).toNat) * 2 ^ 16) +
      modeField s * 2 ^ 13 + safetyCode s.safe.state * 2 ^ 11 + linkCode s.link.state * 2 ^ 9)
  else
    let g (o : Option Nat) : Nat := o.getD 0
    let w1 : Nat := s.cal.gen * 2 ^ 31 + g s.otp.genS * 2 ^ 29 + g s.otp.genP * 2 ^ 27 + g s.otp.genC * 2 ^ 25 +
      signedSat 16 s.link.phaseNs * 2 ^ 8 + s.link.startMiss
    let w2 : Nat := modeField s * 2 ^ 13 + roleCode s.sys.role * 2 ^ 11 + linkCode s.link.state * 2 ^ 9 +
      s.cur.skew * 2 ^ 7 + (if s.sys.startDone then 64 else 0) + s.cal.status * 2 ^ 4
    threadSeal ((((sealGen s).toNat * 2 ^ 32 + Config.fwId.toNat) * 2 ^ 32 + w1) * 2 ^ 16 + w2)

/-- R318, R423: the message of sender `src` of the period that ended is judged; the head recomputes the pack seal, and
with it the message that begins. -/
def threadJudge (src : BitVec 6) (s : State) : State :=
  if isHead s then
    match (member s src.toNat).threadRx.ended with
    | none => s
    | some (m, whole) =>
      let s1 := packSealStep (threadFollow (threadUp src.toNat m (whole && threadOk m)
        (setMember src.toNat (fun x => { x with threadRx := { x.threadRx with ended := none } }) s)))
      { s1 with link := { s1.link with thrdTx := threadMessage s1 } }
  else if src == 1 then
    match s.link.thrdRx.ended with
    | none => s
    | some (m, whole) =>
      threadFollow (threadDown m (whole && threadOk m)
        { s with link := { s.link with thrdRx := { s.link.thrdRx with ended := none } } })
  else s

/-- THREAD_MESSAGE_COMPLETE (R318, R423): `src` is the sender's address; at the boundary that ends its period. -/
def execThreadMessageComplete (src : BitVec 6) (s : State) : Out :=
  done (if linkUp s && s.time.fresh then threadJudge src s else s)

/-- R317, R318 at a boundary: a period ends: the messages of the map's members, or the head's, await their judgement. -/
def threadPeriodEnd (s : State) : State :=
  if (ringStitch s).toNat % 128 != 0 then s
  else if isHead s then
    { s with link := { s.link with members := s.link.members.zipIdx.map (fun e =>
        { e.1 with threadRx := if s.enum.map.any (fun x => x.addr.toNat == e.2) && e.2 != 1 then threadEnd e.1.threadRx else {} }) } }
  else { s with link := { s.link with thrdRx := if s.link.started then threadEnd s.link.thrdRx else {} } }

/-- R317, R423: the start of a message period, at its boundary. -/
def threadPeriod (s : State) : State :=
  let s1 := packSealStep s
  { s1 with link := { s1.link with thrdTx := threadMessage s1, startMiss := 0 } }

/-- R317 at a boundary: a period begins, or the link has come up within one and a message is formed for its rest. -/
def threadBegin (s : State) : State :=
  if !linkUp s then s
  else if (ringStitch s).toNat % 128 = 0 then threadPeriod s
  else if s.link.thrdTx = 0 then { s with link := { s.link with thrdTx := threadMessage s } }
  else s

/-! ### READY and unfolding (R323) -/

/-- R323: a folded port with 16 clean stitches sends READY, from a boundary on. -/
def readyStart (p : Port) (s : State) : State :=
  let q := portGet s.link p
  if s.link.started && q.folded && q.carrier && !q.readyTx && decide (16 ≤ q.cleanRun) then
    { s with link := portPut s.link p { q with readyTx := true, idle := readyWord } }
  else s

/-- READY_START (R323). -/
def execReadyStart (port : Port) (s : State) : Out := done (if linkUp s && s.time.fresh && !isHead s then readyStart port s else s)

/-- R323: a folded port that sent and received READY throughout the stitch that ended unfolds. -/
def unfoldPort (p : Port) (s : State) : State :=
  let q := portGet s.link p
  if q.folded && q.carrier && q.readySent && q.readyRx then
    let l := { s.link with unfoldCnt := satInc s.link.unfoldCnt 0xFFFF }
    { s with link := portPut l p { q with
      folded := false, readyTx := false, readySent := false, changed := false, idle := idleWord } }
  else s

/-- UNFOLD (R323). -/
def execUnfold (port : Port) (s : State) : Out := done (if linkUp s && s.time.fresh && !isHead s then unfoldPort port s else s)

/-! ### The link at a boundary (R87, R323, R324, R326) -/

/-- R302: the word errors of a port in a stitch: those of the commands' words and the rest. -/
def portErrs (q : PortSt) (rest : Nat) : Nat := q.errNow + rest

/-- R302, R319, R323, R327: one port at the end of a stitch; `rest` word errors lay in words that no command carried. -/
def portBoundary (q : PortSt) (ready : Option Word) (rest : Nat) : PortSt :=
  let n := portErrs q rest
  { q with
    clean := if !q.carrier then 0 else if n != 0 || q.gap then q.clean else satInc q.clean 255
    cleanRun := if !q.carrier || n != 0 || q.gap then 0 else satInc q.cleanRun 255
    werr := satAdd q.werr rest 0xFF, gap := !q.carrier, errNow := 0
    readySent := q.readyTx, readyRx := ready == some readyWord.payload, start := false, later := false }

/-- R87: the state a member reports for the stitch that ended: one START and no folded port meets none of the three
definitions and is reported as INTACT (log 57). -/
def linkNext (l : LinkSt) : LinkState :=
  if !l.portL.start && !l.portU.start then .split else if l.portL.folded || l.portU.folded then .folded else .intact

/-- R87: the worst state over the members of the safety set, at the head. DESIGN CHOICE (log 80): a member whose copy is absent counts
with the last copy accepted. -/
def linkWorst (s : State) : LinkState :=
  let l := (setAddrs s).filterMap (fun a => (member s a).wired.map (fun c => c.link))
  if l.any (fun x => x == .split) then .split else if l.any (fun x => x == .folded) then .folded else .intact

/-- R312: members of the map with no accepted copy in the stitch that ended. -/
def absentCount (s : State) : Nat := (s.enum.map.filter (fun e => e.addr != 1 && (member s e.addr.toNat).now.isNone)).length

/-- R324, R334: the closure at the head in the stitch that ended. -/
def closureStep (i : BoundaryIn) (s : State) : State :=
  let closed := i.closeOut.isSome && i.closeBack.isSome
  let rises := closed && !s.link.ringClosed
  let turns := closed != s.link.ringClosed
  let s1 := { s with
    link := { s.link with ringClosed := closed
                          loopOut := i.closeOut.getD s.link.loopOut, loopBack := i.closeBack.getD s.link.loopBack }
    enum := { s.enum with want := s.enum.want || rises
                          aborted := s.enum.aborted || (turns && decide (s.enum.phase ≠ 0)) } }
  follow srcRingOpen (!closed) s1

/-- What the head keeps of a member at the end of a stitch (R312, R313). -/
def memberBoundary (m : Member) : Member :=
  { m with now := none, wasL := m.onL, wasU := m.onU, onL := false, onU := false, box := 0, at63 := m.at63 || m.box == 1 }

/-- The link of the stitch that ended. -/
def linkBoundary (i : BoundaryIn) (s : State) : State :=
  if !linkUp s then s
  else
    let l := s.link
    let st := if isHead s then l.state else linkNext l
    let split := !isHead s && st == .split && l.state != .split
    let absent := if isHead s && s.sys.sending then absentCount s else 0
    let s1 := { s with link := { l with
      portL := portBoundary l.portL i.readyL i.werrL.toNat, portU := portBoundary l.portU i.readyU i.werrU.toNat
      state := st, serve := if st == .split && !isHead s then 0 else l.serve
      startNow := 0, grants := [], replyTx := [], admitTx := none, sumOut := [], sumBack := [], fwdTx := []
      tripTx := l.tripTx.filter (fun t => decide ((t.stitch + 1 - stitch s).toNat ≤ 2))
      sumAbsent := satAdd l.sumAbsent absent 0xFFFF, members := l.members.map memberBoundary } }
    let s2 := raiseIf (decide (8 ≤ portErrs l.portL i.werrL.toNat) || decide (8 ≤ portErrs l.portU i.werrU.toNat)) srcLinkWordErr
      (threadPeriodEnd s1)
    let s3 := raiseIf (split && l.serve != 0) srcLinkUpstreamLost (raiseIf split srcLinkSplit s2)
    if isHead s then
      let s4 := if s.sys.sending then searchAbort (stitches s - 1) (closureStep i s3) else s3
      { s4 with link := { s4.link with state := linkWorst s4 } }
    else s3

/-! ### What the head sends (R307) and the container (R311) -/

/-- R307: HEADSTATE. -/
def headStateWord (s : State) : Word :=
  place (modeField s) 29 ||| place (safetyCode s.safe.state) 27 ||| flag (packChg s) 26 ||| flag (packDsg s) 25 |||
    flag (threadBit s) 24 ||| place s.link.cont 18 ||| place (linkCode s.link.state) 16

/-- R206, R307: the slots and sub-samples of the head's window in the previous stitch. -/
def currentWords (s : State) : List Word :=
  let m := s.meas
  let ok := fbit s .syncIcfg 0 && !s.cur.isnsLost && m.prevModOn
  let on (k : Nat) : Bool := inWindow { m with mwFirst := m.prevFirst, mwLen := m.prevLen } k && decide (k < m.prevShunt.length)
  (flag ok 31 ||| (mapBits 8 on)) ::
    (List.range 8).map (fun k => if on k then place (u24 (m.prevShunt.getD k ⟨0, 0⟩).v) 0 else 0)

/-- R307: the fixed burst, words 1 to 15, for `ngrant` grants and `cmdw` words in the command region. -/
def burstWords (s : State) (ngrant cmdw : Nat) : List Word :=
  let b : Nat := 40 * s.time.ptB.toNat
  let e : Nat := s.cur.edge.getD b
  [(s.time.ptB >>> 32).setWidth 32, s.time.ptB.setWidth 32, headStateWord s,
   flag s.cur.recValid 31 ||| place (min (b - e) 0xFFFFFF) 0, place s.cur.recP 0] ++
  currentWords s ++ [place ngrant 16 ||| place cmdw 0]

/-- R44, R305: the payload of the head's START: stitch number and MIRROR. -/
def startWord (s : State) : Word := place (stitch s).toNat 16 ||| flag (stitches s % 10 == 0) 15

end Sys2Proof.Machine
end

