-- ==== Sys2Proof/Machine/Startup.lean ====
section
/-! DEFINITION. Mode requests and changes, the start-up path, RST_N, thermal shutdown, core restart and wake
(03_modes_startup; R290 to R292; R325; R36). -/

namespace Sys2Proof.Machine

/-! ### What survives (R86, R105, R106, R483) -/

/-- HEAD_EN as a start finds it (R507). -/
def headEn (s : State) : Bool := bit (cfgGet (bootCfg (otpJudge s.otp) s.sys.headEnKept s.sys.xtalKept) .roleCfg) 0

/-- The safety state as the keep-alive domain holds it: TRIPPED and LOCKOUT survive (R86). -/
def safeKept (x : SafeSt) : SafeSt :=
  { state := if x.state == .degraded then .normal else x.state, byDeadline := x.byDeadline, degEntries := x.degEntries
    causeStitch := x.causeStitch, causeFlags := x.causeFlags, causeA := x.causeA, causeB := x.causeB
    causeOrigin := x.causeOrigin }

/-- The power block, part of it kept in keep-alive (R485). -/
def pwrKept (p : PwrSt) : PwrSt :=
  { p with vreg := 0, vregNow := 0, burst := false, buckRun := 0, buckOk := 0, buckBad := false, buckFault := false
           chg := 0, probing := false, probeIn := 0, vbakShown := 0, ichg := 0, keeperOut := false }

/-! ### The selector (R484) -/

/-- R484, R492: the backup element can feed the domain. -/
def bakUsable (s : State) : Bool :=
  fbit s .kaCfg 1 && !s.pwr.bakAbsent && !s.pwr.bakOv && decide (2400 ≤ s.pwr.vbak)

/-- R490: records STACK_LOST of a hand-over, queued for the backup element and not begun, wait for the core release. -/
def lostDefer (s : State) : State :=
  let begun := if s.jrnl.busy == some true then s.jrnl.mand.take 1 else []
  let rest := if s.jrnl.busy == some true then s.jrnl.mand.drop 1 else s.jrnl.mand
  let out := rest.filter (fun r => r.code == 4)
  { s with jrnl := { s.jrnl with mand := begun ++ rest.filter (fun r => r.code != 4) }
           pwr := { s.pwr with lostAtRelease := s.pwr.lostAtRelease ++ out.map (fun r => (r.pt, 1)) } }

/-- R484, R499: VKA moves to VBAK (1) or to the keeper (2); the time on VBAK counts. -/
def srcSet (k : Nat) (s : State) : State :=
  let p := s.pwr
  let spent : Nat := match p.bakFrom with | some t => (s.time.pt - t).toNat | none => 0
  if k == p.src then s
  else { s with pwr := { p with
    src := k, bakFrom := if k == 1 then some s.time.pt else none
    bakSum := if k == 1 then some (p.bakSum.getD 0) else p.bakSum.map (fun n => n + spent) } }

/-- R491, R499: VKA moves back to VREG; `KA.BAKTIME` takes the time spent on VBAK, if any was. -/
def srcVreg (s : State) : State :=
  let s1 := srcSet 0 s
  { s1 with pwr := { s1.pwr with
    bakSum := none, bakFrom := none
    bakTime := match s1.pwr.bakSum with
      | some n => BitVec.ofNat 32 (min (n / 1000000) 0xFFFFFFFF) | none => s1.pwr.bakTime } }

/-- R484: while VREG does not feed VKA, the source in SHIP is the keeper while it carries VKA, and otherwise the backup element
when it is usable, then the keeper, which carries no self-refresh and no journal write. -/
def srcFollow (s : State) : State :=
  if s.pwr.src == 0 then s
  else if bakUsable s && (s.sys.mode != some .ship || s.pwr.keeperOut) then srcSet 1 s
  else if s.pwr.src == 1 then
    lostDefer (srcSet 2 { s with bob := { s.bob with refresh := false } })
  else s

/-- R264: `CAL.TV` after a start: a verification that ran, or waited, was abandoned; the mark stays over the further
steps of a start. DESIGN CHOICE (log 82): an abandonment before a SLEEP or SHIP shows after the wake too. -/
def calKept (s : State) : CalSt :=
  let off := match s.sys.phase with | .coreOn | .coreRestart => false | _ => true
  if s.diag.tvLeft.isSome || s.diag.tvPend then { result := 3, tvSt := stitch s }
  else if off && s.cal.result == 3 then { result := 3, tvSt := s.cal.tvSt } else {}

/-- R422, R424, R503: what became of a generation whose programming a hold has ended shows in SRES or PRES until the start after the
record of R514. -/
def safeCut (s : State) (x : SafeSt) : SafeSt :=
  match s.otp.cut with
  | some (3, g) => { x with sres := if genValid s.otp 3 g then 2 else 3 }
  | some (4, g) => { x with pres := if genValid s.otp 4 g then 2 else 3 }
  | _ => x

/-- R517: `OTP.PROG` after a start; the result of a generation whose programming a hold has ended still shows (log 33). -/
def otpKept (o : OtpSt) : OtpSt := { o with block := 0, gen := 0, words := 0, result := if o.cut.isSome then o.result else 0 }

/-- The state that is left when everything outside the keep-alive domain is held in reset. Configuration words are
kept only for what the keep-alive domain itself uses of them; step 4 of R97 loads them again. -/
def kaOnly (s : State) : State :=
  { pending := s.pending, free := s.free, cfg := s.cfg, cfgW := s.cfg
    sys := { phase := s.sys.phase, mode := none, holdMs := s.sys.holdMs, headEnKept := s.sys.headEnKept
             xtalKept := s.sys.xtalKept, lockOpen := s.sys.lockOpen, latchAtRelease := s.sys.latchAtRelease
             wake := s.sys.wake, rstLow := s.sys.rstLow, rstAtStart := s.sys.rstAtStart, vregOk := s.sys.vregOk
             rstAfter := s.sys.rstAfter, rstMs := s.sys.rstMs, startCause := s.sys.startCause, role := s.sys.role }
    time := { pt := s.time.pt, ptB := s.time.ptB, ptHi := (s.time.pt >>> 32).setWidth 32, snapCtr := s.time.snapCtr }
    link := { toneTx := s.link.toneTx, toneUntil := s.link.toneUntil, state := s.link.state }
    enum := { epochCtr := s.enum.epochCtr }, cal := calKept s
    mirr := { lastWake := s.mirr.lastWake, wakeTx := s.mirr.wakeTx, wakeUntil := s.mirr.wakeUntil
              wakeFrame := s.mirr.wakeFrame }
    sio := { tpOn := false, tpa := false, tpb := false }, temp := { vtref := false }
    thrm := { sdCnt := s.thrm.sdCnt, sdCause := s.thrm.sdCause, sdIdx := s.thrm.sdIdx, roChar := s.thrm.roChar }
    safe := safeCut s (safeKept s.safe), bob := s.bob, pwr := pwrKept s.pwr, otp := otpKept s.otp
    jrnl := { jrnlScan s.jrnl with wear := false } }

/-- R472: the bobbin enters or stays in self-refresh when retention is enabled and its supply can carry it. -/
def recHold (can : Bool) (s : State) : State :=
  let runs := match s.sys.phase with | .coreOn | .coreRestart => true | _ => false
  { s with bob := { s.bob with refresh := (runs || s.bob.refresh) && can && fbit s .kaCfg 0 && s.pwr.retOk } }

/-- A hold of everything outside the keep-alive domain: the bobbin frozen with its cause, programming cut short, the
permits and test-pulse outputs low, both transmitters idle (R105, R461, R503). WAKE_OUT is low while RST_N holds the
part with VREG present (R51, R495; log 60); thermal shutdown leaves the thermal monitor running (R290, R293), and its hold
shows the rail faults that come in it (R497). The wake that a breath check owes outlasts no other hold (R494). -/
def holdReset (ph : Phase) (cause : Nat) (can : Bool) (s : State) : State :=
  let s1 := recHold can { s with bob := recFreeze cause s.bob }
  let s2 := kaOnly (otpCut s1)
  { s2 with
    sys := { s2.sys with phase := ph }
    link := { s2.link with toneTx := false }, mirr := { s2.mirr with wakeTx := false, wakeFrame := [] }
    pwr := { s2.pwr with wakeOut := s2.pwr.wakeOut && !(s2.sys.rstLow && ph != .handedOver)
                         breathWake := s2.pwr.breathWake && ph == .thermalHeld, railOut := false
                         rail := if ph == .thermalHeld then 0 else s2.pwr.rail }
    thrm := if ph == .thermalHeld then { s.thrm with cool := 0, sdWait := false } else s2.thrm }

/-- A start that runs the start-up path (R102): from step 1, 2 or 3, with its cause; an RST_N low that holds it at step
1 is that of R98. WAKE_OUT rises at a head that RST_N does not hold (R51, R495). DEGRADED entries clear with causes 0 and 5
(R401); the cut of R487 and the absence of R488 are judged anew (R499). `SYS.WAKE.RST` tells of the last start alone, so each
start clears it (R110). DESIGN CHOICE (log 82): the other bits of earlier wakes stay at a start by a wake, and no other start keeps
them. -/
def startPath (cause : Nat) (s : State) : State :=
  let s1 := kaOnly s
  let keepLink := cause == 4 || cause == 5
  srcFollow { s1 with
    sys := { s1.sys with phase := .softStart, startCause := cause, vregOk := false, rstAtStart := s.sys.rstLow
                         wake := if keepLink then s1.sys.wake &&& 0x1F else 0 }
    link := { s1.link with state := if keepLink then s1.link.state else .intact }
    safe := { s1.safe with degEntries := if cause == 0 || cause == 5 then 0 else s1.safe.degEntries }
    pwr := { s1.pwr with wakeOut := headEn s && !s.sys.rstLow, cutForGood := false, restarted := false, rail := 0
                         railOut := false, breathWake := false, bakOv := false, bakAbsent := false } }

/-- R283: the characteristics of the ring oscillators in a selection of trims: words W40 to W47 of its generation. -/
def roChars (o : OtpSt) (c : CalSt) : List (Option Word) :=
  (List.range 8).map (fun k => if c.status = 2 then none else some ((genWords o 1 c.gen).getD (40 + k) 0))

/-- R97 steps 4 to 6, R504 to R507, R260, R411, R540: OTP selected, trims loaded, HWSL armed, fills begun. -/
def stepFour (s0 : State) : State :=
  let s := srcVreg s0
  let o := otpJudge s.otp
  let c := bootCfg o s.sys.headEnKept s.sys.xtalKept
  let head := bit (cfgGet c .roleCfg) 0
  let cal := trimSelect o
  { s with
    otp := o, cfg := c, cfgW := c, cal := { cal with result := s.cal.result, tvSt := s.cal.tvSt }
    thrm := { s.thrm with roChar := roChars o cal }
    enum := { s.enum with epoch := if head then s.enum.epochCtr else 0 }
    sys := { s.sys with phase := .filled, role := if head then .head else .member, addr := if head then 1 else 63, rstAtStart := false }
    sio := siBegin .b { s.sio with tpOn := true, tpa := true, tpb := true }, temp := { s.temp with vtref := true }
    safe := { s.safe with sealed := o.genS.isSome, sealNow := sealOf c }
    pwr := { s.pwr with xtalClk := bit (cfgGet c .kaCfg) 3 && !s.pwr.xtalFail } }

/-! ### Power-up (R97, R98) -/

/-- STACK_POWER_UP (R97 step 1). In SHIP the keeper carries VKA again (R484). -/
def execStackPowerUp (s : State) : Out :=
  done (if s.sys.phase == .unpowered then startPath 0 s
    else if s.sys.mode == some .ship && s.pwr.keeperOut then
      srcFollow { s with pwr := { s.pwr with keeperOut := false } }
    else s)

/-- STACK_POWER_DOWN (R97): the path stops and the part holds itself in reset. -/
def execStackPowerDown (s : State) : Out :=
  done (match s.sys.phase with
    | .unpowered | .handedOver => s
    | _ => if s.sys.mode == some .ship then s else holdReset .unpowered 8 true s)

/-- VREG_QUALIFIED (R97 steps 3 to 6; R98: an RST_N low holds the path before step 4). -/
def execVregQualified (s : State) : Out :=
  done (match s.sys.phase with
    | .softStart =>
      let s1 := srcVreg { s with sys := { s.sys with vregOk := true } }
      if s.sys.rstLow then s1 else stepFour s1
    | .resetHeld => srcVreg { s with sys := { s.sys with vregOk := true } }
    | _ => s)

/-! ### Core release (R97 step 7, R99, R450, R508, R514) -/

/-- R99, R466: the fill, or the kept bobbin. -/
def fillStep (s : State) : State :=
  if s.bob.refresh && s.pwr.retOk then
    { s with bob := recRestart s.bob, sys := { s.sys with recKept := true } }
  else { s with bob := recFill s.bob, pwr := { s.pwr with retOk := true }, sys := { s.sys with recKept := false } }

/-- R490, R514: the STACK_LOST records that waited for the core, each with the source to which its hand-over went. -/
def lostRecord (s : State) : State :=
  let r := s.pwr.lostAtRelease.map (fun e => { jrec s 0x04 true srcStackLost (0x80000000 ||| BitVec.ofNat 32 e.2) 0 3 with pt := e.1 })
  { s with pwr := { s.pwr with lostAtRelease := [] }, jrnl := { s.jrnl with mand := s.jrnl.mand ++ r } }

/-- R508: a generation that is used and not valid, by the byte offset of its header. -/
def genRaise (bad : Option Nat) (s : State) : State :=
  match bad with
  | some o => raiseCtx srcOtpGenInvalid { kind := 6, addr := 8 * o, access := 1 } s
  | none => s

/-- R450, R508: what the collector latches at core release. -/
def releaseEvents (s : State) : State :=
  let s1 := s.sys.latchAtRelease.foldl (fun s n => raise n s) s
  let s2 := { s1 with sys := { s1.sys with latchAtRelease := [] }
                      col := { s1.col with kept := s.sys.latchAtRelease.foldl (fun m n => m ||| srcBit n) s1.col.kept } }
  let s3 := genRaise s2.otp.badGen s2
  follow srcBakAbsent s3.pwr.bakAbsent (follow srcBakOv s3.pwr.bakOv s3)

/-- The core released after the start-up path's fills. -/
def coreStart (s : State) : State :=
  let s1 := releaseEvents (calRelease (otpCutRecord (lostRecord (fillStep s))))
  { s1 with sys := { s1.sys with phase := .coreOn, mode := none, ackInit := true, listen := isHead s1
                                 listenFrom := s1.time.pt, passLeft := 64 }
            sio := siBegin .a s1.sio }

/-- R253, R263, R264: what the checks and the trims lose at a core restart: the patrol faults end, the ramp and a
verification do not go on; the DACs are untouched (log 61). DESIGN CHOICE (log 82): the restoration of R266 goes on after it. -/
def coreChecks (s : State) : State :=
  let s1 := verifyAbandon s
  follow srcRomParity false (follow srcSramUe false (follow srcSramCe false { s1 with
    diag := { s1.diag with rom := false, ramUe := false, ce := {} }, cal := { s1.cal with ramp := false, checkDue := false } }))

/-- R36, R102: the core released after a core restart. SRAM, the head's map with it, starts empty (R329); the head draws
a new SESSION (R361), and no mirror fault stands (R375). A generation that is being programmed is used and not yet valid (R503,
R508). -/
def coreBack (s0 : State) : State :=
  let s := genRaise (badGenOf (otpSoFar s0.otp)) (coreChecks s0)
  mirrorFollow { s with
    sys := { s.sys with phase := .coreOn, mode := s.sys.modeKept, modeKept := none, startCause := 3, ackInit := true }
    sio := siBegin .a s.sio
    meas := { s.meas with cells := s.meas.cells.map (fun (c : Cell) => { cellRestart c with stale := true, code := 0xFFF0 }), published := true }
    temp := tsRunsEnd s.temp
    imp := impRestart s.imp, jrnl := jrnlLose s.jrnl
    cur := { s.cur with recEver := false, recNow := false, recPrev := false, recMiss := 0, predHeld := false }
    safe := { s.safe with misses := 0, token := none }
    mirr := if isHead s then { s.mirr with session := 0 } else s.mirr
    enum := if isHead s then {
      epoch := s.enum.epochCtr, epochCtr := s.enum.epochCtr, want := s.sys.sending
      prior := if s.enum.inForce then s.enum.map ++ s.enum.reserved else s.enum.prior } else s.enum }

/-- CORE_RELEASE (R97 step 7; after a core restart, R102). -/
def execCoreRelease (s : State) : Out :=
  done (match s.sys.phase with | .filled => coreStart s | .coreRestart => coreBack s | _ => s)

/-- R89: the end of the listening time: 5 ms + 1 ms × bits [3:0] of the unique ID after core release. -/
def listenEnd (s : State) : Nat := s.sys.listenFrom.toNat + 5000 + 1000 * (s.otp.uid.toNat % 16)

/-- HEAD_LISTEN_END (R89, R101): the listening time is over; stitch-start symbols go out from the next boundary. -/
def execHeadListenEnd (s : State) : Out :=
  done (if coreRuns s && isHead s && s.sys.listen && decide (listenEnd s ≤ s.time.pt.toNat) then
    { s with sys := { s.sys with listen := false, sendDue := 1 } } else s)

/-- R101 at a boundary: the first one after the listening time sends the first stitch-start symbol, and the search
follows one boundary later. -/
def sendStep (s0 : State) : State :=
  let s := if isHead s0 && s0.sys.listen && decide (listenEnd s0 < s0.time.pt.toNat) then
    { s0 with sys := { s0.sys with listen := false, sendDue := 1 } } else s0
  match s.sys.sendDue with
  | 1 => { s with sys := { s.sys with sending := true, sendDue := 2 } }
  | 2 => { s with sys := { s.sys with sendDue := 0 }, enum := { s.enum with want := true } }
  | _ => s

/-- R97 step 7, R100: the first boundary after release begins the mode and the start-up pass. -/
def modeBegin (s : State) : State :=
  if s.sys.mode.isNone && s.sys.phase == .coreOn then
    { s with
      sys := { s.sys with mode := some (firstMode s)
                          passRun := true, passLeft := 64 }
      bob := recMode (s.sys.startCause != 4 && s.otp.genS.isNone) s.bob
      diag := { s.diag with unit := some (passUnit 0 s) } }
  else s

/-- R100: the stitches left in the start-up pass. -/
def passStep (s : State) : State :=
  if s.sys.passRun then { s with sys := { s.sys with passLeft := s.sys.passLeft - 1 } } else s

/-- R100, R248: both activities of the start-up pass are complete. -/
def passComplete (s : State) : State :=
  if s.sys.passRun && s.sys.rampDone && s.sys.owDone then
    { s with sys := { s.sys with startDone := true, passRun := false } }
  else s

/-- START_PASS_COMPLETE (R100). -/
def execStartPassComplete (s : State) : Out := done (if coreRuns s then rebegin (passComplete s) else s)

/-! ### Mode requests (R79 to R82, R537) -/

/-- R333: the tacked map matches the commissioned map. -/
def mapOk (s : State) : Bool :=
  s.enum.inForce && s.otp.genP.isSome && s.enum.mapChk == packWord s 5 &&
    s.enum.map.all (fun e => s.enum.set.getLsbD e.addr.toNat)

/-- R424: the head's pack seal equals the commissioned one and both states are valid. -/
def psealMatch (s : State) : Bool := s.safe.psealOk && s.otp.genP.isSome && s.safe.pseal == packWord s 7

/-- R82, R332: the conditions a device judges on its own; 0, or BUSY when only START_DONE fails, or SAFE_LOCK. A member
outside the safety set does not enter RUN (log 55). -/
def runOwn (s : State) : Nat :=
  if s.otp.genS.isNone || s.sys.addr == 63 || tripped s || (!isHead s && !inSet s) then 0xA
  else if s.sys.startDone then 0 else 5

/-- R82: the conditions on every device of the safety set, at the head. -/
def runAll (s : State) : Nat :=
  let a := setAddrs s
  let seals := mapOk s && psealMatch s && !(a.any (fun k => (copiesOf s k).any copyTripped))
  let up := a.all (fun k => match (member s k).thread with | some m => m.getLsbD 22 | none => false)
  if runOwn s = 0xA || !seals then 0xA else if runOwn s = 0 && up then 0 else 5

/-- R110: the mode of a code. -/
def modeOf (n : Nat) : Option Mode :=
  match n with
  | 0 => some .ship | 1 => some .sleep | 2 => some .standby | 3 => some .commission | 4 => some .run | 7 => some .factory
  | _ => none

/-- R79: the transition is listed for this kind of request, and R80. DESIGN CHOICE (log 82): FACTORY also before the first boundary,
when no mode is in force yet. -/
def modeListed (s : State) (tgt : Mode) (bcast : Bool) : Bool :=
  match s.sys.mode, tgt with
  | _, .factory => s.sys.lockOpen
  | some .standby, .commission | some .commission, .standby => true
  | some .standby, .run | some .run, .standby | some .standby, .sleep | some .standby, .ship | some .commission, .ship => bcast
  | some .factory, .standby => !bcast
  | some m, t => m == t && (bcast || !(t == .run || t == .sleep || t == .ship))
  | none, _ => false

/-- R96: a member at address 63 ignores broadcast requests for RUN, SLEEP and SHIP. -/
def modeIgnored (s : State) (tgt : Mode) (bcast : Bool) : Bool :=
  bcast && s.sys.addr == 63 && (tgt == .run || tgt == .sleep || tgt == .ship)

/-- R537 with R79 and R82; `atHead` asks for the conditions on every device of the safety set. DESIGN CHOICE (log 82): a request in a
broadcast that waits for its boundary is no pending change (R81). -/
def modeJudge (s : State) (v : Word) (bcast atHead : Bool) : Nat :=
  match modeOf (bits v 2 0) with
  | none => 1
  | some t =>
    if modeIgnored s t bcast then 0
    else if s.sys.modeNext.isSome || otpBusy s then 5
    else if !modeListed s t bcast then 3
    else if s.sys.mode == some t then 0
    else match s.sys.mode, t with
      | some .commission, .standby => if s.otp.genS.isSome then 0 else 0xA
      | some .standby, .run => if atHead then runAll s else runOwn s
      | some .standby, .sleep => if s.sys.wakePend then 5 else 0
      | _, _ => 0

/-- An accepted mode request awaits its boundary (R29); `now` when it applies at the boundary that has come. -/
def modeAccept (v : Word) (bcast now : Bool) (s : State) : State :=
  match modeOf (bits v 2 0) with
  | none => s
  | some t =>
    if s.sys.mode == some t || modeIgnored s t bcast then s
    else { s with sys := { s.sys with modeNext := some t, modeDue := now } }

/-! ### The change itself (R79, R84, R91, R220, R420) -/

/-- R170: a change of the filter restarts it in every published cell. -/
def cellsFollow (s : State) : MeasSt :=
  { s.meas with cells := s.meas.cells.zipIdx.map (fun (e : Cell × Nat) =>
      if cellPub (planView s) e.2 then { e.1 with prime := true, hist := e.1.hist || e.1.started } else e.1) }

/-- R62: what a change of NCELL in force ends: XDIS and open wires of cells that are no longer populated, and their sources
where nothing else stands. -/
def ncellFollow (s : State) : State :=
  let cells := s.meas.cells.zipIdx.map (fun (e : Cell × Nat) =>
    if populated s e.2 then e.1 else { cellDiscard e.1 with xdis := false })
  let s1 := { s with meas := { s.meas with cells := cells }
                     diag := { s.diag with owPin := s.diag.owPin &&& BitVec.ofNat 33 (2 ^ (ncell s + 1) - 1) } }
  let end_ (src : Nat) (was stands : Bool) (s : State) : State := if was && !stands then stand src false s else s
  end_ srcXdis (xdisMap s.meas != 0) (xdisMap s1.meas != 0)
    (end_ srcOpenWire (s.diag.owPin != 0) (s1.diag.owPin != 0) s1)

/-- R62, R170, R209, R419: what a change of the values in force restarts or ends: the filters, the tracker, what stands on
cells no longer populated, the level that a merge left a source whose assigned level changes (R440); and the seal of the values
in force. -/
def cfgFollow (old : Cfg) (s : State) : State :=
  let k (c : Cfg) : Nat := bits (cfgGet c .measFilt) 3 0
  let w (c : Cfg) : Nat := bits (cfgGet c .impCfg) 3 0
  let en (c : Cfg) : Bool := bit (cfgGet c .impCfg) 8
  let n (c : Cfg) : Nat := bits (cfgGet c .safeHarness) 5 0
  let held (e : Nat × Nat) : Nat := if assigned old e.2 == assigned s.cfg e.2 then e.1 else 0
  let s0 := if n old == n s.cfg then s else ncellFollow s
  { s0 with
    meas := if k old == k s.cfg then s0.meas else cellsFollow s0
    col := { s0.col with effMin := s0.col.effMin.zipIdx.map held }
    imp := if w old == w s.cfg && (en old || !en s.cfg) then s.imp else impRestart s.imp
    safe := { s.safe with sealNow := sealOf s.cfg } }

/-- R420: the sealed fields reloaded when a device leaves COMMISSION unsealed, with all that a change of them brings. -/
def reseal (s : State) : State :=
  match s.otp.genS with
  | some g =>
    if inMode s .commission && !s.safe.sealed then
      let ws := (genWords s.otp 3 g).drop 1
      let c := setLoad sealRegs ws s.cfg
      cfgFollow s.cfg { s with cfg := c, cfgW := setLoad sealRegs ws s.cfgW
                               safe := { s.safe with sealed := true, unsealPend := false } }
    else s
  | none => s

/-- The parts of a change between modes in which the core runs. -/
def modeSwitch (m : Mode) (s : State) : State :=
  let streams := m == .commission || m == .run
  let s1 := verifyAbandon (reseal s)
  let bal := if inMode s .run then { tmrClear s1.bal with sw := 0 } else s1.bal
  let s2 := { s1 with
    sys := { s1.sys with mode := some m, modeNext := none, modeDue := false }
    bal := bal, diag := diagMode s1.diag, bob := recMode streams s1.bob
    imp := if streams then impRestart s1.imp else s1.imp }
  let s3 := if s2.safe.state == .normal && (m == .standby || m == .commission || m == .run) && degCause s2 then degEnter s2 else s2
  rebegin (driveB (packPermits s3))

/-- R84, R86, R111, R461, R495: entry to SLEEP or SHIP. -/
def modeLow (m : Mode) (s : State) : State :=
  let s1 := otpCut (verifyAbandon (reseal s))
  let r := if m == .sleep then recFreeze 7 s1.bob else recMode false s1.bob
  { s1 with
    sys := { s1.sys with phase := .lowPower, mode := some m, modeNext := none, modeDue := false, wakePend := false
                         listen := false, sending := false, sendDue := 0 }
    host := {}, cfg := cfgSet s1.cfg .hostCfg 1, cfgW := cfgSet s1.cfgW .hostCfg 1
    bob := { r with refresh := m == .sleep && fbit s1 .kaCfg 0 && s1.pwr.retOk }
    bal := { tmrClear s1.bal with sw := 0 }, diag := diagMode s1.diag
    safe := { s1.safe with state := if s1.safe.state == .degraded then .normal else s1.safe.state, pins := 0 }
    sio := { s1.sio with tpOn := false, tpa := false, tpb := false }, temp := { s1.temp with vtref := false }
    pwr := { s1.pwr with wakeOut := false, chg := 0, probing := false, probeIn := 0, burst := m == .sleep
                         src := if m == .ship then 2 else s1.pwr.src } }

/-- R102: exit from FACTORY runs the start-up path from step 4; programming ends with the mode (R3, R503). -/
def factoryExit (s0 : State) : State :=
  let s := otpCut s0
  let s1 := startPath 6 { s with bob := { s.bob with refresh := false } }
  stepFour { s1 with sys := { s1.sys with vregOk := true } }

/-- R84, R86, R102: the change stops the core or starts it again. -/
def modeEnds (m : Mode) (s : State) : Bool := m == .sleep || m == .ship || (inMode s .factory && m == .standby)

/-- The pending change at its boundary. FACTORY is not entered with the lock closed (R54): a request accepted before it closed
lapses (log 59). DESIGN CHOICE (log 82): the steps of R290 run to the held reset, so no change that stops the core cuts them. -/
def modeApply (s : State) : State :=
  match s.sys.modeNext, s.sys.modeDue with
  | some m, true =>
    if s.thrm.sdWait && modeEnds m s then s
    else if m == .factory && !s.sys.lockOpen then { s with sys := { s.sys with modeNext := none, modeDue := false } }
    else if inMode s .factory && m == .standby then factoryExit s
    else match m with
      | .sleep | .ship => modeLow m s
      | _ => modeSwitch m s
  | _, _ => s

/-- MODE_CHANGE (R29, R79). -/
def execModeChange (s : State) : Out := done (if coreRuns s then modeApply s else s)

/-- R96: a device that takes address 63 moves from RUN to STANDBY at that boundary, and does not enter RUN from there. -/
def address63 (s : State) : State :=
  if inMode s .run then modeSwitch .standby s
  else if s.sys.modeNext == some .run then { s with sys := { s.sys with modeNext := none, modeDue := false } }
  else s

/-- R83: the head may admit the member at an address: RUN conditions of R82 as the head sees them. -/
def admitOk (s : State) (a : BitVec 6) : Bool :=
  isHead s && inMode s .run && decide (2 ≤ a.toNat) && s.enum.set.getLsbD a.toNat && mapOk s && psealMatch s &&
    !((copiesOf s a.toNat).any copyTripped) &&
    (match (member s a.toNat).thread with | some m => m.getLsbD 22 && (bits (threadWord m 3) 31 29 == 2) | none => false)

/-- MEMBER_RUN_ADMIT (R83): at the head the member is told; the member that is named enters RUN at the next boundary. DESIGN CHOICE
(log 82): no frame tells the member, which has this command of its own, and no boundary catches an admission up. -/
def execMemberRunAdmit (addr : BitVec 6) (s : State) : Out :=
  done (if !coreRuns s then s
    else if admitOk s addr then { s with link := { s.link with admitTx := some addr } }
    else if !isHead s && s.sys.addr == addr && inMode s .standby && s.sys.modeNext.isNone && runOwn s == 0 then
      { s with sys := { s.sys with modeNext := some .run } }
    else s)

/-- FACTORY_LOCK_CLOSE (R79). An accepted FACTORY request that awaits its boundary lapses there (R54, log 59); the steps of R290 run
to the held reset (log 82). -/
def execFactoryLockClose (s : State) : Out :=
  let s1 := { s with sys := { s.sys with lockOpen := false } }
  done (if inMode s .factory && (coreRuns s || s.sys.phase == .coreRestart) && !s.thrm.sdWait then factoryExit s1 else s1)

/-! ### RST_N (R98, R104 to R106) -/

/-- R104: a low of this many ns on RST_N is accepted; of one from 10 µs to 12 µs `taken` says what the part does. -/
def rstAccepts (lowNs : Nat) (taken : Bool) : Bool := decide (12000 ≤ lowNs) || (decide (10000 ≤ lowNs) && taken)

/-- R98, R105: an accepted low. Both transmitters are idle. Outside R98 it holds the part in reset, also in a start whose
step 1 it did not meet; WAKE_OUT is low where VREG is present (R51). -/
def rstHold (s : State) : State :=
  let s0 := { s with
    sys := { s.sys with rstLow := true }
    link := { s.link with toneTx := false }, mirr := { s.mirr with wakeTx := false, wakeFrame := [] }
    pwr := { s.pwr with wakeOut := s.pwr.wakeOut && s.sys.phase == .handedOver } }
  match s.sys.phase with
  | .lowPower => if s.sys.mode == some .ship then s0 else holdReset .resetHeld 5 true { s0 with sys := { s0.sys with vregOk := true } }
  | .coreOn | .coreRestart | .filled => holdReset .resetHeld 5 true { s0 with sys := { s0.sys with vregOk := true } }
  | .softStart => holdReset .resetHeld 5 true s0
  | _ => s0

/-- RST_LOW (R104, R105): RST_N has been low for `lowNs`. -/
def execRstLow (lowNs : Nat) (taken : Bool) (s : State) : Out :=
  done (if rstAccepts lowNs taken && !s.sys.rstLow then rstHold s else s)

/-- R106: HOLD_MS and the RESET_HELD record of a low. -/
def resetLog (ms : Word) (s : State) : State :=
  jreqMand 0x05 srcResetHeld ms 0
    { s with sys := { s.sys with holdMs := ms, latchAtRelease := s.sys.latchAtRelease ++ [srcResetHeld] } }

/-- R106: the end of a low. -/
def resetRecord (ms : Word) (s : State) : State := resetLog ms { s with sys := { s.sys with rstLow := false } }

/-- RST_RELEASE (R98, R106, R110, R492). -/
def execRstRelease (ms : Word) (s : State) : Out :=
  done (if !s.sys.rstLow then s
    else match s.sys.phase with
      | .lowPower =>
        let s1 := startPath 5 { s with sys := { s.sys with rstLow := false, holdMs := ms } }
        { s1 with sys := { s1.sys with wake := s1.sys.wake ||| 32 } }
      | .resetHeld =>
        let s1 := startPath 1 (resetRecord ms s)
        if s.sys.vregOk then stepFour { s1 with sys := { s1.sys with vregOk := true } } else s1
      | .softStart =>
        let s0 := resetRecord ms s
        let s1 := { s0 with pwr := { s0.pwr with wakeOut := headEn s } }
        if s.sys.vregOk then stepFour s1 else s1
      | .handedOver => { s with sys := { s.sys with rstLow := false, rstAfter := true, rstMs := s.sys.rstMs ++ [ms] } }
      | _ => resetRecord ms s)

/-! ### Core restart (R36) -/

/-- CORE_RESET: after 16 missed deadlines in a row. -/
def execCoreReset (s : State) : Out :=
  done (if coreRuns s && decide (16 ≤ s.safe.misses) then
      raise srcCoreReset { s with sys := { s.sys with phase := .coreRestart, modeKept := s.sys.mode } }
    else s)

/-! ### Thermal shutdown (R289 to R292) -/

/-- R290 step 1, and step 2 for the OTP word in progress; the core runs on until step 4. The shutdown is a decision of its own, whose TRIP word goes out
also when flag [16] has gone out before (R315, log 70). -/
def thermalTrip (cause idx : Nat) (s : State) : State :=
  let s0 := otpStop s
  let s1 := tripOwn 1 false true { s0 with safe := { s0.safe with saidB := s0.safe.saidB &&& ~~~ 1#8 } }
  { s1 with
    thrm := { s1.thrm with sdCnt := satInc s1.thrm.sdCnt 0xFFFF, sdCause := cause, sdIdx := idx, sdWait := true,
                            sdPt := s.time.ptB, sdTd := signedSat 16 s.thrm.td }
    bal := { s1.bal with sw := 0 }, bob := recFreeze 4 s1.bob }

/-- R289: a shutdown condition held in each of the last two stitches. -/
def thermalDue (s : State) : Bool :=
  decide (2 ≤ s.thrm.sdRun) && awake s && (s.sys.phase == .coreOn || s.sys.phase == .coreRestart) && !s.thrm.sdWait

/-- THERMAL_SHUTDOWN (R289, R290 step 1). -/
def execThermalShutdown (s : State) : Out :=
  done (if thermalDue s then thermalTrip s.thrm.sdNowCause s.thrm.sdNowIdx s else s)

/-- The THERMAL_SD record, with the pack time and T_D of the boundary that decided (R290, R513). -/
def sdRecord (s : State) : JPend :=
  { jrec s 0x02 true srcThermalSd (flag (s.thrm.sdCause == 1) 8 ||| place s.thrm.sdIdx 0) 0 3 with
    pt := s.thrm.sdPt, td := s.thrm.sdTd }

/-- R290 steps 2 to 4: the words and the record in progress complete, programming stops, the THERMAL_SD record is
written after `bad` failed readbacks (R512), the held reset begins. -/
def thermalRecord (bad : Nat) (s : State) : State :=
  let s0 := otpCut s
  let s1 := jrnlFlush bad { s0 with jrnl := { s0.jrnl with mand := s0.jrnl.mand ++ [sdRecord s0] } }
  let s2 := { s1 with sys := { s1.sys with vregOk := true, latchAtRelease := s1.sys.latchAtRelease ++ [srcThermalSd] } }
  holdReset .thermalHeld 4 true s2

/-- THERMAL_SD_RECORD (R290). -/
def execThermalSdRecord (s : State) : Out := done (if s.thrm.sdWait then thermalRecord 0 s else s)

/-- R512, R290: a write of the THERMAL_SD record that fails its readback, before THERMAL_SD_RECORD. -/
def sdWriteFails (s : State) : State :=
  let t := jrnlDone false { s with jrnl := { s.jrnl with mand := [sdRecord s], busy := some true } }
  { t with jrnl := { t.jrnl with mand := s.jrnl.mand, busy := s.jrnl.busy } }

/-- JOURNAL_RECORD_WRITE (R512, R515). In a thermal shutdown with no other record to write, a readback that fails is that of the
THERMAL_SD record (log 81). -/
def execJournalRecordWrite (good : Bool) (s : State) : Out :=
  done (if s.thrm.sdWait && !good && s.pwr.src != 2 && (jrnlFront (jrnlBegin s).jrnl).isNone then sdWriteFails s
    else jrnlWrite good s)

/-! ### Wake (R85, R111, R325, R372, R494) -/

/-- A wake recognised outside SLEEP, in STANDBY: it is pending, and cancels an accepted SLEEP (R85), one that a waiting
broadcast carries with it; the head raises WAKE_OUT (R495). -/
def wakeInStandby (k : Nat) (s : State) : State :=
  { s with
    dev := { s.dev with bcasts := s.dev.bcasts.map (fun (b : Bcast) => { b with woken := true }) }
    sys := { s.sys with
      wake := s.sys.wake ||| BitVec.ofNat 6 (2 ^ k), wakePend := true
      modeNext := if s.sys.modeNext == some .sleep && !s.sys.modeDue then none else s.sys.modeNext }
    pwr := { s.pwr with wakeOut := s.pwr.wakeOut || isHead s } }

/-- R357, R360: a frame of a header and a plaintext under a key and a nonce. -/
def frameSeal (key nonce hdr pl : List Byte) : List Byte :=
  let x := hdr ++ ccmCrypt key nonce pl ++ ccmMic key nonce hdr pl
  x ++ natBytes 2 (crc16 x).toNat

/-- R353, R357: a frame as it goes out: the alternating preamble, whose first bit is the first of the access address, the access
address, each byte least significant bit first, then the sealed bytes. A receiver that is not synchronised by the access address
receives no frame: the receive rows carry the bytes after it. -/
def onAir (f : List Byte) : List Byte := [0x55, 0x55, 0x6B, 0x3A, 0x91, 0x5D] ++ f

/-- R360: the nonce of a frame. -/
def nonceOf (t : Nat) (h0 : Byte) (session : Word) : List Byte := natBytes 8 t ++ [h0] ++ wordBytes session

/-- R357, R360: the wake frame of this device at pack time `t`, µs; a head is always address 1 (R329). -/
def wakeFrameAt (t : Nat) (s : State) : List Byte :=
  let h0 : Byte := BitVec.ofNat 8 (128 + if isHead s then 1 else s.sys.addr.toNat)
  frameSeal (packKey s) (nonceOf t h0 0) (h0 :: 0 :: natBytes 8 t) []

/-- R372: while wake frames are sent, one each 100 µs from the start of the wake, 1100 ms before `wakeUntil`: the last of
them by now (log 62). -/
def wakeSend (s : State) : State :=
  let from_ := s.mirr.wakeUntil.toNat - 1100000
  let on := s.mirr.wakeTx && decide (s.time.pt.toNat < s.mirr.wakeUntil.toNat)
  { s with mirr := { s.mirr with
    wakeTx := on
    wakeFrame := if on then onAir (wakeFrameAt (from_ + (s.time.pt.toNat - from_) / 100 * 100) s) else [] } }

/-- A wake from SLEEP or SHIP with its cause bit: the tone on both ports, and the start-up path (R102, R325). `own`
tells a wake of the device's own, which also sends wake frames (R372), where a PACK generation is valid (R356). While
RST_N is held low no transmitter sends (R105). -/
def wakeStart (cause k : Nat) (own : Bool) (s : State) : State :=
  let sends := own && s.otp.genP.isSome && !s.sys.rstLow
  let s1 := { s with
    link := { s.link with toneTx := !s.sys.rstLow, toneUntil := s.time.pt + 10000 }
    mirr := { s.mirr with wakeTx := sends, wakeUntil := if sends then s.time.pt + 1100000 else s.mirr.wakeUntil } }
  let s2 := startPath cause (wakeSend s1)
  { s2 with sys := { s2.sys with wake := s2.sys.wake ||| BitVec.ofNat 6 (2 ^ k) } }

/-- R292, R494: the start at the release from the held reset: START_CAUSE 2, or, after a shutdown that a breath check decided,
the wake of the device's own (log 71). A rail fault in the held reset shows after it (R497; log 60). -/
def thermalStart (s : State) : State :=
  let s1 := if s.pwr.breathWake then wakeStart 4 3 true s else startPath 2 s
  { s1 with pwr := { s1.pwr with rail := s.pwr.rail } }

/-- THERMAL_RESTART (R291, R292): after 100 stitch periods with every sensor plausible and below 125 °C. With a rail out the
hold of R481 goes on (log 60). -/
def execThermalRestart (heldMs : Word) (s : State) : Out :=
  done (if s.sys.phase == .thermalHeld && decide (100 ≤ s.thrm.cool) then
      let s1 := jreqMand 0x03 0x7F heldMs 0 s
      if s.pwr.railOut then { s1 with sys := { s1.sys with phase := .railHeld } } else thermalStart s1
    else s)

/-- The part sleeps. -/
def asleep (s : State) : Bool := s.sys.phase == .lowPower && s.sys.mode == some .sleep

/-- WAKE_TONE_RECEIVE (R325). -/
def execWakeToneReceive (port : Port) (s : State) : Out :=
  let k := match port with | .l => 0 | .u => 1
  done (if decide (s.time.pt.toNat < s.link.toneUntil.toNat) then s
    else if asleep s then wakeStart 4 k false s
    else if s.sys.phase == .lowPower then wakeStart 5 k false s
    else if s.sys.phase == .handedOver then
      { s with sys := { s.sys with wake := s.sys.wake ||| BitVec.ofNat 6 (2 ^ k) }
               link := { s.link with toneTx := !s.sys.rstLow, toneUntil := s.time.pt + 10000 }
               pwr := { s.pwr with wakeOut := s.pwr.wakeOut || headEn s } }
    else if inMode s .standby && coreRuns s then wakeInStandby k s
    else s)

/-- CSN_WAKE (R91, R111): on a head in SLEEP, CS_N low for 100 µs or more. -/
def execCsnWake (lowUs : Nat) (s : State) : Out :=
  done (if asleep s && isHead s && decide (100 ≤ lowUs) then wakeStart 4 4 true s else s)

/-- The tone and the wake frames at a boundary, in every phase: each ends after its time (R325, R372). -/
def wakeEnds (s : State) : State :=
  wakeSend { s with link := { s.link with toneTx := s.link.toneTx && decide (s.time.pt.toNat + 8000 < s.link.toneUntil.toNat) } }

end Sys2Proof.Machine
end

