-- ==== Sys2Proof/Machine/Trans.lean ====
section
/-! DEFINITION. The head's record of transactions in flight and their completion (R119, R121, R122, R124, R125, R344), the form of link frames (R308), and the event records
that reach the head (R444). -/

namespace Sys2Proof.Machine

/-- R116: the opcode writes registers of one device or of all. -/
def opWrites (op : Nat) : Bool := op == 2 || op == 3

/-- R125, R344: the UNCERT of an abandoned transaction. -/
def uncertOf (t : Trans) : Bool := opWrites t.op && t.addr != 0 && t.sent

/-- A reply in the shape of R119, without data. -/
def replyFor (t : Trans) (status : Nat) (st : BitVec 16) : Reply :=
  { op := t.op, tag := t.tag, addr := t.addr, status := status, retried := t.retried, stitch := st, snap := t.snap }

/-- R121, R146: a transaction completes: its reply waits with its tag, last in the order of completion. Only a head drives IRQ_N
(R70). -/
def finish (t : Trans) (r : Reply) (s : State) : State :=
  let h := s.host
  let from_ := if t.addr = 0 then t.namedAt else t.accepted
  { s with host := { h with
    irq := h.irq || (isHead s && fbit s .hostCfg 8)
    trans := h.trans.filter (fun (x : Trans) => x.tag != t.tag)
    tags := h.tags.modify t.tag.toNat (fun (g : Tag) => { g with done := true, reply := some r })
    doneQ := h.doneQ ++ [t.tag], cmplPeak := max h.cmplPeak (min 4 (stitches s - from_)) } }

/-- R122: the oldest transaction in flight to a device, when its reply is there. -/
def replied (a : BitVec 6) (s : State) : Option (Trans × Reply) :=
  match s.host.trans.find? (fun (t : Trans) => t.addr == a) with
  | some t => t.reply.map (fun r => (t, r))
  | none => none

/-- R122: the replies that waited for an earlier one of their device complete in turn. -/
def release (a : BitVec 6) (s : State) : State :=
  s.host.trans.foldl (fun s _ => match replied a s with | some e => finish e.1 e.2 s | none => s) s

/-- R122: an earlier transaction to the same device is in flight. -/
def waitsFor (t : Trans) (s : State) : Bool :=
  t.addr != 0 && (s.host.trans.takeWhile (fun (x : Trans) => x.tag != t.tag)).any (fun x => x.addr == t.addr)

/-- R122: a reply completes its transaction, after the earlier ones of its device. -/
def complete (t : Trans) (r : Reply) (s : State) : State :=
  if waitsFor t s then
    { s with host := { s.host with
      trans := s.host.trans.map (fun (x : Trans) => if x.tag == t.tag then { x with reply := some r } else x) } }
  else if t.addr = 0 then finish t r s else release t.addr (finish t r s)

/-- A transaction that no device executed completes with a code. The STITCH of its reply is a free value: the spec
defines the field by the execution (R119, log 37). -/
def completeUnserved (t : Trans) (status : Nat) (uncert noreach : Bool) (s : State) : State :=
  let (w, s1) := drawFree s
  complete t { replyFor t status (w.setWidth 16) with uncert := uncert, noreach := noreach } s1

/-- R127: a transaction to an address outside the map completes at its acceptance, with BAD_ADDR. -/
def finishOutside (t : Trans) (s : State) : State :=
  let (w, s1) := drawFree s
  finish t (replyFor t 2 (w.setWidth 16)) s1

/-- R125: a transaction that ends without a reply is counted. -/
def abandon (t : Trans) (status : Nat) (uncert noreach : Bool) (s : State) : State :=
  let s1 := completeUnserved t status uncert noreach s
  { s1 with host := { s1.host with abandon := satInc s1.host.abandon 0xFFFF } }

/-- Transactions in flight that have no reply yet. -/
def openTrans (s : State) : List Trans := s.host.trans.filter (fun t => t.reply.isNone)

/-- R344: every transaction in flight to an address ends with BUSY and NOREACH, and none is sent again. -/
def dropAddr (a : BitVec 6) (s : State) : State :=
  let s1 := { s with host := { s.host with ghosts := s.host.ghosts.filter (fun (t : Trans) => t.addr != a) } }
  ((openTrans s1).filter (fun (t : Trans) => t.addr == a)).foldl (fun s t => completeUnserved t 5 (uncertOf t) true s) s1

/-- The CRC word of a link frame (R308). -/
def frameCrc (ws : List Word) : BitVec 16 := crc16 (ws.flatMap wordBytes)

/-- R308: the types of a link frame, and no violation. -/
def frameTypes (ws : List LinkWord) : Bool :=
  ws.all (fun w => !w.violation) &&
  (match ws with
   | h :: rest => h.ty == 3 && (rest.dropLast).all (fun w => w.ty == 5) && (match rest.getLast? with | some c => c.ty == 6 | none => false)
   | [] => false)

/-- R308: an intact command-direction frame: types, and a CRC word whose upper half is zero. -/
def frameIntact (ws : List LinkWord) : Bool :=
  let pw := ws.map (fun w => w.payload)
  frameTypes ws && decide (3 ≤ ws.length) && pw.getLast? == some ((frameCrc pw.dropLast).setWidth 32)

/-- R303, R308: words that end with a CRC word, with their types: HDR first if there is one, DAT, CRC. -/
def typed (hdr : Bool) (ws : List Word) : List LinkWord :=
  ws.zipIdx.map (fun e => ⟨if hdr && e.2 == 0 then 3 else if e.2 + 1 == ws.length then 6 else 5, e.1, false⟩)

/-- The words of a frame of the head with their types. -/
def frameOf (hdr : Word) (dat : List Word) : List LinkWord :=
  typed true (hdr :: dat ++ [(frameCrc (hdr :: dat)).setWidth 32])

/-- The payloads of received words. -/
def payloads (ws : List LinkWord) : List Word := ws.map (fun w => w.payload)

/-- EVENT_RECORD_RECEIVE (R444): at the head; a member sends the words on (R298). -/
def execEventRecordReceive (port : Port) (words : List LinkWord) (s : State) : Out :=
  done (if !linkUp s then s
    else if !isHead s then wordsThrough port words s
    else
      let s1 := wordsSeen port words s
      if frameTypes words then eventReceive (payloads words) s1 else s1)

end Sys2Proof.Machine
end

