-- ==== Sys2Proof/Machine/Enum.lean ====
section
/-! DEFINITION. The search: triggers, TACK and COMMIT frames, identity records, path delays, the decision, the map and
the safety set (12_enumeration_recovery). -/

namespace Sys2Proof.Machine

/-! ### The head's search (R334, R342) -/

/-- R335: a TACK frame. -/
def tackFrame (search st : BitVec 16) (count : Word) : List LinkWord :=
  frameOf 0x70000001 [place search.toNat 16 ||| place st.toNat 0, count]

/-- R336: a COMMIT frame. -/
def commitFrame (c : Commit) : List LinkWord :=
  frameOf 0x80000006
    [place c.search.toNat 16 ||| place c.applyAt.toNat 0,
     flag c.closed 31 ||| place c.nOut.toNat 24 ||| place c.nBack.toNat 18 ||| place c.h.toNat 12,
     place c.lOut 16 ||| place c.lBack 0, c.epoch, c.set.setWidth 32, (c.set >>> 32).setWidth 32, 0]

/-- R334: an attempt begins at this boundary. -/
def searchBegin (fresh : Bool) (s : State) : State :=
  let e := s.enum
  let n := e.search + 1
  { s with enum := { e with
    search := n, restarts := if fresh then 0 else e.restarts, phase := 1, startAt := stitches s, aborted := false
    startPrev := if e.search != 0 || e.startAt != 0 then some e.startAt else none, want := false, reqDue := false, quiet := 0
    ids := [], lOuts := [], lBacks := [], closedAll := true, commit := none
    retOut := none, retBack := none, cmtOut := false, cmtBack := false
    frameTx := tackFrame n (stitch s) 0 } }

/-- R334, R342: a trigger waits, and a rest after ENUM_UNSTABLE is over; a request waits for nothing. -/
def searchDue (s : State) : Bool :=
  isHead s && coreRuns s && s.sys.sending && s.time.fresh && s.enum.phase == 0 &&
    (s.enum.reqDue || (s.enum.want && decide (s.enum.waitUntil ≤ stitches s)))

/-- A search begins when due. -/
def searchStart (s : State) : State := if searchDue s then searchBegin true s else s

/-- SEARCH_START (R334). -/
def execSearchStart (s : State) : Out := done (searchStart s)

/-- R342: the restart after 3 quiet stitches. -/
def searchRestart (s : State) : State :=
  if isHead s && coreRuns s && s.time.fresh && s.enum.phase == 4 && decide (3 ≤ s.enum.quiet) then searchBegin false s else s

/-- SEARCH_RESTART (R342). -/
def execSearchRestart (s : State) : Out := done (searchRestart s)

/-- An accepted request waits for its boundary (R351). -/
def searchReqApply (v : Word) (s : State) : State :=
  if bit v 0 then { s with enum := { s.enum with reqPend := true } } else s

/-- R320, R324: a stream reached the head in the stitch that ended: over the closure, or its own START came back on the
port it left by; `l` is the link of that stitch. -/
def streamBack (i : BoundaryIn) (l : LinkSt) (st : Stream) : Bool :=
  match st with
  | .out => i.closeOut.isSome || l.portU.start
  | .back => i.closeBack.isSome || l.portL.start

/-- R341: the TACK of stitch S, or the COMMIT of S + 17, did not return on a stream that reaches the head. -/
def returnMissing (i : BoundaryIn) (l : LinkSt) (s : State) : Bool :=
  let e := s.enum
  let k := stitches s - e.startAt
  let lacks (o b : Bool) : Bool := (streamBack i l .out && !o) || (streamBack i l .back && !b)
  (k == 1 && lacks e.retOut.isSome e.retBack.isSome) || (k == 18 && e.commit.isSome && lacks e.cmtOut e.cmtBack)

/-- R341: the search whose frame did not return is aborted. -/
def searchReturns (i : BoundaryIn) (l : LinkSt) (s : State) : State :=
  if isHead s && decide (1 ≤ s.enum.phase) && decide (s.enum.phase ≤ 3) && returnMissing i l s then
    searchAbort (stitches s - 1) { s with enum := { s.enum with aborted := true } }
  else s

/-- A map of addresses. -/
def addrMap (l : List MapEnt) : BitVec 64 := l.foldl (fun m e => m ||| BitVec.ofNat 64 (2 ^ e.addr.toNat)) 0

/-- R334: the phase of the stitch that begins; R339: the loop delays of the stitch that ended, whose
link state is `l`; R362: the addresses in force in it. -/
def searchTick (i : BoundaryIn) (l : LinkSt) (s : State) : State :=
  let e := { s.enum with
    frameTx := [], reqDue := s.enum.reqDue || s.enum.reqPend, reqPend := false
    mapPrev := addrMap s.enum.map, setPrev := s.enum.set, newHere := 0 }
  let k := stitches s - e.startAt
  let o := match i.closeOut with | some d => some d.toNat | none => if l.portU.start then some l.portU.startNs.toNat else none
  let b := match i.closeBack with | some d => some d.toNat | none => if l.portL.start then some l.portL.startNs.toNat else none
  match e.phase with
  | 0 => { s with enum := e }
  | 4 => { s with enum := { e with quiet := if e.aborted then 0 else e.quiet + 1, aborted := false } }
  | _ =>
    let e1 := if decide (2 ≤ k) && decide (k ≤ 17) then
        { e with lOuts := e.lOuts ++ [o], lBacks := e.lBacks ++ [b], closedAll := e.closedAll && i.closeOut.isSome && i.closeBack.isSome }
      else e
    let tx := match e1.commit with | some c => if k = 18 then commitFrame c else [] | none => []
    { s with enum := { e1 with phase := if k ≤ 16 then 2 else 3, frameTx := tx } }

/-- R298, R320: the port of the head on which a stream returns: over the closure, else the one it left by. -/
def returnPort (s : State) (st : Stream) : Port :=
  match st with
  | .out => if s.link.ringClosed then .l else .u
  | .back => if s.link.ringClosed then .u else .l

/-- R342: the search ends with ENUM_UNSTABLE. -/
def searchUnstable (s : State) : State :=
  raise srcEnumUnstable { s with enum := { s.enum with phase := 0, unstable := true, held := false, commit := none, aborted := false
                                                       waitUntil := stitches s + 1001 } }

/-- R341: an abort condition of the search that runs. -/
def searchFails (s : State) : State := searchAbort (stitches s) { s with enum := { s.enum with aborted := true } }

/-! ### Members and the TACK (R335, R338) -/

/-- R335: a member whose carrier changed and has not settled: a folded port whose carrier is back. -/
def unsettled (s : State) : Bool :=
  let f (q : PortSt) : Bool := q.changed && q.folded && q.carrier
  f s.link.portL || f s.link.portU

/-- R335, R338: the search that a TACK names, at a member: a new one starts its indices and passes afresh, and a record of the
search before it is not sent. -/
def tackSearchOf (arg : Word) (e : EnumSt) : EnumSt :=
  let n : BitVec 16 := BitVec.ofNat 16 (bits arg 31 16)
  if e.tackSearch == some n then e
  else { e with tackSearch := some n, search := n, tackAt := BitVec.ofNat 16 (bits arg 15 0), tackOut := 0, tackBack := 0, aborted := false, tL := [], tU := []
                passOut := false, passBack := false, commit := none, idTx := none }

/-- R335: a TACK has made its first pass on a stream. -/
def passed (e : EnumSt) (st : Stream) : Bool := match st with | .out => e.passOut | .back => e.passBack

/-- R335, R341: a TACK at a member: counted on the first pass of its stream, else sent on unchanged but for ABORT. -/
def tackMember (st : Stream) (ws : List LinkWord) (s : State) : State :=
  let pw := payloads ws
  let arg := pw.getD 1 0
  let e0 := tackSearchOf arg s.enum
  let c := pw.getD 2 0
  if passed e0 st then
    { s with enum := { e0 with tackTx := if e0.aborted then frameOf (pw.getD 0 0) [arg, c ||| flag true 31] else ws } }
  else
    let count := bits c 5 0
    let full := bit c 30
    let takes := !full && decide (count < 61)
    let c1 := flag (bit c 31 || unsettled s || e0.aborted) 31 ||| flag (full || decide (61 ≤ count)) 30 |||
      place (if takes then count + 1 else count) 0
    let idx : BitVec 6 := BitVec.ofNat 6 (count + 1)
    { s with enum := { e0 with
      passOut := e0.passOut || st == .out, passBack := e0.passBack || st == .back
      tackOut := if takes && st == .out then idx else e0.tackOut
      tackBack := if takes && st == .back then idx else e0.tackBack
      tackTx := frameOf (pw.getD 0 0) [arg, c1] } }

/-- R335: the words are an intact TACK. -/
def tackIntact (ws : List LinkWord) : Bool :=
  ws.length == 4 && frameIntact ws && (payloads ws).getD 0 0 == 0x70000001

/-- R335, R341, R342: a TACK that returns to the head: FULL ends the search at once, ABORT or an error aborts it, else its
N is the stream's. -/
def tackReturn (st : Stream) (ws : List LinkWord) (s : State) : State :=
  let e := s.enum
  let c := (payloads ws).getD 2 0
  if !tackIntact ws || bits ((payloads ws).getD 1 0) 31 16 != e.search.toNat then searchFails s
  else if bit c 30 then searchUnstable s
  else if bit c 31 then searchFails s
  else
    let n : BitVec 6 := BitVec.ofNat 6 (bits c 5 0)
    { s with enum := match st with | .out => { e with retOut := some n } | .back => { e with retBack := some n } }

/-- R298: the port of a member on which a stream arrives at its first pass, or at a later one. -/
def arrivalPort (later : Bool) (st : Stream) : Port :=
  if later then portOther (streamPort (streamCode st)) else streamPort (streamCode st)

/-- TACK_RECEIVE (R335, R341): at a member, which sends it on; at the head, the frame that returns in stitch S. -/
def execTackReceive (stream : Stream) (words : List LinkWord) (s : State) : Out :=
  done (if !linkUp s then s
    else if isHead s then
      let s1 := wordsSeen (returnPort s stream) words s
      if s1.enum.phase == 1 then tackReturn stream words s1 else s1
    else if tackIntact words then
      let p := arrivalPort (passed (tackSearchOf ((payloads words).getD 1 0) s.enum) stream) stream
      let s1 := tackMember stream words (wordsSeen p words s)
      forward p (s1.enum.tackTx.map Sym.word) s1
    else wordsPass (arrivalPort false stream) words s)

/-- R338: the index and stream that a member's ID record carries. -/
def idIndex (e : EnumSt) : Nat × Stream :=
  if e.tackOut != 0 then (e.tackOut.toNat, .out) else (e.tackBack.toNat, .back)

/-- R338: the ID record of this device. -/
def idRecord (s : State) : List Word :=
  let (i, st) := idIndex s.enum
  let ws := [(s.otp.uid >>> 32).setWidth 32, s.otp.uid.setWidth 32, packWord s 5,
    place (commAddr s).toNat 26 ||| place i 20 ||| flag (st == .back) 19]
  ws ++ [(frameCrc ws).setWidth 32]

/-- R338: the stitch after S, and the offset in the reply region, of the record of an index. -/
def idPlace (i : Nat) : Nat × Nat := (1 + (i - 1) / 8, 5 * ((i - 1) % 8))

/-- R334, R338: a member's part in a search is over after its apply boundary, S + 19. -/
def tackOver (s : State) : Bool :=
  let k := (ringStitch s - s.enum.tackAt).toNat
  !isHead s && s.enum.tackSearch.isSome && decide (20 < k) && decide (k < 32768)

/-- R338: the record goes out in its stitch of the search, at its offset, on the stream of its index. -/
def idStep (s0 : State) : State :=
  let s := if tackOver s0 then
    { s0 with enum := { s0.enum with tackSearch := none, tackOut := 0, tackBack := 0, aborted := false } } else s0
  let (i, st) := idIndex s.enum
  let on := !isHead s && s.enum.tackSearch.isSome && i != 0 &&
    ringStitch s == s.enum.tackAt + BitVec.ofNat 16 (idPlace i).1
  { s with enum := { s.enum with idTx := if on then some (st, (idPlace i).2, typed false (idRecord s)) else none } }

/-- R338: an ID record that the head takes. -/
def idOf (ws : List LinkWord) : Option IdRec :=
  let pw := payloads ws
  let w3 := pw.getD 3 0
  if ws.length == 5 && ws.all (fun w => !w.violation) && (ws.take 4).all (fun w => w.ty == 5) &&
      (ws.drop 4).all (fun w => w.ty == 6) && pw.getD 4 0 == (frameCrc (pw.take 4)).setWidth 32 && bits w3 18 0 == 0 then
    some { stream := if bit w3 19 then .back else .out, index := BitVec.ofNat 6 (bits w3 25 20)
           uid := (pw.getD 0 0) ++ (pw.getD 1 0), mapRef := pw.getD 2 0, caddr := BitVec.ofNat 6 (bits w3 31 26) }
  else none

/-- R338: a record stands at its place: its stream, its stitch, its offset. -/
def idHere (s : State) (st : Stream) (ofs : Nat) (r : IdRec) : Bool :=
  r.stream == st && r.index != 0 && ofs == (idPlace r.index.toNat).2 && stitches s == s.enum.startAt + (idPlace r.index.toNat).1

/-- R338, R341: five words of the head's reply region in the identify phase. -/
def idReceive (st : Stream) (ofs : Nat) (ws : List LinkWord) (s : State) : State :=
  match idOf ws with
  | some r =>
    if idHere s st ofs r && !s.enum.ids.any (fun x => x.stream == r.stream && x.index == r.index) then
      { s with enum := { s.enum with ids := s.enum.ids ++ [r] } }
    else searchFails s
  | none => searchFails s

/-- The identify phase runs at the head (R334). -/
def identifies (s : State) : Bool := isHead s && linkUp s && s.enum.phase == 2 && decide (stitches s ≤ s.enum.startAt + 8)

/-- ID_RECORD_RECEIVE (R338, R341): `ofs` is the offset of the record in the reply region; a member sends the words on
(R298). -/
def execIdRecordReceive (stream : Stream) (ofs : BitVec 9) (words : List LinkWord) (s : State) : Out :=
  done (if linkUp s && !isHead s then wordsThrough (arrivalPort false stream) words s
    else if identifies s then idReceive stream ofs.toNat words (wordsSeen (returnPort s stream) words s) else s)

/-! ### The decision (R331 to R333, R337, R343) -/

/-- The mean of the delays that were measured. -/
def loopMean (l : List (Option Nat)) : Nat :=
  let v := l.filterMap id
  if v.isEmpty then 0 else min 0xFFFF ((2 * v.foldl (· + ·) 0 + v.length) / (2 * v.length))

/-- R341: a loop delay of some stitch lies more than 100 ns from the mean, or was measured in some stitches only. -/
def loopSpread (l : List (Option Nat)) : Bool :=
  let v := l.filterMap id
  let sum := v.foldl (· + ·) 0
  (!v.isEmpty && v.length != l.length) || v.any (fun x => decide (100 * v.length < (((x * v.length : Nat) : Int) - (sum : Nat)).natAbs))

/-- R337: the entry of an ID record in a map of highest address `h`. -/
def entOf (h : BitVec 6) (r : IdRec) : MapEnt :=
  { addr := if r.stream == .out then 1 + r.index else h + 1 - r.index, uid := r.uid, mapRef := r.mapRef, caddr := r.caddr }

/-- The head's own entry. -/
def headEnt (s : State) : MapEnt := { addr := 1, uid := s.otp.uid, mapRef := packWord s 5, caddr := commAddr s }

/-- R332: a device of the map belongs to the safety set. -/
def entInSet (s : State) (e : MapEnt) : Bool :=
  let e1 := if e.addr = 1 then headEnt s else e
  s.otp.genP.isSome && e1.mapRef == packWord s 5 && e1.caddr == e.addr

/-- R332, R343: the safety set of a map and of the addresses kept vacant in RUN. -/
def setOfMap (s : State) (m reserved : List MapEnt) : BitVec 64 :=
  addrMap (m.filter (entInSet s)) ||| addrMap reserved

/-- R331, R336, R337: the map check word of a map whose highest address is `top`, found or vacant. -/
def mapCheck (top : Nat) (m : List MapEnt) : Word :=
  let one (a : Nat) : List Byte := match m.find? (fun e => e.addr.toNat == a) with
    | some e => natBytes 8 e.uid.toNat | none => List.replicate 8 0xFF
  crc32c (BitVec.ofNat 8 m.length :: (List.range top).flatMap (fun i => one (i + 1)))

/-- Devices of the safety set as the map in force has them, those kept vacant with them. -/
def setDevices (s : State) : List MapEnt :=
  s.enum.map.filter (fun e => e.addr != 1 && s.enum.set.getLsbD e.addr.toNat) ++ s.enum.reserved

/-- R343: in RUN the result applies: no device of the set moves, and no new device takes an address of the set. -/
def runKeeps (s : State) (m : List MapEnt) : Bool :=
  let d := setDevices s
  d.all (fun e => m.all (fun x => x.uid != e.uid || x.addr == e.addr)) &&
    m.all (fun x => d.all (fun e => x.addr != e.addr || x.uid == e.uid))

/-- R337: the highest address of the new map. -/
def searchH (s : State) (nOut nBack : Nat) : Nat :=
  if s.enum.closedAll then nOut + 1
  else max (nOut + nBack + 1) (if s.enum.inForce then s.enum.h.toNat else 0)

/-- R338, R341: every record that is expected has come. -/
def idsComplete (s : State) (nOut nBack : Nat) : Bool :=
  let has (st : Stream) (i : Nat) : Bool := s.enum.ids.any (fun r => r.stream == st && r.index.toNat == i)
  (List.range nOut).all (fun i => has .out (i + 1)) && (s.enum.closedAll || (List.range nBack).all (fun i => has .back (i + 1)))

/-- R343: the decision of a search that succeeded: COMMIT on both streams, or hold. -/
def searchSettle (nOut nBack : BitVec 6) (s : State) : State :=
  let e := s.enum
  let h6 : BitVec 6 := BitVec.ofNat 6 (searchH s nOut.toNat nBack.toNat)
  let used := e.ids.filter (fun r => r.stream == .out || !e.closedAll)
  let m := headEnt s :: used.map (entOf h6)
  let s1 := { s with enum := { e with lOut := loopMean e.lOuts, lBack := loopMean e.lBacks } }
  if !inMode s .run || !e.inForce || runKeeps s m then
    let res := if inMode s .run then (setDevices s).filter (fun d => !m.any (fun x => x.uid == d.uid)) else []
    let c : Commit := { search := e.search, applyAt := BitVec.ofNat 16 (e.startAt + 19), closed := e.closedAll, nOut := nOut, nBack := nBack
                        h := h6, lOut := loopMean e.lOuts, lBack := loopMean e.lBacks, epoch := e.epochCtr + 1
                        set := setOfMap s m res }
    { s1 with enum := { s1.enum with commit := some c, cmt := c, frameTx := commitFrame c } }
  else raise srcMapHeld { s1 with enum := { s1.enum with phase := 0, held := true, unstable := false } }

/-- R341 to R343: the decision at S + 17, from the counts that returned; of a stream that did not reach the head, 0. More
than 62 addresses end the search as FULL does. -/
def searchDecide (s : State) : State :=
  let e := s.enum
  let o := e.retOut.getD 0
  let b := e.retBack.getD 0
  if e.aborted || !idsComplete s o.toNat b.toNat || loopSpread e.lOuts || loopSpread e.lBacks || (e.closedAll && o != b) then
    searchFails s
  else if 62 < searchH s o.toNat b.toNat then searchUnstable s
  else searchSettle o b s

/-- The decision is due: at the boundary of S + 17, with none made (R334). -/
def decideDue (s : State) : Bool :=
  isHead s && coreRuns s && s.time.fresh && s.enum.phase == 3 && s.enum.commit.isNone && stitches s == s.enum.startAt + 17

/-- The decision, when due. -/
def searchDecideDue (s : State) : State := if decideDue s then searchDecide s else s

/-- SEARCH_DECIDE (R343). -/
def execSearchDecide (s : State) : Out := done (searchDecideDue s)

/-! ### COMMIT and path delays (R336, R339) -/

/-- R336: the words are an intact COMMIT. -/
def commitIntact (ws : List LinkWord) : Bool :=
  ws.length == 9 && frameIntact ws && (payloads ws).getD 0 0 == 0x80000006

/-- A delay as `ENUM.DLY` holds it. -/
def delayField (d : Int) : Nat := if d < 0 then 0 else min d.toNat 0xFFFE

/-- R339: t_U − t_L, the difference of the means of both, to the nearest ns, halves up (log 45); none where a port had no START. -/
def startDelta (e : EnumSt) : Option Int :=
  let n : Int := e.tL.length
  let m : Int := e.tU.length
  if n = 0 || m = 0 then none
  else some ((2 * (e.tU.foldl (· + ·) 0 * n - e.tL.foldl (· + ·) 0 * m) + n * m).fdiv (2 * n * m))

/-- R339: OUT and BACK delays; `fwd` is the member's forwarding latency, `loop` its loop-back latency. 0xFFFF is not measured. -/
def pathDelays (s : State) (closed : Bool) (lOut lBack : Nat) (fwd loop : Int) : Nat × Nat :=
  let half (l : Nat) (dl f : Int) : Int := ((l : Int) - dl - f).fdiv 2
  if s.enum.tackOut != 0 then
    if s.link.portU.folded then (delayField (half lOut 0 loop), 0xFFFF)
    else match startDelta s.enum with
      | some dl => (delayField (half lOut dl fwd), if closed then delayField (half lOut dl fwd + dl) else 0xFFFF)
      | none => (0xFFFF, 0xFFFF)
  else if s.enum.tackBack != 0 then
    if s.link.portL.folded then (0xFFFF, delayField (half lBack 0 loop))
    else match startDelta s.enum with
      | some dl => (0xFFFF, delayField (half lBack (-dl) fwd))
      | none => (0xFFFF, 0xFFFF)
  else (0xFFFF, 0xFFFF)

/-- R339: a member's timestamps of the START of the stitch that ended, in the stitches S + 1 to S + 16 of a search; `l` is the link of
that stitch. A START is timed against the boundary of this device, which the measured delay of its stream has set. -/
def startTimes (l : LinkSt) (s : State) : State :=
  let k := (ringStitch s - s.enum.tackAt).toNat
  if isHead s || s.enum.tackSearch.isNone || k < 2 || 17 < k then s
  else
    let ns (p : Port) : List Int :=
      if (portGet l p).start then [((streamDelay s (portStream p)).getD 0 : Int) + (portGet l p).startNs] else []
    { s with enum := { s.enum with tL := s.enum.tL ++ ns .l, tU := s.enum.tU ++ ns .u } }

/-- R336, R339: a COMMIT of the current search at a member; its ABORT is set as that of the TACK (R335). -/
def commitMember (ws : List LinkWord) (fwdNs loopNs : Int) (s : State) : State :=
  let w (k : Nat) : Word := (payloads ws).getD k 0
  let n : BitVec 16 := BitVec.ofNat 16 (bits (w 1) 31 16)
  let ab := bit (w 2) 30 || unsettled s || s.enum.aborted
  let tx := frameOf (w 0) [w 1, (w 2 &&& 0xBFFFFFFF) ||| flag ab 30, w 3, w 4, w 5, w 6, w 7]
  let s1 := { s with enum := { s.enum with tackTx := tx } }
  if s.enum.tackSearch == some n || s.enum.tackSearch.isNone then
    let closed := bit (w 2) 31
    let d := pathDelays s closed (bits (w 3) 31 16) (bits (w 3) 15 0) fwdNs loopNs
    let c : Commit := {
      search := n, applyAt := BitVec.ofNat 16 (bits (w 1) 15 0), closed := closed
      nOut := BitVec.ofNat 6 (bits (w 2) 29 24), nBack := BitVec.ofNat 6 (bits (w 2) 23 18), h := BitVec.ofNat 6 (bits (w 2) 17 12)
      lOut := bits (w 3) 31 16, lBack := bits (w 3) 15 0, epoch := w 4, set := (w 6) ++ (w 5), dOut := d.1, dBack := d.2 }
    { s1 with enum := { s1.enum with commit := some c, cmt := c } }
  else s1

/-- R336, R341: a COMMIT that returns to the head: ABORT or an error aborts the search. -/
def commitReturn (st : Stream) (ws : List LinkWord) (s : State) : State :=
  let e := s.enum
  if !commitIntact ws || bit ((payloads ws).getD 2 0) 30 then searchFails s
  else { s with enum := match st with | .out => { e with cmtOut := true } | .back => { e with cmtBack := true } }

/-- COMMIT_RECEIVE (R336, R339, R341): at a member, which sends it on; at the head, the frame that returns. `fwdNs` and
`loopNs` are the member's own measures of its forwarding and loop-back latency. -/
def execCommitReceive (stream : Stream) (words : List LinkWord) (fwdNs loopNs : Int) (s : State) : Out :=
  done (if !linkUp s then s
    else if isHead s then
      let s1 := wordsSeen (returnPort s stream) words s
      if s1.enum.phase == 3 then commitReturn stream words s1 else s1
    else if commitIntact words then
      let s1 := commitMember words fwdNs loopNs (wordsSeen (arrivalPort false stream) words s)
      forward (arrivalPort false stream) (s1.enum.tackTx.map Sym.word) s1
    else wordsPass (arrivalPort false stream) words s)

/-! ### Applying (R337, R343 to R345, R367) -/

/-- R345, R350: the safety set, MAP_MISMATCH and the foreign devices brought up to date at the head. -/
def mapFollow (s : State) : State :=
  if isHead s && s.enum.inForce then
    let set := setOfMap s s.enum.map s.enum.reserved
    let s1 := { s with enum := { s.enum with set := set, foreign := addrMap (s.enum.map.filter (fun e => !(entInSet s e))) } }
    follow srcForeignDevice (s1.enum.foreign != 0) (follow srcMapMismatch (!(mapOk s1)) s1)
  else follow srcForeignDevice false (follow srcMapMismatch false s)

/-- R344: the container of an address came back empty the last time that it showed what is in it: its device had left the
address, and takes it again (log 65). -/
def left63 (s : State) (k : BitVec 6) : Bool := (member s k.toNat).at63

/-- The unique ID that a map holds for an address. -/
def mapUid (m : List MapEnt) (k : BitVec 6) : Option (BitVec 64) := (m.find? (fun e => e.addr == k)).map (fun e => e.uid)

/-- Addresses 2 to 62 with a property. -/
def addrsWith (p : BitVec 6 → Bool) : List (BitVec 6) := ((List.range 61).map (fun k => BitVec.ofNat 6 (k + 2))).filter p

/-- R344, R367: the addresses whose device differs between an old map and a new one with the addresses kept vacant. -/
def changedAddrs (a m kept : List MapEnt) : List (BitVec 6) := addrsWith (fun k => mapUid a k != mapUid (m ++ kept) k)

/-- R344: the other addresses of a new map whose device leaves address 63. -/
def returnedAddrs (s : State) (a m kept : List MapEnt) : List (BitVec 6) :=
  addrsWith (fun k => mapUid a k == mapUid (m ++ kept) k && (mapUid m k).isSome && left63 s k)

/-- R367: the device of an address does not hold it before this boundary. -/
def newDevice (a : BitVec 6) (s : State) : State :=
  { s with enum := { s.enum with newHere := s.enum.newHere ||| BitVec.ofNat 64 (2 ^ a.toNat) } }

/-- R344: an address whose device returns: its transactions end and its sequence counter restarts. -/
def addrReturned (a : BitVec 6) (s : State) : State :=
  setMember a.toNat (fun (m : Member) => { m with seqOut := 0 }) (newDevice a (dropAddr a s))

/-- R344, R367: an address whose device changed: its transactions end, its sequence counter and history restart. -/
def addrChanged (a : BitVec 6) (s : State) : State := setMember a.toNat (fun _ => {}) (newDevice a (dropAddr a s))

/-- R330: the placed serving stream of two delays: 1 OUT, 2 BACK, 0 none. -/
def placeOf (dOut dBack : Nat) : Nat :=
  if dOut = 0xFFFF && dBack = 0xFFFF then 0 else if dOut ≤ dBack then 1 else 2

/-- R339: the delays of a map's device that its indices let it measure: both on a closed ring, else that of its branch. No
frame of chapters 11 and 12 brings the head their values, so each is a free value (log 45). -/
def entDelays (c : Commit) (d : Nat) (e : MapEnt) : MapEnt :=
  let v (k : Nat) : Nat := (Config.freeWord (d + k)).toNat % 0xFFFF
  let out := decide (e.addr.toNat ≤ c.nOut.toNat + 1)
  { e with dOut := if c.closed || out then v 0 else 0xFFFF, dBack := if c.closed || !out then v 1 else 0xFFFF }

/-- The map with its delays; two free values a device (log 23). -/
def mapDelays (c : Commit) (d : Nat) (m : List MapEnt) : List MapEnt := m.zipIdx.map (fun e => entDelays c (d + 2 * e.2) e.1)

/-- The map that the head's records and its commit make. -/
def mapOfCommit (s : State) (c : Commit) : List MapEnt :=
  headEnt s :: (s.enum.ids.filter (fun r => r.stream == .out || !c.closed)).map (entOf c.h)

/-- R337, R343 to R345: the apply boundary at the head. -/
def applyHead (c : Commit) (s : State) : State :=
  let m := mapDelays c s.free (mapOfCommit s c)
  let old := if s.enum.inForce then s.enum.map ++ s.enum.reserved else s.enum.prior
  let res := if inMode s .run then (setDevices s).filter (fun d => !m.any (fun x => x.uid == d.uid)) else []
  let s1 := { s with
    enum := { s.enum with
      map := m, reserved := res, prior := [], closed := c.closed, nOut := c.nOut, nBack := c.nBack, inForce := true
      held := false, unstable := false, phase := 0, commit := none, aborted := false
      epochCtr := s.enum.epochCtr + 1, epoch := s.enum.epochCtr + 1, mapChk := mapCheck c.h.toNat m, h := c.h }
    link := { s.link with cont := c.h.toNat - 1 }
    free := s.free + 2 * m.length }
  let s2 := (returnedAddrs s old m res).foldl (fun s a => addrReturned a s) s1
  let s3 := (changedAddrs old m res).foldl (fun s a => addrChanged a s) s2
  mirrorFollow (mapFollow s3)

/-- R337: the address a member takes. -/
def addrOf (c : Commit) (e : EnumSt) : BitVec 6 :=
  if e.tackOut != 0 then 1 + e.tackOut else if e.tackBack != 0 then c.h + 1 - e.tackBack else 63

/-- A member's address changed or left 63 (R344). -/
def newAddr (a : BitVec 6) (s : State) : State :=
  if a == s.sys.addr then s
  else
    let d := { s.dev with seqValid := true, seqExp := 0, stored := [], ready := [], inbox := [] }
    let s1 := { s with sys := { s.sys with addr := a }, dev := d }
    if a == 63 then address63 s1 else s1

/-- R368: the address of an apply boundary: a change of it ends the inhibit of member frames. -/
def applyAddr (a : BitVec 6) (s : State) : State :=
  newAddr a (if a == s.sys.addr then s else { s with mirr := { s.mirr with txInh := false } })

/-- R321, R330: the serving stream after an apply. -/
def servePlaced (s : State) (place : Nat) : Nat :=
  let q := portGet s.link (streamPort place)
  if place != 0 && q.carrier && !q.folded then place else s.link.serve

/-- R326, R337, R345: the apply boundary at a member with its COMMIT. -/
def applyMember (c : Commit) (s : State) : State :=
  let e := s.enum
  let a := addrOf c e
  let on := a != 63
  let dOut := if on then c.dOut else 0xFFFF
  let dBack := if on then c.dBack else 0xFFFF
  let pl := if on then placeOf dOut dBack else 0
  let sv := servePlaced s pl
  let s1 := { s with
    enum := { e with
      commit := none, tackSearch := none, epoch := c.epoch, set := c.set, closed := c.closed, nOut := c.nOut, nBack := c.nBack
      h := c.h, dOut := BitVec.ofNat 16 dOut
      dBack := BitVec.ofNat 16 dBack, idxOut := if on then e.tackOut else 0, idxBack := if on then e.tackBack else 0, place := pl
      tackOut := 0, tackBack := 0, aborted := false }
    sys := { s.sys with role := if e.tackBack == 1 then .tail else .member }
    link := { s.link with serve := sv, epochBad := 0 } }
  let s2 := raiseIf (s.link.serve != 0 && sv != s.link.serve) srcLinkUpstreamLost (applyAddr a s1)
  match pathDelay s2 sv with
  | some d => { s2 with time := { s2.time with hopDly := d } }
  | none => s2

/-- R337: a member that received no COMMIT of the search takes address 63. -/
def applyMissed (s : State) : State :=
  applyAddr 63 { s with
    enum := { s.enum with tackSearch := none, tackOut := 0, tackBack := 0, aborted := false, idxOut := 0, idxBack := 0, place := 0
                          dOut := 0xFFFF, dBack := 0xFFFF }
    sys := { s.sys with role := .member } }

/-- The commit whose apply boundary has come. -/
def applyDue (s : State) : Option Commit :=
  match s.enum.commit with
  | some c => if s.time.fresh && c.applyAt == ringStitch s && (!isHead s || s.enum.phase == 3) then some c else none
  | none => none

/-- A commit that is due takes effect. -/
def searchApply (s : State) : State :=
  match applyDue s with
  | some c => rebegin (driveB (packPermits (if isHead s then applyHead c s else applyMember c s)))
  | none => s

/-- SEARCH_APPLY (R337): the apply boundary of a search. -/
def execSearchApply (s : State) : Out :=
  done (if !(linkUp s && s.time.fresh) then s
    else if (applyDue s).isSome then searchApply s
    else if !isHead s && s.enum.commit.isNone then rebegin (driveB (packPermits (applyMissed s)))
    else s)

/-- R345: two valid downstream messages with another epoch: address 63. A TAIL stays TAIL: only tacking gives roles (R88,
log 64). -/
def epochMismatch (s : State) : State :=
  if !isHead s && s.sys.addr != 63 && decide (2 ≤ s.link.epochBad) then
    raise srcEpochMismatch (newAddr 63 { s with link := { s.link with epochBad := 0 } })
  else s

/-- EPOCH_MISMATCH (R345). -/
def execEpochMismatch (s : State) : Out :=
  done (if linkUp s && s.time.fresh then rebegin (driveB (packPermits (epochMismatch s))) else s)

/-- SEQ_LOST (R347): a parity error in a member's sequence store. -/
def execSeqLost (s : State) : Out :=
  done (if linkUp s && !isHead s then raise srcSeqLost { s with dev := { s.dev with seqValid := false } } else s)

end Sys2Proof.Machine
end

