-- ==== Sys2Proof/Machine/Power.lean ====
section
/-! DEFINITION. Power, the keep-alive domain, the backup charger, hand-over and hand-back, breath checks, and the wake
sniff (18_power_keepalive_sleep; R371, R372). -/

namespace Sys2Proof.Machine

/-! ### Hand-over and hand-back (R484, R490 to R492) -/

/-- R490: the hand-over. -/
def handOver (s : State) : State :=
  let bak := bakUsable s
  let s1 := holdReset .handedOver 8 bak s
  let s2 := { s1 with
    sys := { s1.sys with vregOk := false, latchAtRelease := s1.sys.latchAtRelease ++ [srcStackLost] }
    pwr := { s1.pwr with handover := satInc s1.pwr.handover 0xFFFF, lostPt := s.time.pt
                         lostAtRelease := if bak then s1.pwr.lostAtRelease else s1.pwr.lostAtRelease ++ [(s.time.pt, 2)] } }
  if bak then
    let r := { jrec s 0x04 true srcStackLost 1 0 3 with pt := s.time.pt }
    srcSet 1 { s2 with jrnl := { s2.jrnl with mand := s2.jrnl.mand ++ [r] } }
  else srcSet 2 s2

/-- HAND_OVER (R490), in every mode except SHIP; a hand-over in progress is not repeated (R492). -/
def execHandOver (s : State) : Out :=
  done (if s.sys.mode == some .ship || s.sys.phase == .handedOver || s.pwr.src != 0 then s else handOver s)

/-- R491: the hand-back, and the start that continues at step 3 with START_CAUSE 0 (1 after an RST_N low, R492). VREG has been
above 4.7 V for 10 ms: R106 applies to the lows that have ended meanwhile (R492), and `KA.BAKTIME` takes the time on VBAK. -/
def handBack (s0 : State) : State :=
  let s := srcVreg (s0.sys.rstMs.foldl (fun s ms => resetLog ms s) { s0 with sys := { s0.sys with rstMs := [] } })
  let s1 := startPath (if s.sys.rstAfter then 1 else 0) s
  let w := s.sys.wake &&& 0x1F
  { s1 with
    sys := { s1.sys with rstAfter := false, wake := w, phase := if s.sys.rstLow then .resetHeld else .softStart }
    pwr := { s1.pwr with handback := satInc s1.pwr.handback 0xFFFF } }

/-- HAND_BACK (R491). -/
def execHandBack (s : State) : Out := done (if s.sys.phase == .handedOver then handBack s else s)

/-! ### Rails, buck, crystal (R480, R481, R483) -/

/-- R481: the rail's bit. -/
def railSet (rail : Fin 3) (s : State) : State :=
  { s with pwr := { s.pwr with rail := s.pwr.rail ||| BitVec.ofNat 3 (2 ^ rail.val) } }

/-- R481: a rail fault where the regulators run: in SHIP, in a hand-over and with the stack unpowered VREG is off (R478). The
held reset of thermal shutdown lasts, since only R291 ends it, and the part starts from it only with the rail back (log 60). -/
def railFault (rail : Fin 3) (s : State) : State :=
  match s.sys.phase with
  | .railHeld => railSet rail s
  | .thermalHeld => railSet rail { s with pwr := { s.pwr with railOut := true } }
  | .handedOver | .unpowered => s
  | _ => if s.sys.mode == some .ship then s
         else railSet rail (holdReset .railHeld 5 true { s with pwr := { s.pwr with rail := 0 } })

/-- RAIL_FAULT (R481): VDDA 0, VDDD 1, VDDR 2. -/
def execRailFault (rail : Fin 3) (s : State) : Out := done (railFault rail s)

/-- RAIL_FAULT_RECOVER (R481): the start-up path with START_CAUSE 0; steps 1 and 2 complete at once. An RST_N low holds
it as R98 states. In the held reset of thermal shutdown the part waits for R291; a wake that a breath check owes comes with the
start (R494, log 60). -/
def execRailFaultRecover (s : State) : Out :=
  done (match s.sys.phase with
    | .railHeld =>
      let s1 := if s.pwr.breathWake then wakeStart 0 3 true s else startPath 0 s
      { s1 with pwr := { s1.pwr with rail := s.pwr.rail } }
    | .thermalHeld => { s with pwr := { s.pwr with railOut := false } }
    | _ => s)

/-- R480: VREG outside 4.6 V to 5.4 V, or the buck in its current limit. -/
def buckOut (vreg : Nat) (limit : Bool) : Bool := decide (vreg < 4600) || decide (5400 < vreg) || limit

/-- R480: one slot's reading. -/
def buckSlot (vreg : Nat) (limit : Bool) (s : State) : State :=
  let bad := buckOut vreg limit
  { s with pwr := { s.pwr with vregNow := vreg, buckRun := if bad then s.pwr.buckRun + 1 else 0, buckBad := s.pwr.buckBad || bad } }

/-- R480: BUCK_FAULT raised. -/
def buckRaise (s : State) : State :=
  if awake s && decide (8 ≤ s.pwr.buckRun) && !s.pwr.buckFault then
    stand srcBuckFault true { s with pwr := { s.pwr with buckFault := true } }
  else s

/-- BUCK_FAULT (R480). -/
def execBuckFault (s : State) : Out := done (buckRaise s)

/-- R480, R497: the stitches without either condition, the release, and VREG of the stitch that ended. -/
def buckBoundary (s : State) : State :=
  let p := { s.pwr with vreg := s.pwr.vregNow, buckOk := if s.pwr.buckBad then 0 else s.pwr.buckOk + 1, buckBad := false }
  if p.buckFault && decide (8 ≤ p.buckOk) then stand srcBuckFault false { s with pwr := { p with buckFault := false } }
  else { s with pwr := p }

/-- XTAL_FAIL (R483): with the crystal in use, the clock moves to the RC oscillator. -/
def execXtalFail (s : State) : Out :=
  done (if s.pwr.xtalClk then { s with pwr := { s.pwr with xtalClk := false, xtalFail := true } } else s)

/-! ### The charger (R486 to R488) -/

/-- R486: the conditions under which the charger runs; T_D below 115 °C. -/
def chargerMay (s : State) : Bool :=
  fbit s .kaCfg 1 && s.pwr.src == 0 && awake s && decide (s.thrm.td < 460)

/-- R486 to R488: the charger charges. -/
def chargerOk (s : State) : Bool := chargerMay s && !s.pwr.bakOv && !s.pwr.bakAbsent && !s.pwr.cutForGood

/-- `KA.CFG.VCV` in mV. -/
def vcvMv (s : State) : Nat := 10 * fld s .kaCfg 24 16

/-- R486, R488: charging stops at once when a condition ends, and a presence probe with the conditions under which the charger
runs. -/
def chargerStop (s : State) : State :=
  if !chargerMay s then { s with pwr := { s.pwr with chg := 0, probing := false, probeIn := 0 } }
  else if chargerOk s then s else { s with pwr := { s.pwr with chg := 0 } }

/-- R488: the stitches from one presence probe to the next: one second while BAK_ABSENT stands, 60 s in FULL; none else. -/
def probeEvery (s : State) : Option Nat :=
  if !chargerMay s then none else if s.pwr.bakAbsent then some 1000 else if s.pwr.chg == 3 then some 60000 else none

/-- R488 at a boundary: a probe begins when its time has come; PRESENCE_PROBE gives its result. -/
def probeBoundary (s : State) : State :=
  let n := s.pwr.probeIn + 1
  { s with pwr := match probeEvery s with
    | some k => if k ≤ n then { s.pwr with probing := true, probeIn := 0 } else { s.pwr with probeIn := n }
    | none => { s.pwr with probing := false, probeIn := 0 } }

/-- R488: a lithium cell below 1.0 V. -/
def cellLow (s : State) (vbak : Nat) : Bool := !fbit s .kaCfg 2 && decide (vbak < 1000)

/-- CHARGER_CV (R486). -/
def execChargerCv (vbak : Nat) (s : State) : Out :=
  done (if chargerOk s && s.pwr.chg == 1 && decide (vcvMv s ≤ vbak) then { s with pwr := { s.pwr with chg := 2 } } else s)

/-- CHARGER_FULL (R486): the current, in 10 µA, below ICC/10. -/
def execChargerFull (ichg : Nat) (s : State) : Out :=
  done (if chargerOk s && s.pwr.chg == 2 && decide (ichg < 10 * fld s .kaCfg 11 8) then { s with pwr := { s.pwr with chg := 3 } } else s)

/-- CHARGER_RECHARGE (R486); a lithium cell below 1.0 V is never charged (R488). -/
def execChargerRecharge (vbak : Nat) (s : State) : Out :=
  done (if chargerOk s && !cellLow s vbak && ((s.pwr.chg == 3 && decide (vbak + 100 < vcvMv s)) || s.pwr.chg == 0) then
    { s with pwr := { s.pwr with chg := 1 } } else s)

/-- BAK_OV (R487), in every mode. -/
def execBakOv (vbak : Nat) (s : State) : Out :=
  done (if decide (3350 ≤ vbak) && !s.pwr.bakOv then
    srcFollow (stand srcBakOv true { s with pwr := { s.pwr with bakOv := true, chg := 0, probing := false } }) else s)

/-- BAK_OV_RESTART (R487): `sinceRestartMs` lies between the last restart and the cut. -/
def execBakOvRestart (vbak belowMs sinceRestartMs : Nat) (s : State) : Out :=
  done (if s.pwr.bakOv && decide (vbak + 100 < vcvMv s) && decide (1000 ≤ belowMs) then
    if s.pwr.cutForGood || (s.pwr.restarted && decide (sinceRestartMs ≤ 60000)) then
      { s with pwr := { s.pwr with cutForGood := true } }
    else
      let s1 := stand srcBakOv false { s with pwr := { s.pwr with bakOv := false, restarted := true } }
      srcFollow { s1 with pwr := { s1.pwr with chg := if chargerOk s1 && !cellLow s1 vbak then 1 else 0 } }
    else s)

/-- R488: the element judged absent. -/
def bakGone (s : State) : State :=
  if s.pwr.bakAbsent then s
  else srcFollow (stand srcBakAbsent true { s with pwr := { s.pwr with bakAbsent := true, chg := 0, probing := false, probeIn := 0 } })

/-- BAK_ABSENT (R488): a jump in CC, or, in any phase of an enabled charger, a lithium cell below 1.0 V. -/
def execBakAbsent (vbak riseMv : Nat) (s : State) : Out :=
  done (if (chargerMay s && s.pwr.chg == 1 && decide (150 ≤ riseMv)) || (fbit s .kaCfg 1 && cellLow s vbak) then bakGone s else s)

/-- R488: a presence probe passes. -/
def probePasses (s : State) (vbak riseMv : Nat) : Bool :=
  decide (riseMv < 150) && decide (vbak < 3350) && !cellLow s vbak

/-- R488: the result of a presence probe. -/
def probeResult (vbak riseMv : Nat) (s : State) : State :=
  if probePasses s vbak riseMv then
    if s.pwr.bakAbsent then
      let s1 := stand srcBakAbsent false { s with pwr := { s.pwr with bakAbsent := false, probeIn := 0 } }
      srcFollow { s1 with pwr := { s1.pwr with chg := if chargerOk s1 then 1 else 0 } }
    else s
  else bakGone s

/-- PRESENCE_PROBE (R488): while BAK_ABSENT stands, and in FULL, the probe that has begun ends with its result (log 73). The
time to the next probe runs from the begin of this one. -/
def execPresenceProbe (vbak riseMv : Nat) (s : State) : Out :=
  done (if (probeEvery s).isNone then s else probeResult vbak riseMv { s with pwr := { s.pwr with probing := false } })

/-! ### Levels of VKA (R485) -/

/-- RETENTION_BREAK (R485). On VBAK, VKA is 30 mV below it (R478): an element that has fallen below 2.4 V is no longer
usable (R484). In SHIP the keeper, of 2.7 V, no longer carries VKA then. -/
def execRetentionBreak (vka : Nat) (s : State) : Out :=
  done (if decide (vka < 2600) then
    srcFollow { s with
      pwr := { s.pwr with retOk := false, vbak := if s.pwr.src == 1 then vka + 30 else s.pwr.vbak
                          keeperOut := s.pwr.keeperOut || (s.sys.mode == some .ship && s.pwr.src == 2) }
      bob := { s.bob with refresh := false } }
    else s)

/-- R485: what is left when the keep-alive domain has lost its content: the OTP array, the journal, the supply. -/
def kaLoss (s : State) : State :=
  { pending := s.pending, free := s.free
    sys := { phase := .unpowered, mode := none, lockOpen := s.sys.lockOpen, rstLow := s.sys.rstLow }
    sio := { tpOn := false, tpa := false, tpb := false }, temp := { vtref := false }
    otp := { s.otp with job := none, req := none, cut := none, block := 0, gen := 0, words := 0, result := 0 }
    jrnl := { jrnlScan (jrnlCut s.jrnl) with mand := [], wear := false }
    pwr := { src := 2, vbak := s.pwr.vbak } }

/-- KA_CONTENT_LOSS (R485). -/
def execKaContentLoss (vka : Nat) (s : State) : Out := done (if decide (vka < 1800) then kaLoss (otpCut s) else s)

/-! ### Breath checks and the wake sniff (R371, R372, R493, R494) -/

/-- The first multiple of `d` above `t`. -/
def nextMultiple (d t : Nat) : Nat := if d = 0 then t else (t / d + 1) * d

/-- Pack time moved to an instant of the keep-alive clock. -/
def timeTo (t : Nat) (s : State) : State :=
  { s with time := { s.time with pt := BitVec.ofNat 64 t, ptB := BitVec.ofNat 64 (t / 1000 * 1000), slot := 0, fresh := false } }

/-- R289, R293: the thermal monitor over the stitches of a breath check, up to the shutdown it decides. -/
def breathDies (l : List (List Int)) (t : ThrmSt) : ThrmSt :=
  l.foldl (fun t d => if 2 ≤ t.sdRun then t else dieStep d t) { t with sdRun := 0 }

/-- R494: a sum of `n` readings whose mean lies outside the window `lo` to `hi`. -/
def meanOutside (lo hi sum : Int) (n : Nat) : Bool := decide (sum < lo * n) || decide (hi * n < sum)

/-- R493, R494: the coarse mean of a cell over the check, outside its window in mV. -/
def breathCell (i : BreathIn) (lo hi : Int) (n : Nat) : Bool :=
  let l := i.coarse.getD n []
  meanOutside lo hi (l.foldl (fun (a : Int) c => a + (2 * (c.toNat : Int) - 500)) 0) l.length

/-- R276, R493, R494: a thermistor broken in every stitch of the check, or whose mean over the stitches in which it is not
broken lies outside its window (log 71). -/
def breathTs (i : BreathIn) (beta : Nat) (lo hi : Int) (k : Nat) : Bool :=
  let l := (i.ts.getD k []).map (fun q => tsResult true false true beta q.toNat)
  let good := l.filter (fun r => !r.broken)
  good.isEmpty || meanOutside lo hi (good.foldl (fun (a : Int) r => a + r.t) 0) good.length

/-- R494: the first violation: thermal, then cells, then thermistors; kind and index. -/
def breathJudge (i : BreathIn) (s : State) : Option (Nat × Nat) :=
  let lo : Int := (fld s .brVwin 12 0 : Nat)
  let hi : Int := (fld s .brVwin 28 16 : Nat)
  let tlo := toSigned 16 (fld s .brTwin 15 0)
  let thi := toSigned 16 (fld s .brTwin 31 16)
  if 2 ≤ s.thrm.sdRun then some (3, s.thrm.sdNowIdx)
  else match (List.range 32).find? (fun n => populated s n && breathCell i lo hi n) with
    | some n => some (1, n + 1)
    | none =>
      ((List.range 16).find? (fun k => tsPop s k && breathTs i (fld s .tempNtc 12 0) tlo thi k)).map (fun k => (2, k))

/-- R493, R494: a breath check at its instant. A thermal shutdown runs R290 first, and the wake follows it. -/
def breath (i : BreathIn) (s : State) : State :=
  let s0 := timeTo (nextMultiple (1000000 * fld s .brCfg 11 0) s.time.pt.toNat) s
  let th := breathDies (i.dies.map (fun d => dieTemps d s0.thrm)) s0.thrm
  let s1 := { s0 with pwr := { s0.pwr with brCount := satInc s0.pwr.brCount 0xFFFF }, thrm := th }
  match breathJudge i s1 with
  | none => s1
  | some (k, n) =>
    let s2 := { s1 with pwr := { s1.pwr with brKind := k, brIdx := n } }
    if k = 3 then
      let (w, s0) := drawFree s2
      let s3 := thermalRecord w.toNat (thermalTrip s0.thrm.sdNowCause n s0)
      { s3 with sys := { s3.sys with wake := s3.sys.wake ||| 8 }, pwr := { s3.pwr with breathWake := true } }
    else wakeStart 4 3 true s2

/-- BREATH_CHECK (R493, R494). -/
def execBreathCheck (i : BreathIn) (s : State) : Out :=
  done (if asleep s && fbit s .brCfg 16 then breath i s else s)

/-- WAKE_SNIFF (R371); the buck leaves burst mode while the receiver is open (R479). -/
def execWakeSniff (s : State) : Out :=
  done (if asleep s && fbit s .mirrCfg 4 && s.otp.genP.isSome then
    let s1 := timeTo (nextMultiple 1048576 s.time.pt.toNat) s
    { s1 with mirr := { s1.mirr with sniff := true }, pwr := { s1.pwr with burst := false } }
    else s)

/-- R357, R360: the header, CRC and MIC of a frame of `h` header and `p` payload bytes are right under a nonce time. -/
def frameCrcOk (h p : Nat) (f : List Byte) : Bool :=
  let n := h + p + 4
  f.length == n + 2 && bytesNat (f.drop n) == (crc16 (f.take n)).toNat

/-- R360: the plaintext of a frame whose MIC holds. -/
def frameOpen (key nonce : List Byte) (h p : Nat) (f : List Byte) : Option (List Byte) :=
  let pl := ccmCrypt key nonce ((f.drop h).take p)
  if (f.drop (h + p)).take 4 == ccmMic key nonce (f.take h) pl then some pl else none

/-- R372: a wake frame is accepted. -/
def wakeFrameOk (f : List Byte) (s : State) : Bool :=
  let t := bytesNat ((f.drop 2).take 8)
  let now := s.time.pt.toNat
  frameCrcOk 10 0 f && bits ((f.getD 0 0).setWidth 32) 7 6 == 2 && f.getD 1 0 == 0 &&
    (frameOpen (packKey s) (nonceOf t (f.getD 0 0) 0) 10 0 f).isSome &&
    decide (t ≤ now + 10000000) && decide (now ≤ t + 10000000) && decide (s.mirr.lastWake.toNat < t)

/-- WAKE_FRAME_RECEIVE (R371, R372): `us` after the receiver opened, which stays open for 250 µs. -/
def execWakeFrameReceive (us : BitVec 9) (frame : List Byte) (s : State) : Out :=
  done (if asleep s && s.mirr.sniff && decide (us.toNat ≤ 250) && s.otp.genP.isSome then
    if wakeFrameOk frame s then
      let t := BitVec.ofNat 64 (bytesNat ((frame.drop 2).take 8))
      wakeStart 4 2 false { s with mirr := { s.mirr with lastWake := t, sniff := false } }
    else s
    else s)

/-- PWR.WAKE.CLR at the head. DEDUCED (log 77): it acts with the write (R495), where R497 names the boundary of R29. -/
def wakeClrApply (s : State) : State := { s with pwr := { s.pwr with wakeOut := false } }

end Sys2Proof.Machine
end

