-- ==== Sys2Proof/Machine/Mirror.lean ====
section
/-! DEFINITION. The mirror radio: cycles, beacons, member frames, the comparison at the head, and the key staging
(13_mirror_radio; R95, R369). The receive rows carry the bytes after the access address. -/

namespace Sys2Proof.Machine

/-- R354, R356, R36: the cycles run, with their judgements of what was heard; in FACTORY the radio sends nothing by itself
(R356, log 41), and a silence has the consequences of R95 there too. Until the held reset of R290 the mode is what it was.
DESIGN CHOICE (log 78): a device without a valid PACK generation, whose radio stays off, judges no silence. -/
def mirrorRuns (s : State) : Bool :=
  (s.sys.phase == .coreOn || s.sys.phase == .coreRestart) && awake s && s.otp.genP.isSome

/-- R356: the radio sends by itself. -/
def mirrorSends (s : State) : Bool := mirrorRuns s && !inMode s .factory

/-- R47: whole stitches of pack time at the start of the cycle that runs. -/
def cycleStart (s : State) : Nat := stitches s - stitches s % 10
/-- The slot of 125 µs of the cycle that runs, 0 to 79. -/
def cycleSlot (s : State) : Nat := 8 * (stitches s % 10) + s.time.slot.val
/-- R354: the start of the mirror slot of an address, µs from the start of its cycle. -/
def slotUs (a : Nat) : Nat := 500 + 150 * (a - 2)
/-- R354: whole stitches of the slot's stitch of an address. -/
def slotStitch (s : State) (a : Nat) : Nat := cycleStart s + slotUs a / 1000
/-- R355: the channel index of cycle `c`. -/
def channelIndex (c : Nat) : Nat := 5 * c % 8

/-! ### Frames (R357 to R361) -/

/-- R368: TCHK_ADDR of cycle `c`. -/
def tchkAddr (s : State) (c : Nat) : Nat :=
  let h := s.enum.h.toNat
  if 2 ≤ h then 2 + c % (h - 1) else 0

/-- R359: TCHK_ID of an address. -/
def tchkId (s : State) (a : Nat) : Word :=
  match s.enum.map.find? (fun e => e.addr.toNat == a) with
  | some e => e.uid.setWidth 32
  | none => 0xFFFFFFFF

/-- R359: the beacon payload of the cycle that begins. -/
def beaconPayload (s : State) : List Byte :=
  let t := tchkAddr s (stitches s / 10)
  natBytes 2 (stitch s).toNat ++
  [BitVec.ofNat 8 (modeField s * 32 + safetyCode s.safe.state * 8 + (if packChg s then 4 else 0) + (if packDsg s then 2 else 0)),
   BitVec.ofNat 8 (linkCode s.link.state * 64 + s.enum.h.toNat)] ++ wordBytes s.enum.epoch ++
  [BitVec.ofNat 8 t, 0] ++ wordBytes (tchkId s t) ++ natBytes 2 (s.safe.pseal.setWidth 16).toNat

/-- R357, R359: the beacon of the cycle that begins; both copies are identical. -/
def beaconFrame (s : State) : List Byte :=
  let hdr : List Byte := [BitVec.ofNat 8 s.sys.addr.toNat, 0] ++ wordBytes s.mirr.session
  frameSeal (packKey s) (nonceOf s.time.ptB.toNat (hdr.getD 0 0) s.mirr.session) hdr (beaconPayload s)

/-- R358: the member payload at the start of its slot. -/
def memberPayload (s : State) : List Byte :=
  let x := sum0 s
  let z := sum2 s
  natBytes 2 (stitch s).toNat ++
  [BitVec.ofNat 8 (stitches s / 10), BitVec.ofNat 8 (s.sys.addr.toNat * 4 + bits x 25 24),
   BitVec.ofNat 8 (bits x 23 16), BitVec.ofNat 8 (bits x 15 8)] ++ wordBytes (sum1 s) ++
  natBytes 2 (bits z 31 22 * 64 + bits z 21 20 * 16 + bits z 19 17 * 2 + (if bit x 7 then 1 else 0)) ++
  natBytes 2 (tmaxField s) ++ natBytes 2 ((sealGen s).setWidth 16).toNat

/-- R357, R358: the member frame. -/
def memberFrame (s : State) : List Byte :=
  let hdr : List Byte := [BitVec.ofNat 8 (64 + s.sys.addr.toNat), 0]
  let t := 1000 * cycleStart s + slotUs s.sys.addr.toNat
  frameSeal (packKey s) (nonceOf t (hdr.getD 0 0) s.mirr.session) hdr (memberPayload s)

/-! ### The cycle (R354, R361, R374) -/

/-- R374: a lock failure or low power: RADIO_FAULT, and no more sending in this cycle. -/
def radioFault (s : State) : State :=
  raise srcRadioFault { s with mirr := { s.mirr with stopped := true, frameTx := [] } }

/-- R361: a word drawn until it is not zero: each nonzero word is possible. -/
def nonzeroWord (w : Word) : Word := BitVec.ofNat 32 (1 + w.toNat % 0xFFFFFFFF)

/-- R361: SESSION drawn at the start of the first cycle: the first word of noise that is not zero; with none, a free one
(log 42). -/
def drawSession (noise : List Word) (s : State) : State :=
  if s.mirr.session != 0 then s
  else
    match noise.find? (· != 0) with
    | some w => { s with mirr := { s.mirr with session := w } }
    | none => let (w, s1) := drawFree s
              { s1 with mirr := { s1.mirr with session := nonzeroWord w } }

/-- R354, R355: the bookkeeping of the cycle that begins. -/
def cycleBegin (s : State) : State :=
  let c := stitches s / 10
  { s with
    mirr := { s.mirr with cycle := c, chIdx := channelIndex c, beaconNow := false, stopped := false, frameTx := [] }
    link := { s.link with members := s.link.members.map (fun (m : Member) => { m with slotCopy := none }) } }

/-- R354: a mirror cycle begins; the head sends both beacon copies. -/
def mirrorCycle (noise : List Word) (txOk : Bool) (s : State) : State :=
  let s1 := cycleBegin s
  if !isHead s || !mirrorSends s then s1
  else
    let s2 := drawSession noise s1
    if txOk then { s2 with mirr := { s2.mirr with frameTx := onAir (beaconFrame s2) } } else radioFault s2

/-- The boundary that has come begins a cycle (R47). -/
def cycleDue (s : State) : Bool :=
  mirrorRuns s && s.time.fresh && s.time.ptB.toNat % 10000 == 0

/-- MIRROR_CYCLE_START (R354, R355, R361, R374). -/
def execMirrorCycleStart (noise : List Word) (txOk : Bool) (s : State) : Out :=
  done (if cycleDue s then mirrorCycle noise txOk s else s)

/-- A cycle whose beginning was not commanded begins all the same. -/
def mirrorCycleDue (s : State) : State :=
  if cycleDue s && s.mirr.cycle != stitches s / 10 then mirrorCycle [] true s else s

/-! ### Members and the beacon (R361, R362, R368 to R370) -/

/-- A frame discarded for a check other than the MIC (R362). -/
def mirrorOther (s : State) : State := { s with mirr := { s.mirr with otherErr := satInc s.mirr.otherErr 0xFFFF } }
/-- A frame that fails its MIC with a valid CRC (R362, R375). -/
def mirrorMic (s : State) : State :=
  raise srcMirrorMicErr { s with mirr := { s.mirr with micErr := satInc s.mirr.micErr 0xFFFF } }

/-- R362: the checks of a beacon's content, but its MIC. -/
def beaconOkHere (f pl : List Byte) (s : State) : Bool :=
  let b (i : Nat) : Nat := (pl.getD i 0).toNat
  f.getD 0 0 == 1 && f.getD 1 0 == 0 && bytesNat (pl.take 2) == (stitch s).toNat && b 2 % 2 == 0 &&
    decide (b 8 < 64) && b 9 == 0

/-- R368: the tack check of an accepted beacon. -/
def tackCheck (pl : List Byte) (s : State) : State :=
  let a := (pl.getD 8 0).toNat
  if a != 0 && a == s.sys.addr.toNat && bytesNat ((pl.drop 10).take 4) != s.otp.uid.toNat % 2 ^ 32 then
    raise srcTackXchkFail { s with mirr := { s.mirr with txInh := true } }
  else s

/-- R370: the copy of a beacon whose access address ends `endNs` after the start of the cycle, the second from the middle of the
beacon window on (R354), and the nominal instant of that end, ns. -/
def secondCopy (endNs : Nat) : Bool := decide (250000 ≤ endNs)
def beaconNs (endNs : Nat) : Nat := if secondCopy endNs then 294000 else 44000

/-- R361, R369, R370: an accepted beacon; while SPLIT its timestamp corrects the phase of the time base, and with it pack time, which
runs in that base (log 83). -/
def beaconTake (endNs : Nat) (f pl : List Byte) (rssi : BitVec 8) (s : State) : State :=
  let b2 := (pl.getD 2 0).setWidth 32
  let s1 := { s with mirr := { s.mirr with
    session := BitVec.ofNat 32 (bytesNat ((f.drop 2).take 4)), beaconOk := true, beaconNow := true, beaconMiss := 0
    lost := false, seen := true, rssi := rssi, packMode := bits b2 7 5, packSafety := bits b2 4 3, chg := bit b2 2
    dsg := bit b2 1, packLink := bits ((pl.getD 3 0).setWidth 32) 7 6, phaseNs := (endNs : Int) - (beaconNs endNs : Nat) } }
  let s2 := if s.mirr.lost then stand srcBeaconLost false s1 else s1
  let s3 := if s.link.state == .split then skewNow { s2 with time := { s2.time with radioSync := true } } else s2
  driveB (packPermits (tackCheck pl s3))

/-- R362: a beacon copy received in its window. -/
def beaconReceive (endNs : Nat) (f : List Byte) (rssi : BitVec 8) (s : State) : State :=
  if !(frameCrcOk 6 16 f) then mirrorOther s
  else
    let session : Word := BitVec.ofNat 32 (bytesNat ((f.drop 2).take 4))
    match frameOpen (packKey s) (nonceOf (1000 * cycleStart s) (f.getD 0 0) session) 6 16 f with
    | none => mirrorMic s
    | some pl => if beaconOkHere f pl s then beaconTake endNs f pl rssi s else mirrorOther s

/-- BEACON_RECEIVE (R362, R370): `endNs` is this device's timestamp of the end of the access address; a copy outside its part of the
beacon window is counted, and one after the accepted one of its cycle is ignored. -/
def execBeaconReceive (endNs : Nat) (frame : List Byte) (rssi : BitVec 8) (s : State) : Out :=
  let lo : Nat := if secondCopy endNs then 2 else 0
  done (if !mirrorRuns s || isHead s then s
    else if cycleSlot s < lo || lo + 2 ≤ cycleSlot s then mirrorOther s
    else if s.mirr.beaconNow then s
    else beaconReceive endNs frame rssi s)

/-- R369: the end of the beacon window, 500 µs after the cycle's start: a cycle without an accepted beacon counts. -/
def beaconWindow (slot : Nat) (s : State) : State :=
  if mirrorRuns s && !isHead s && slot == 4 && stitches s % 10 == 0 && !s.mirr.beaconNow then
    { s with mirr := { s.mirr with beaconOk := false, beaconMiss := satInc s.mirr.beaconMiss 15 } }
  else s

/-- R95: what a member does that is SPLIT and has no radio: no permit, no bleed switch, the bobbin frozen. -/
def silentReact (s : State) : State :=
  driveB (packPermits { s with bob := recFreeze 6 s.bob, bal := { s.bal with sw := 0, closed := 0 } })

/-- R369: no beacon accepted in TIMEOUT + 1 cycles. -/
def beaconLost (s : State) : State :=
  if mirrorRuns s && !isHead s && !s.mirr.lost && decide (fld s .mirrTol 27 24 < s.mirr.beaconMiss) then
    let s1 := stand srcBeaconLost true { s with mirr := { s.mirr with lost := true } }
    let s2 := skewNow { s1 with time := { s1.time with radioSync := false } }
    if splitSilent s2 then silentReact s2 else driveB (packPermits s2)
  else s

/-- BEACON_LOST (R369, R95). -/
def execBeaconLost (s : State) : Out := done (beaconLost s)

/-! ### Member frames (R358, R362, R364) -/

/-- R356: the device sends in the slot that runs. -/
def slotSends (s : State) : Bool :=
  let a := s.sys.addr.toNat
  mirrorSends s && !isHead s && decide (2 ≤ a) && decide (a ≤ 62) && !s.mirr.txInh && !s.mirr.stopped &&
    slotUs a / 125 == cycleSlot s

/-- MIRROR_SLOT_SEND (R358, R374): in the slot of 125 µs in which the member's mirror slot begins. -/
def execMirrorSlotSend (txOk : Bool) (s : State) : Out :=
  done (if slotSends s then
    (if txOk then { s with mirr := { s.mirr with frameTx := onAir (memberFrame s) } } else radioFault s) else s)

/-- R362: the copy that a member payload spells for address `a`, when its fields hold. -/
def copyOfFrame (f pl : List Byte) (a : BitVec 6) (st : BitVec 16) : Option Copy :=
  let b (i : Nat) : Nat := (pl.getD i 0).toNat
  let z : Nat := bytesNat ((pl.drop 10).take 2)
  if f.getD 0 0 == BitVec.ofNat 8 (64 + a.toNat) && f.getD 1 0 == 0 && bytesNat (pl.take 2) == st.toNat &&
      b 3 / 4 == a.toNat then
    some { addr := a, safety := safetyOf (b 3 % 4), tripA := BitVec.ofNat 8 (b 4), tripB := BitVec.ofNat 8 (b 5)
           coreRestart := z % 2 == 1, vmin := bytesNat ((pl.drop 6).take 2), vmax := bytesNat ((pl.drop 8).take 2)
           imin := z / 2048, imax := z / 64 % 32, link := linkOf (z / 16 % 4), xdis := z / 8 % 2 == 1
           ilost := z / 4 % 2 == 1, deg := z / 2 % 2 == 1, tmax := BitVec.ofNat 16 (bytesNat ((pl.drop 12).take 2))
           sealLo := BitVec.ofNat 16 (bytesNat ((pl.drop 14).take 2)), stitch := st }
  else none

/-- R364, R389, R390: an accepted radio copy of a device of the safety set acts as a wired one does, at its check. -/
def radioActs (c : Copy) (s : State) : State :=
  let s1 := packFall c s
  if c.safety == .lockout then trip .lockout 1 true true c.addr true s1
  else if copyTrips c then trip .tripped 1 true true c.addr true s1
  else s1

/-- R362: the addresses of the map, and of the safety set, in force at the start of the slot of address `a`. -/
def mapAtSlot (s : State) (a : Nat) : BitVec 64 × BitVec 64 :=
  if slotStitch s a < stitches s then (s.enum.mapPrev, s.enum.setPrev) else (addrMap s.enum.map, s.enum.set)

/-- R367: the device that the map has at address `a` held it at the start of its slot. -/
def heldAtSlot (s : State) (a : Nat) : Bool := !(decide (slotStitch s a < stitches s) && s.enum.newHere.getLsbD a)

/-- R362: a member frame received in the slot of address `a`; one of the device that held the address before acts, and leaves no copy
with the device that holds it now (R367). -/
def memberReceive (a : BitVec 6) (f : List Byte) (rssi : BitVec 8) (s : State) : State :=
  if !(frameCrcOk 2 16 f) then mirrorOther s
  else
    let t := 1000 * cycleStart s + slotUs a.toNat
    match frameOpen (packKey s) (nonceOf t (f.getD 0 0) s.mirr.session) 2 16 f with
    | none => mirrorMic s
    | some pl =>
      match copyOfFrame f pl a (BitVec.ofNat 16 (slotStitch s a.toNat)) with
      | none => mirrorOther s
      | some c =>
        let m := mapAtSlot s a.toNat
        if !(m.1.getLsbD a.toNat) then mirrorOther s
        else if !(m.2.getLsbD a.toNat) then s
        else if !heldAtSlot s a.toNat then radioActs c s
        else radioActs c (setMember a.toNat (fun m => { m with slotCopy := some c, radio := some c, rssi := rssi }) s)

/-- The slot of 125 µs that runs holds some of the time from `lo` to before `hi`, µs from the cycle's start. -/
def cycleHolds (s : State) (lo hi : Nat) : Bool := decide (lo / 125 ≤ cycleSlot s) && decide (125 * cycleSlot s < hi)

/-- MEMBER_FRAME_RECEIVE (R362): at the head, in the mirror slot `slot` (0 to 60) after the frame's end; elsewhere the frame
is counted. -/
def execMemberFrameReceive (slot : BitVec 6) (frame : List Byte) (rssi : BitVec 8) (s : State) : Out :=
  let a : Nat := slot.toNat + 2
  done (if !mirrorRuns s || !isHead s then s
    else if decide (a ≤ 62) && cycleHolds s (slotUs a + 130) (slotUs a + 150) then memberReceive (BitVec.ofNat 6 a) frame rssi s
    else mirrorOther s)

/-! ### The comparison (R363, R365, R366) -/

/-- R363: two codes compare within a tolerance; a marker equals only itself. -/
def codesAgree (tol x y : Nat) : Bool :=
  if 0xFFF0 ≤ x ∨ 0xFFF0 ≤ y then x == y else decide (((x : Int) - y).natAbs ≤ tol)

/-- R363: two temperatures compare within a tolerance; 0x7FFF equals only itself. -/
def tempsAgree (tol : Nat) (x y : BitVec 16) : Bool :=
  if x == 0x7FFF || y == 0x7FFF then x == y else decide ((x.toInt - y.toInt).natAbs ≤ tol)

/-- R363: every comparison is within tolerance. -/
def copiesAgree (s : State) (m : Member) (r w : Copy) : Bool :=
  let v := 10 * fld s .mirrTol 8 0
  codesAgree v r.vmin w.vmin && codesAgree v r.vmax w.vmax && tempsAgree (10 * fld s .mirrTol 23 16) r.tmax w.tmax &&
    r.safety == w.safety && (match m.thread with | some t => r.sealLo == (threadWord t 0).setWidth 16 | none => true)

/-- R363: the wired copy a judgement takes. -/
def wiredHere (s : State) (a : Nat) : Option Copy :=
  let m := member s a
  let k := slotStitch s a
  if m.wiredAt ≤ k ∧ k ≤ m.wiredAt + 9 then m.wired else none

/-- R363: the class of a member in this cycle: 0 AGREE, 1 DISAGREE, 2 RADIO_ABSENT, 3 WIRED_ABSENT, 4 BOTH_ABSENT. -/
def mirrorClass (s : State) (a : Nat) : Nat :=
  let m := member s a
  match m.slotCopy, wiredHere s a with
  | some r, some w => if copiesAgree s m r w then 0 else 1
  | none, some _ => 2
  | some _, none => 3
  | none, none => 4

/-- R363, R365, R366: a member's record after a cycle of a class; `n` is TIMEOUT + 1. -/
def memberJudged (n cls cycle : Nat) (m : Member) : Member :=
  let non := if cls = 0 then 0 else satInc m.nonAgree 255
  let ag := if cls = 0 then satInc m.agree 16 else 0
  { m with
    cls := cls, nonAgree := non, both := if cls = 4 then satInc m.both 255 else 0, agree := ag, slotCopy := none
    fault := if n ≤ non then true else if ag = 16 then false else m.fault
    lastBad := if cls = 0 then m.lastBad else cls, judged := some cycle }

/-- R363 to R366: the judgement of one member, 20 µs after the end of its slot. A pack-level cause has origin 0
(R407). -/
def mirrorJudge (a : Nat) (s : State) : State :=
  let n := fld s .mirrTol 27 24 + 1
  let s1 := mirrorFollow (setMember a (memberJudged n (mirrorClass s a) (stitches s / 10)) s)
  if n ≤ (member s1 a).both then trip .tripped 1 true true 0 true s1 else s1

/-- R367: a judgement of address `a`, of the safety set at its slot start with the device that it has now, is due in the slot that runs
and has not been made. -/
def judgeDue (s : State) (a : Nat) : Bool :=
  mirrorRuns s && isHead s && decide (2 ≤ a) && decide (a ≤ 62) && (slotUs a + 170) / 125 == cycleSlot s &&
    (mapAtSlot s a).2.getLsbD a && heldAtSlot s a && (member s a).judged != some (stitches s / 10)

/-- MIRROR_JUDGE (R363). -/
def execMirrorJudge (addr : BitVec 6) (s : State) : Out :=
  done (if judgeDue s addr.toNat then mirrorJudge addr.toNat s else s)

/-- Judgements of the slot that ends that were not commanded; before slot 0 no slot has run in the stitch. -/
def judgeRest (s : State) : State :=
  if s.time.fresh then s
  else (List.range 63).foldl (fun s a => if judgeDue s a then mirrorJudge a s else s) s

/-! ### The staged key (R377) -/

/-- R377: the judgement of a write of `MIRR.KEYk`. -/
def keyJudge (s : State) : Nat := if inMode s .commission then 0 else 3

/-- One word of the key staged. -/
def keyStageApply (k : Nat) (v : Word) (s : State) : State :=
  { s with mirr := { s.mirr with staged := s.mirr.staged.set k (some v) } }

/-- R376: `MIRR.KEY_STG`. -/
def keyStg (s : State) : Word := match stagedKey s with | some k => (kcvOf k).setWidth 32 | none => 0

end Sys2Proof.Machine
end

