-- ==== Sys2Proof/Machine/Read.lean ====
section
/-! DEFINITION. What a read of each register returns, and what it clears (R10, R13, R134, R138 to R143; the field tables
of every page). -/

namespace Sys2Proof.Machine

/-! ### The common page layout (R139) -/

/-- The halves of a map of addresses. -/
def loHalf (m : BitVec 64) : Word := m.setWidth 32
@[inherit_doc loHalf] def hiHalf (m : BitVec 64) : Word := (m >>> 32).setWidth 32

/-- R507 and the BAL page: PG_CTRL.HALT and the other BCTRL bits; only the BAL page defines one. -/
def pageCtrl (s : State) (p : Nat) : Word := if p = 0x0D then cfgGet s.cfgW .balCtrl else 0

/-- The events of a page gathered from a 128-bit map, in the order of R432. -/
def pageBits (p : Nat) (m : BitVec 128) : Word :=
  let l := pageSources p
  mapBits 32 (fun k => match l[k]? with | some n => m.getLsbD n | none => false)

/-- The enable bits of all sources as written. -/
def enableMap (c : Cfg) : BitVec 128 :=
  BitVec.ofNat 128 ((((cfgGet c .colEnH).toNat * 2 ^ 32 + (cfgGet c .colEnC).toNat) * 2 ^ 32 +
    (cfgGet c .colEnD).toNat) * 2 ^ 32 + (cfgGet c .colEnS).toNat)

/-- R351: the head is in a search. -/
def searching (s : State) : Bool := isHead s && decide (1 ≤ s.enum.phase)

/-- R451: the highest effective level among latched sources. -/
def maxLevel (s : State) : Nat :=
  (List.range 128).foldl (fun a n => if s.col.lat.getLsbD n then max a (s.col.eff.getD n 0) else a) 0

/-- R288, R512: a record is being written: one in progress, or the next, which begins at once when it may. -/
def jrnlWriting (s : State) : Bool := (jrnlBegin s).jrnl.busy.isSome

/-- R139: BSTAT of a page, bit 0 its bit [16]. -/
def pageBstat (s : State) (p : Nat) : Nat :=
  let b (x : Bool) : Nat := if x then 1 else 0
  match p with
  | 0x03 => b (isHead s && s.link.ringClosed)
  | 0x04 => b (searching s)
  | 0x05 => b (mirrorSends s)
  | 0x06 => b s.meas.modOn
  | 0x07 => s.meas.armed.toNat
  | 0x08 => b (kelvin s)
  | 0x09 => b s.cur.inValid
  | 0x0A => b (impRuns s)
  | 0x0B => b (s.temp.ts.any (fun t => t.isBroken))
  | 0x0C => b s.thrm.warn
  | 0x0D => b (s.bal.on != 0)
  | 0x0E => b s.diag.unit.isSome
  | 0x0F => b (s.cal.ramp || !s.cal.repair.isEmpty) + 2 * b (s.cal.status == 2)
  | 0x10 => b (inMode s .run && s.otp.genS.isSome)
  | 0x11 => b (siAllActive s)
  | 0x12 => b (maxLevel s == 3)
  | 0x14 => b (s.bob.st == 1 || s.bob.st == 2) + 2 * b (s.bob.st == 3)
  | 0x15 => b (s.bob.retired.length == 256)
  | 0x16 => b s.pwr.burst
  | 0x17 => b (s.pwr.src == 1)
  | 0x18 => b (otpBusy s)
  | 0x19 => b (jrnlWriting s)
  | _ => 0

/-- R139: the work of a block runs; the chapters do not define it for every page (log 43). -/
def pageActive (s : State) (p : Nat) : Bool :=
  match p with
  | 0x02 => isHead s && coreRuns s
  | 0x03 => linkUp s
  | 0x04 => searching s
  | 0x05 => mirrorSends s
  | 0x06 | 0x07 | 0x09 => s.meas.modOn
  | 0x08 | 0x0B | 0x0C | 0x10 | 0x11 => hwslOn s
  | 0x0A => impRuns s
  | 0x0D => inMode s .run && coreRuns s && !fbit s .balCtrl 16
  | 0x0E => s.diag.unit.isSome || awake s
  | 0x0F => s.cal.ramp || !s.cal.repair.isEmpty || s.diag.tvLeft.isSome
  | 0x13 => false
  | 0x14 => s.bob.st == 1 || s.bob.st == 2
  | 0x18 => otpBusy s
  | 0x19 => jrnlWriting s
  | 0x1F => inMode s .factory
  | _ => coreRuns s

/-- R39, R139: a task of the page's block is shed; which blocks they are is read from their names (log 43). -/
def pageShed (s : State) (p : Nat) : Bool :=
  match p with
  | 0x01 => decide (1 ≤ s.time.shed)
  | 0x0A => decide (2 ≤ s.time.shed)
  | 0x19 => decide (3 ≤ s.time.shed)
  | _ => false

/-- R235, R139: a foreground unit holds outputs of the page. -/
def pageTesting (s : State) (p : Nat) : Bool :=
  match s.diag.unit with
  | none => false
  | some u =>
    if p = 0x07 then unitHolds s u != 0
    else if p = 0x08 then s.meas.cttCell.isSome
    else if p = 0x0D then (bstCell s).isSome else false

/-- R139: `PG_STAT`. -/
def pageStat (s : State) (p : Nat) : Word :=
  place (pageBstat s p) 16 ||| flag (pageTesting s p) 2 ||| flag (pageShed s p) 1 ||| flag (pageActive s p) 0

/-- A count in its field of `w` bits, the highest it shows being all ones (R13, R139). -/
def field (w v lsb : Nat) : Word := place (min v (2 ^ w - 1)) lsb

/-- R139: `PG_ERR`. -/
def pageErr (s : State) (p : Nat) : Word :=
  let e := s.pgErr.getD p {}
  field 8 e.code 16 ||| field 8 e.cnt 8 ||| field 8 e.off 0

/-- R420: pages that hold a sealed field. -/
def pageSealed (p : Nat) : Bool :=
  descs.any (fun d => decide (d.base / 256 = p) && d.fields.any (fun f => f.acc == .rws))

/-- R139: `PG_LOCK`. DESIGN CHOICE (log 82): MLOCK of the SAFE page tells of its RWS fields; `SAFE.PG_EVTE` is written in every mode. -/
def pageLock (s : State) (p : Nat) : Word :=
  flag (!s.sys.lockOpen) 2 ||| flag (s.safe.sealed && pageSealed p) 1 |||
    flag ((p == 0x0D && !(inMode s .run || inMode s .factory)) || (p == 0x10 && !inMode s .commission)) 0

/-- R139: a register of the common layout. -/
def readCommon (s : State) (p o : Nat) : Word :=
  match o with
  | 0x00 => place p 8 ||| 1
  | 0x04 => pageStat s p
  | 0x08 => pageCtrl s p
  | 0x0C => pageErr s p
  | 0x10 => pageBits p s.col.dyn
  | 0x14 => pageBits p s.col.lat
  | 0x18 => pageBits p (enableMap s.cfgW)
  | _ => pageLock s p

/-! ### SYS, TIME, HOST -/

/-- R110. -/
def readSys (s : State) (o : Nat) : Word :=
  match o with
  | 0x20 => Config.fwId
  | 0x28 => stateReg s
  | 0x2C => flag s.sys.roleConflict 1 ||| cfgGet s.cfgW .roleCfg
  | 0x30 => place s.sys.passLeft 16 ||| place s.sys.startCause 8 ||| flag s.sys.startDone 3 ||| flag s.sys.owDone 2 |||
      flag s.sys.rampDone 1 ||| flag s.sys.recKept 0
  | 0x34 => s.sys.holdMs
  | 0x38 => field 8 s.sys.ackCnt 8 ||| flag (ackSampled s && !s.sys.ackStuck) 2 ||| flag s.sys.ackStuck 1 ||| flag s.sys.ackLow 0
  | 0x3C => s.sys.wake.setWidth 32
  | _ => 0

/-- R50. -/
def readTime (s : State) (o : Nat) : Word :=
  let t := s.time
  match o with
  | 0x20 => t.pt.setWidth 32
  | 0x24 => t.ptHi
  | 0x28 => place t.slot.val 16 ||| place (stitch s).toNat 0
  | 0x2C => place t.snapStitch.toNat 16 ||| place t.snapNum.toNat 0
  | 0x30 => field 8 t.missed 8 ||| flag t.radioSync 2 ||| flag t.flywheel 1 ||| flag (isHead s || t.locked) 0
  | 0x34 => if isHead s then 0 else t.hopDly.setWidth 32
  | 0x38 => t.step
  | 0x3C => field 10 t.loadPeak 16 ||| field 10 t.loadLast 0
  | 0x40 => field 10 t.safePeak 16 ||| field 10 t.safeLast 0
  | 0x44 => field 16 t.shedCnt 16 ||| flag (decide (3 ≤ t.shed)) 2 ||| flag (decide (2 ≤ t.shed)) 1 ||| flag (decide (1 ≤ t.shed)) 0
  | 0x48 => place t.sosc 0
  | _ => 0

/-- A map of tags with a property, 32 from `base`. -/
def tagMap (s : State) (base : Nat) (p : Tag → Bool) : Word :=
  mapBits 32 (fun k => p (s.host.tags.getD (base + k) {}))

/-- R147; R142: on a member the reset values. -/
def readHost (s0 : State) (o : Nat) : Word :=
  let s : State := if isHead s0 then s0 else { s0 with host := {} }
  let h := s.host
  match o with
  | 0x20 => if isHead s0 then cfgGet s.cfgW .hostCfg else 1
  | 0x24 => place h.doneQ.length 16 ||| place ((h.tags.filter (fun t => !t.busy && !t.done)).length) 8 ||| flag h.irq 1 |||
      flag h.spiMode 0
  | 0x28 => tagMap s 0 (fun t => t.busy)
  | 0x2C => tagMap s 32 (fun t => t.busy)
  | 0x30 => tagMap s 0 (fun t => t.done)
  | 0x34 => tagMap s 32 (fun t => t.done)
  | 0x38 => field 8 h.abort 24 ||| field 8 h.refused 16 ||| field 8 h.tagErr 8 ||| field 8 h.crcErr 0
  | 0x3C => field 16 h.abandon 16 ||| field 16 h.retry 0
  | 0x40 => field 3 h.cmplPeak 0
  | _ => 0

/-! ### LINK, ENUM, MIRR -/

/-- R327: `LINK.PORTx`. -/
def readPort (s : State) (p : Port) : Word :=
  let q := portGet s.link p
  place q.clean 24 ||| field 8 q.werr 8 ||| flag q.readyRx 4 ||| flag q.readyTx 3 ||| flag q.folded 2 |||
    flag (!isHead s && s.link.serve == portStream p) 1 ||| flag q.carrier 0

/-- R327. -/
def readLink (s : State) (o : Nat) : Word :=
  let l := s.link
  let h := isHead s
  let msg : BitVec 128 := if h then l.thrdTx else l.thrd.getD 0
  match o with
  | 0x20 => cfgGet s.cfgW .linkCfg
  | 0x24 => readPort s .l
  | 0x28 => readPort s .u
  | 0x2C => place (linkCode l.state) 16 ||| place (if h then 0 else l.serve) 8 ||| place l.cont 0
  | 0x30 => field 16 l.foldCnt 16 ||| field 16 l.unfoldCnt 0
  | 0x34 => place l.tokOrigin.toNat 26 ||| place l.tokCh.toNat 24 ||| place l.tokFlags.toNat 16 ||| field 8 l.tokBad 8 ||| field 8 l.tokRx 0
  | 0x38 => if h then field 16 l.sumAbsent 16 ||| field 16 l.sumCrc 0 else 0
  | 0x3C => field 8 l.thrdBad 8 ||| flag (if h then s.sys.sending else l.thrd.isSome) 7 ||| place ((ringStitch s).toNat % 128) 0
  | 0x40 => threadWord msg 0
  | 0x44 => threadWord msg 1
  | 0x48 => threadWord msg 2
  | 0x4C => threadWord msg 3
  | 0x50 => if h then place l.loopOut.toNat 16 ||| place l.loopBack.toNat 0 else 0
  | _ => 0

/-- R334, R351: the phase of the search that runs: the head's own, and at a member that of the stitch of the search that its
TACK named. -/
def searchPhase (s : State) : Nat :=
  let k := (ringStitch s - s.enum.tackAt).toNat
  if isHead s then s.enum.phase
  else if s.enum.tackSearch.isNone || decide (19 < k) then 0
  else if k = 0 then 1 else if k ≤ 16 then 2 else 3

/-- R351: a map is in force. DEDUCED (log 76): at a member, while it holds the address that an applied map gave it. -/
def mapInForce (s : State) : Bool := if isHead s then s.enum.inForce else s.sys.addr != 63

/-- R351; the selector shows the member it names in force (R30). -/
def readEnum (s : State) (o : Nat) : Word :=
  let e := s.enum
  let h := isHead s
  let t := (member s (fld s .enumTsel 5 0)).thread
  match o with
  | 0x24 => place e.search.toNat 16 ||| place e.restarts 8 ||| flag e.unstable 7 ||| flag e.held 6 |||
      flag (h && mapOk s) 5 ||| flag (mapInForce s) 4 ||| place (searchPhase s) 0
  | 0x28 => flag e.cmt.closed 24 ||| place e.cmt.nOut.toNat 18 ||| place e.cmt.nBack.toNat 12 ||| place e.cmt.h.toNat 6
  | 0x2C => e.epoch
  | 0x30 => if h then e.mapChk else 0
  | 0x34 => packWord s 5
  | 0x38 => if h then place e.lOut 16 ||| place e.lBack 0 else 0
  | 0x3C => if h then 0 else place e.dOut.toNat 16 ||| place e.dBack.toNat 0
  | 0x40 => place (if s.otp.genP.isSome then (commAddr s).toNat else 0) 26 ||| flag (inSet s) 0 |||
      (if h then 0 else place e.idxOut.toNat 18 ||| place e.idxBack.toNat 10 ||| place e.place 8)
  | 0x44 => if h then 0 else flag s.dev.seqValid 8 ||| place s.dev.seqExp.toNat 0
  | 0x48 => if h then loHalf e.set else 0
  | 0x4C => if h then hiHalf e.set else 0
  | 0x50 => if h then loHalf e.foreign else 0
  | 0x54 => if h then hiHalf e.foreign else 0
  | 0x58 => if h then flag t.isSome 8 ||| cfgGet s.cfgW .enumTsel else 0
  | 0x5C => if h then threadWord (t.getD 0) 0 else 0
  | 0x60 => if h then threadWord (t.getD 0) 1 else 0
  | 0x64 => if h then threadWord (t.getD 0) 2 else 0
  | 0x68 => if h then threadWord (t.getD 0) 3 else 0
  | _ => 0

/-- R376: members of the head's records with a property. -/
def mirrMap (s : State) (p : Member → Bool) : BitVec 64 :=
  if isHead s then (setAddrs s).foldl (fun m a => if p (member s a) then m ||| BitVec.ofNat 64 (2 ^ a) else m) 0 else 0

/-- R376: `MIRR.HVIEW` of the member that the selector names in force (R30); a member judges none. -/
def hview (s : State) : Word :=
  if isHead s then
    let m := member s (fld s .mirrHsel 5 0)
    place m.rssi.toNat 24 ||| place m.cls 16 ||| place m.nonAgree 8 ||| place m.both 0
  else place 4 16

/-- R376. -/
def readMirr (s : State) (o : Nat) : Word :=
  let m := s.mirr
  let h := isHead s
  let rabs := mirrMap s (fun x => x.judged.isSome && (x.cls == 2 || x.cls == 4))
  let flt := mirrMap s (fun x => x.fault)
  match o with
  | 0x20 => cfgGet s.cfgW .mirrCfg
  | 0x24 => cfgGet s.cfgW .mirrChA
  | 0x28 => cfgGet s.cfgW .mirrChB
  | 0x2C => cfgGet s.cfgW .mirrTol
  | 0x40 => flag (stagedKey s).isSome 17 ||| flag s.otp.genP.isSome 16 |||
      (if s.otp.genP.isSome then (kcvOf ((List.range 4).map (fun k => packWord s (k + 1)))).setWidth 32 else 0)
  | 0x44 => keyStg s
  | 0x48 => place m.chIdx 16 ||| (if h then 0 else flag m.txInh 7 ||| flag m.beaconOk 6 ||| place m.beaconMiss 0)
  | 0x4C => m.session
  | 0x50 => if h then 0 else m.rssi.setWidth 32
  | 0x54 => if h then cfgGet s.cfgW .mirrHsel else 0
  | 0x58 => hview s
  | 0x5C => loHalf rabs
  | 0x60 => hiHalf rabs
  | 0x64 => loHalf flt
  | 0x68 => hiHalf flt
  | 0x6C => field 16 m.micErr 16 ||| field 16 m.otherErr 0
  | _ => 0

/-! ### MEAS, CELL, CRSE, SYNC, IMP -/

/-- R179. -/
def readMeas (s : State) (o : Nat) : Word :=
  match o with
  | 0x20 => place s.meas.mwFirst 8 ||| cfgGet s.cfgW .measMw
  | 0x24 => cfgGet s.cfgW .measFilt
  | 0x28 => cfgGet s.cfgW .measRoc
  | 0x2C => cfgGet s.cfgW .measXchk
  | 0x30 => place s.meas.iin 16 ||| cfgGet s.cfgW .measStk
  | _ => 0

/-- R181. -/
def readCell (s : State) (o : Nat) : Word :=
  let m := s.meas
  if 0x20 ≤ o ∧ o < 0xA0 then cellWord s ((o - 0x20) / 4)
  else if 0xC0 ≤ o then ccWord s ((o - 0xC0) / 4)
  else
    match o with
    | 0xA0 => vstkWord s
    | 0xA4 => flag m.vsumStale 31 ||| place m.vsum 0
    | 0xA8 => place (signedSat 16 m.sumDiff) 16 ||| flag m.sumSkip 1 ||| flag m.sumOver 0
    | 0xAC => extremeWord m.vminIdx m.vminCode
    | 0xB0 => extremeWord m.vmaxIdx m.vmaxCode
    | 0xB4 => mapBits 32 (fun n => bit (cellWord s n) 31)
    | 0xB8 => m.xdisPub
    | 0xBC => m.measSt.setWidth 32
    | _ => 0

/-- R182. -/
def readCrse (s : State) (o : Nat) : Word :=
  let m := s.meas
  if 0x20 ≤ o ∧ o < 0x60 then
    let k := (o - 0x20) / 4
    place (m.cMean.getD (2 * k + 1) 0) 16 ||| place (m.cMean.getD (2 * k) 0) 0
  else
    match o with
    | 0x60 => extremeWord m.cmaxIdx m.cmax
    | 0x64 => extremeWord m.cminIdx m.cmin
    | 0x68 => place m.refChk 0
    | 0x6C => place m.vstkC 0
    | 0x70 => place m.vtRef 0
    | 0x74 => m.acc.setWidth 32
    | 0x78 => extremeWord m.xmaxIdx m.xmax
    | _ => 0

/-- R212: `SYNC.IA` and `SYNC.IB`. -/
def currentReg (stale : Bool) (v : Int) : Word := flag stale 31 ||| place (u24 v) 0

/-- R212. -/
def readSync (s : State) (o : Nat) : Word :=
  let c := s.cur
  match o with
  | 0x20 => cfgGet s.cfgW .syncCfg
  | 0x24 => flag c.carrier 16 ||| place c.tc 0
  | 0x28 => flag c.inValid 31 ||| place c.inP 0
  | 0x2C => place c.skew 8 ||| flag c.fallback 1 ||| flag c.predHeld 0
  | 0x30 => isnsWord s
  | 0x34 => isnsPtWord s
  | 0x38 => iauxWord s
  | 0x3C => currentReg c.iaStale c.ia
  | 0x40 => currentReg c.ibStale c.ib
  | 0x44 => cfgGet s.cfgW .syncRshunt
  | 0x48 => cfgGet s.cfgW .syncIauxCal
  | 0x4C => cfgGet s.cfgW .syncIcfg
  | _ => 0

/-- R214. -/
def readImp (s : State) (o : Nat) : Word :=
  let i := s.imp
  if 0x40 ≤ o ∧ o < 0xC0 then
    let n := (o - 0x40) / 4
    let (z, ng, st) := i.z.getD n (0, false, false)
    flag (bit i.valid n) 31 ||| flag ng 30 ||| flag st 29 ||| place z 0
  else
    match o with
    | 0x20 => cfgGet s.cfgW .impCfg
    | 0x24 => cfgGet s.cfgW .impVarThr
    | 0x28 => place i.fill 0
    | 0x2C => place i.var 0
    | 0x30 => i.valid
    | 0x34 => place i.csrc 0
    | _ => 0

/-! ### TEMP, THRM, BAL, DIAG, CAL -/

/-- R279, R295: `TEMP.MAX` and `TEMP.MIN`. -/
def tempExtreme (none_ : Bool) (idx : Nat) (t : Int) : Word :=
  if none_ then flag true 20 else place idx 16 ||| place (signedSat 16 t) 0

/-- R295. -/
def readTemp (s : State) (o : Nat) : Word :=
  let t := s.temp
  if 0x20 ≤ o ∧ o < 0x60 then tsReg s ((o - 0x20) / 4)
  else if 0x70 ≤ o ∧ o < 0x90 then
    let k := (o - 0x70) / 4
    place (t.ts.getD (2 * k + 1) {}).q 16 ||| place (t.ts.getD (2 * k) {}).q 0
  else
    match o with
    | 0x60 => cfgGet s.cfgW .tempNtc
    | 0x64 => mapBits 16 (fun k => (t.ts.getD k {}).isBroken)
    | 0x68 => tempExtreme t.maxNone t.maxIdx t.maxT
    | 0x6C => tempExtreme t.minNone t.minIdx t.minT
    | _ => 0

/-- R297: `THRM.DIEk`. -/
def dieReg (s : State) (k : Nat) : Word :=
  let d := s.thrm.dies.getD k ⟨0, true⟩
  flag (!d.plausible) 31 ||| place (if d.plausible then signedSat 16 d.quarter else 540) 0

/-- R297. -/
def readThrm (s : State) (o : Nat) : Word :=
  let t := s.thrm
  if 0x20 ≤ o ∧ o < 0x40 then dieReg s ((o - 0x20) / 4)
  else
    match o with
    | 0x40 => place t.hotIdx 16 ||| place (signedSat 16 t.td) 0
    | 0x44 => flag t.otpInh 4 ||| flag t.nvmInh 3 ||| flag t.warn 2 ||| flag t.throttle 1 ||| flag t.impl 0
    | 0x48 => match t.peak with | some v => place (signedSat 16 v) 0 | none => 0x8000
    | 0x4C => place t.sdCnt 16 ||| place t.sdCause 8 ||| place t.sdIdx 0
    | _ => 0

/-- R30, R218: a timer as a read returns it: a written value that awaits its boundary, else the remaining one. -/
def timerOf (s : State) (n : Nat) : Nat :=
  match s.bal.tmrPend.getD n none with | some v => v | none => s.bal.tmr.getD n 0

/-- R233. -/
def readBal (s : State) (o : Nat) : Word :=
  let b := s.bal
  if 0x28 ≤ o ∧ o < 0x68 then
    let k := (o - 0x28) / 4
    place (timerOf s (2 * k + 1)) 16 ||| place (timerOf s (2 * k)) 0
  else
    match o with
    | 0x20 => cfgGet s.cfgW .balCfg
    | 0x24 => cfgGet s.cfgW .balRb
    | 0x68 => b.grant
    | 0x6C => b.on
    | 0x70 => b.held
    | 0x74 => flag (s.meas.mwLen == 8) 31 ||| flag (pauseOn b) 30 ||| flag b.thermal 29 ||| flag b.rotate 28 |||
        place b.budget 16 ||| place b.ptr 10 ||| place (min 1023 b.pcell) 0
    | 0x78 => b.done
    | _ => 0

/-- R255: `DIAG.RUN`. -/
def diagRun (s : State) : Word :=
  match s.diag.unit with
  | none => 0
  | some u => flag true 31 ||| flag u.host 30 ||| place u.test 27 ||| place u.group 24 ||| place (min 16 u.counted) 0

/-- R255. -/
def readDiag (s : State) (o : Nat) : Word :=
  let d := s.diag
  match o with
  | 0x20 => cfgGet s.cfgW .diagCfg
  | 0x28 => diagRun s
  | 0x2C => d.owPin.setWidth 32
  | 0x30 => flag (d.owPin.getLsbD 32) 16 ||| place (min 0xFFFF d.dvMax) 0
  | 0x34 => place d.late.toNat 16 ||| place d.done.toNat 0
  | 0x38 => flag d.tvLeft.isSome 6 ||| flag s.thrm.implStand 5 ||| flag d.ramUe 4 ||| flag d.rom 3 ||| flag d.path.stand 2 |||
      flag d.stk.stand 1 ||| flag d.ref.stand 0
  | 0x3C => field 16 d.sramCe 16 ||| place (d.romPass % 256) 8 ||| place (d.sramPass % 256) 0
  | 0x40 => d.bst
  | 0x44 => d.ctt
  | 0x48 => d.pzt
  | _ => 0

/-- R270: `CAL.PTRIMnn` of channel `k` (0 to 33). -/
def ptrimReg (s : State) (k : Nat) : Word :=
  let c := s.cal
  let g := c.gain.getD k 2048
  let f := c.ofs.getD k 512
  flag (g != c.gainT.getD k 2048 || f != c.ofsT.getD k 512) 31 ||| place g 16 ||| place f 0

/-- R270. -/
def readCal (s : State) (o : Nat) : Word :=
  let c := s.cal
  if 0x40 ≤ o ∧ o < 0xC8 then ptrimReg s ((o - 0x40) / 4)
  else if 0xC8 ≤ o ∧ o < 0xD8 then
    let k := (o - 0xC8) / 4
    place (c.cGain.getD k 0) 16 ||| place (c.cOfs.getD k 0) 0
  else
    match o with
    | 0x20 => place (if s.sys.rampDone then 0 else min 64 (rampLeft c)) 24 ||| flag (!c.repair.isEmpty || !c.reload.isEmpty) 17 ||| flag c.ramp 16 |||
        place c.genPlaus 12 ||| place c.genCrc 8 ||| place (if c.status = 2 then 0 else c.gen) 4 ||| place c.status 0
    | 0x24 => place c.cause1 24 ||| place c.trim1 16 ||| place c.cause0 8 ||| place c.trim0 0
    | 0x28 => cfgGet s.cfgW .calCmd
    | 0x2C => place c.tvSt.toNat 16 ||| flag c.sumOk 7 ||| flag c.ofsOk 6 ||| flag c.dacOk 5 ||| flag c.otpOk 4 ||| place c.result 0
    | 0x30 => c.tvFail
    | 0x34 => place c.resIdx 16 ||| place (min 0xFFFF c.res) 0
    | 0xD8 => place c.refB 16 ||| place c.refA 0
    | _ => 0

/-! ### SAFE, SIO, FCOL, FEVT -/

/-- R429: `SAFE.SEAL_ST`. -/
def sealSt (s : State) : Word :=
  let o := s.otp
  place s.safe.pres 24 ||| place s.safe.sres 20 ||| place (gensLeft o.usedP) 16 ||| place (gensLeft o.usedS) 12 |||
    flag o.genP.isSome 11 ||| place (o.genP.getD 0) 8 ||| flag o.genS.isSome 7 ||| place (o.genS.getD 0) 4 |||
    flag s.safe.psealOk 3 ||| flag (isHead s && psealMatch s) 2 ||| flag (s.safe.sealNow != sealGen s) 1

/-- R407, R429, R76. -/
def readSafe (s : State) (o : Nat) : Word :=
  let x := s.safe
  let h := isHead s
  let trips := if h then copyMap s (fun c => copyFlags c != 0) else 0
  let degs := if h then copyMap s copyDeg else 0
  match o with
  | 0x20 => cfgGet s.cfgW .safeHarness
  | 0x24 => cfgGet s.cfgW .safeVov
  | 0x28 => cfgGet s.cfgW .safeVuv
  | 0x2C => cfgGet s.cfgW .safeVcfg
  | 0x30 => cfgGet s.cfgW .safeTlim
  | 0x34 => cfgGet s.cfgW .safeTcfg
  | 0x38 => cfgGet s.cfgW .safeIlim
  | 0x3C => cfgGet s.cfgW .safeItime
  | 0x40 => cfgGet s.cfgW .safeIdir
  | 0x44 => cfgGet s.cfgW .safeDeg
  | 0x48 => tripReg s
  | 0x4C => causeWord x
  | 0x50 => degReg s
  | 0x54 => permitReg s
  | 0x5C => loHalf trips
  | 0x60 => hiHalf trips
  | 0x64 => loHalf degs
  | 0x68 => hiHalf degs
  | 0x6C => place x.tokens 16 ||| field 8 x.ackRef 8 ||| field 8 x.ackOk 0
  | 0x80 => x.sealNow
  | 0x88 => sealGen s
  | 0x8C => sealSt s
  | 0x94 => x.pseal
  | 0x98 => packWord s 7
  | 0x9C => cfgGet s.cfgW .packMap
  | _ => 0

/-- R427: one input of `SIO.STAT`. -/
def siStat (i : Si) : Nat :=
  i.rst * 16 + (if i.unusedErr then 8 else 0) + (if i.pulseB then 4 else 0) + (if i.pulseA then 2 else 0) +
    (if i.disc then 1 else 0)

/-- R427. -/
def readSio (s : State) (o : Nat) : Word :=
  let x := s.sio
  match o with
  | 0x20 => cfgGet s.cfgW .sioCfg
  | 0x24 => place (siFilt x) 8 ||| place x.raw.toNat 0
  | 0x28 => place (min 511 x.in1.cnt) 16 ||| place (min 511 x.in0.cnt) 0
  | 0x2C => flag x.tpbFault 17 ||| flag x.tpaFault 16 ||| place (siStat x.in1) 8 ||| place (siStat x.in0) 0
  | 0x30 => field 16 x.points 16 ||| field 8 x.failB 8 ||| field 8 x.failA 0
  | _ => 0

/-- Word `g` of a 128-bit map. -/
def mapWord (m : BitVec 128) (g : Nat) : Word := (m >>> (32 * g)).setWidth 32

/-- R451: `FCOL.SRC` of the source that the selector names in force (R30). -/
def srcReg (s : State) : Word :=
  let n := fld s .colSel 6 0
  place (s.col.cnt.getD n 0) 24 ||| (if isHead s then place (s.col.roots.getD n 0x7F) 16 else 0) |||
    flag (s.col.inj.getLsbD n) 11 ||| flag (s.col.real.getLsbD n) 10 ||| place (s.col.eff.getD n 0) 8 |||
    place (assigned s.cfg n) 4 ||| flag (srcEscalates n) 3 ||| flag (enabled s.cfg n) 2 ||| flag (s.col.lat.getLsbD n) 1 |||
    flag (s.col.dyn.getLsbD n) 0

/-- R451: `FCOL.FER_INFO`. -/
def ferInfo (f : Fer) : Word :=
  flag true 31 ||| flag f.more 30 ||| place f.ctx.kind 24 ||| place f.ctx.master 20 ||| place f.ctx.access 16 |||
    place f.ctx.tag.toNat 8 ||| place f.source 0

/-- R445, R451: a word of the oldest queued pack record. -/
def pevWord (p : PackRec) (k : Nat) : Word :=
  match k with
  | 0 => flag true 31 ||| flag p.common 30 ||| flag p.rootTag 29 ||| flag p.inj 28 ||| flag p.real 27 ||| place p.level 24 |||
      place p.source 16 ||| place (min 255 p.nrec) 8 ||| place p.root 0
  | 1 => loHalf p.devs
  | 2 => hiHalf p.devs
  | 3 => p.cells
  | 4 => place p.first.toNat 16 ||| place p.last.toNat 0
  | _ => place p.rootDev.toNat 26 ||| place (min 0xFFFF p.dropped) 0

/-- R451: `FCOL.STAT`. -/
def colStat (s : State) : Word :=
  place (maxLevel s) 24 ||| place (popCount s.col.lat) 16 ||| flag (s.col.dyn.getLsbD srcEvtOverflow) 9 ||| flag s.col.integ 8 |||
    (if isHead s then place s.col.queue.length 0 else 0)

/-- R451. -/
def readFcol (s : State) (o : Nat) : Word :=
  let c := s.col
  if 0x20 ≤ o ∧ o < 0x30 then mapWord c.dyn ((o - 0x20) / 4)
  else if 0x30 ≤ o ∧ o < 0x40 then mapWord c.lat ((o - 0x30) / 4)
  else if 0x40 ≤ o ∧ o < 0x50 then mapWord (enableMap s.cfgW) ((o - 0x40) / 4)
  else if 0x50 ≤ o ∧ o < 0x70 then
    cfgGet s.cfgW (([CReg.colLvl0, .colLvl1, .colLvl2, .colLvl3, .colLvl4, .colLvl5, .colLvl6, .colLvl7]).getD
      ((o - 0x50) / 4) .colLvl0)
  else if 0x90 ≤ o ∧ o < 0xA8 then
    (match c.queue with | p :: _ => if isHead s then pevWord p ((o - 0x90) / 4) else 0 | [] => 0)
  else
    match o with
    | 0x70 => cfgGet s.cfgW .colCfg
    | 0x74 => colStat s
    | 0x78 => cfgGet s.cfgW .colSel
    | 0x7C => srcReg s
    | 0x80 => match c.fer with | some f => BitVec.ofNat 32 f.ctx.addr | none => 0
    | 0x84 => match c.fer with | some f => ferInfo f | none => 0
    | 0x88 => match c.fer with | some f => f.pt.setWidth 32 | none => 0
    | 0x8C => match c.fer with | some f => (f.pt >>> 32).setWidth 32 | none => 0
    | 0xAC => cfgGet s.cfgW .colInj
    | _ => 0

/-- R453: `FEVT.MAPk`. -/
def readFevt (o : Nat) : Word :=
  if 0x20 ≤ o ∧ o < 0xA0 then
    let k := (o - 0x20) / 4
    place (srcPage (4 * k + 3)) 24 ||| place (srcPage (4 * k + 2)) 16 ||| place (srcPage (4 * k + 1)) 8 ||| place (srcPage (4 * k)) 0
  else 0

/-! ### REC, ECC, PWR, KA, OTP, JRNL -/

/-- A frame position. -/
def posReg (p f : Nat) : Word := place p 4 ||| place f 0

/-- R474. -/
def readRec (s : State) (o : Nat) : Word :=
  let r := s.bob
  match o with
  | 0x20 => cfgGet s.cfgW .recCfg
  | 0x28 => place r.trigSrc 16 ||| place r.rate 10 ||| flag s.sys.recKept 8 ||| place r.cause 4 ||| place r.st 0
  | 0x2C => posReg r.wPage r.wFrame
  | 0x30 => flag r.empty 31 ||| posReg r.fPage r.fFrame
  | 0x34 => posReg r.tPage r.tFrame
  | 0x38 => place r.trigSt.toNat 16
  | 0x3C => r.trigPt.setWidth 32
  | 0x40 => (r.trigPt >>> 32).setWidth 32
  | 0x44 => place r.post 0
  | 0x48 => place (recCap (fld s .recCfg 1 0) r) 0
  | 0x4C => cfgGet s.cfgW .recFselS
  | 0x50 => cfgGet s.cfgW .recFselD
  | 0x54 => cfgGet s.cfgW .recFselC
  | 0x58 => cfgGet s.cfgW .recFselH
  | 0x5C => field 16 r.trigCnt 0
  | _ => 0

/-- R476. -/
def readEcc (s : State) (o : Nat) : Word :=
  let r := s.bob
  match o with
  | 0x20 => cfgGet s.cfgW .eccCfg
  | 0x24 => field 16 r.ce 16 ||| field 16 r.ue 0
  | 0x28 => place r.patPage 16 ||| place (r.passes % 256) 0
  | 0x2C => place r.passCe 16 ||| place r.passUe 0
  | 0x30 => flag (r.bulkPoison != 0) 31 ||| flag r.bulkCorr 30 ||| place r.bulkPoison 24 ||| place r.bulkFirst 0
  | 0x34 => place r.trk.length 0
  | 0x38 => place r.retired.length 0
  | 0x3C => cfgGet s.cfgW .eccRetSel
  | 0x40 => match r.retired[fld s .eccRetSel 7 0]? with | some p => flag true 31 ||| place p 0 | none => 0
  | 0x44 => field 16 r.merged 16 ||| field 16 r.refused 0
  | _ => 0

/-- R497. -/
def readPwr (s : State) (o : Nat) : Word :=
  let p := s.pwr
  match o with
  | 0x20 => place p.vreg 0
  | 0x24 => cfgGet s.cfgW .brCfg
  | 0x28 => cfgGet s.cfgW .brVwin
  | 0x2C => cfgGet s.cfgW .brTwin
  | 0x30 => field 16 p.brCount 16 ||| field 8 p.brKind 8 ||| field 8 p.brIdx 0
  | 0x34 => flag p.wakeOut 1
  | 0x38 => p.rail.setWidth 32
  | _ => 0

/-- R499. -/
def readKa (s : State) (o : Nat) : Word :=
  let p := s.pwr
  match o with
  | 0x20 => cfgGet s.cfgW .kaCfg
  | 0x24 => flag p.retOk 11 ||| flag p.xtalFail 10 ||| flag p.bakOv 9 ||| flag p.bakAbsent 8 ||| place (if p.probing then 4 else p.chg) 4 ||| place p.src 0
  | 0x28 => place p.ichg 16 ||| place p.vbakShown 0
  | 0x2C => place p.handover 16 ||| place p.handback 0
  | 0x30 => p.lostPt.setWidth 32
  | 0x34 => (p.lostPt >>> 32).setWidth 32
  | 0x38 => p.bakTime
  | _ => 0

/-- R517: `OTP.GSAFE`, `GPACK` and `GCONF`. -/
def genReg (used valid : BitVec 4) (g : Option Nat) : Word :=
  place used.toNat 8 ||| place valid.toNat 4 ||| flag g.isSome 2 ||| place (g.getD 0) 0

/-- R517. -/
def readOtp (s : State) (o : Nat) : Word :=
  let p := s.otp
  match o with
  | 0x20 => (p.uid >>> 32).setWidth 32
  | 0x24 => p.uid.setWidth 32
  | 0x28 => flag p.identOk 31 ||| place p.grade 0
  | 0x2C => genReg p.usedS p.validS p.genS
  | 0x30 => genReg p.usedP p.validP p.genP
  | 0x34 => genReg p.usedC p.validC p.genC
  | 0x3C => flag (otpBusy s) 31 ||| place p.block 24 ||| place p.gen 16 ||| place p.words 8 ||| place p.result 0
  | _ => 0

/-- R519; the selector shows the record it names in force (R30). -/
def readJrnl (s : State) (o : Nat) : Word :=
  let j := s.jrnl
  let num := cfgGet s.cfg .jrnlSel
  let v := jrnlView s num
  if 0x30 ≤ o ∧ o < 0x50 then (match v with | some ws => ws.getD ((o - 0x30) / 4) 0 | none => 0)
  else
    match o with
    | 0x20 => j.next
    | 0x24 => field 16 j.dropped 16 ||| place (min 16 j.queue.length) 8 ||| flag j.wear 2 ||| flag s.thrm.nvmInh 1 ||| flag (jrnlWriting s) 0
    | 0x28 => cfgGet s.cfgW .jrnlSel
    | 0x2C => flag v.isSome 31 ||| place (num.toNat % 512) 0
    | 0x50 => place j.badSlot 0
    | _ => 0

/-! ### A read -/

/-- The page of a register address (R135). -/
def pageOf (a : Nat) : Nat := a / 256

/-- The HOST page of a member holds its reset values and is never updated (R142). -/
def hostFrozen (s : State) (a : Nat) : Bool := !isHead s && pageOf a == 2

/-- What a register at an aligned address returns; a reserved offset reads zero (R138). -/
def readReg (s0 : State) (a : Nat) : Word :=
  let s := if hostFrozen s0 a then State.reset else s0
  let p := pageOf a
  let o := a % 256
  if !pageExists p then 0
  else if o < 0x20 then readCommon s p o
  else
    match p with
    | 0x00 => readSys s o
    | 0x01 => readTime s o
    | 0x02 => readHost s o
    | 0x03 => readLink s o
    | 0x04 => readEnum s o
    | 0x05 => readMirr s o
    | 0x06 => readMeas s o
    | 0x07 => readCell s o
    | 0x08 => readCrse s o
    | 0x09 => readSync s o
    | 0x0A => readImp s o
    | 0x0B => readTemp s o
    | 0x0C => readThrm s o
    | 0x0D => readBal s o
    | 0x0E => readDiag s o
    | 0x0F => readCal s o
    | 0x10 => readSafe s o
    | 0x11 => readSio s o
    | 0x12 => readFcol s o
    | 0x13 => readFevt o
    | 0x14 => readRec s o
    | 0x15 => readEcc s o
    | 0x16 => readPwr s o
    | 0x17 => readKa s o
    | 0x18 => readOtp s o
    | 0x19 => readJrnl s o
    | _ => if inMode s .factory then s.fact.getD ((o - 0x20) / 4) 0 else 0

/-- R13, R139, R49: what a read of a register clears or latches, but the record of refusals. -/
def readEffect (a : Nat) (s : State) : State :=
  match a with
  | 0x0038 => { s with sys := { s.sys with ackCnt := 0 } }
  | 0x0120 => { s with time := { s.time with ptHi := (s.time.pt >>> 32).setWidth 32 } }
  | 0x0130 => { s with time := { s.time with missed := 0 } }
  | 0x013C => { s with time := { s.time with loadPeak := 0 } }
  | 0x0140 => { s with time := { s.time with safePeak := 0 } }
  | 0x0144 => { s with time := { s.time with shedCnt := 0 } }
  | 0x0238 => { s with host := { s.host with abort := 0, refused := 0, tagErr := 0, crcErr := 0 } }
  | 0x023C => { s with host := { s.host with abandon := 0, retry := 0 } }
  | 0x0240 => { s with host := { s.host with cmplPeak := 0 } }
  | 0x0324 => { s with link := { s.link with portL := { s.link.portL with werr := 0 } } }
  | 0x0328 => { s with link := { s.link with portU := { s.link.portU with werr := 0 } } }
  | 0x0330 => { s with link := { s.link with foldCnt := 0, unfoldCnt := 0 } }
  | 0x0334 => { s with link := { s.link with tokBad := 0, tokRx := 0 } }
  | 0x0338 => { s with link := { s.link with sumAbsent := 0, sumCrc := 0 } }
  | 0x033C => { s with link := { s.link with thrdBad := 0 } }
  | 0x056C => { s with mirr := { s.mirr with micErr := 0, otherErr := 0 } }
  | 0x0C48 => { s with thrm := { s.thrm with peak := none } }
  | 0x0E3C => { s with diag := { s.diag with sramCe := 0 } }
  | 0x106C => { s with safe := { s.safe with ackRef := 0, ackOk := 0 } }
  | 0x1130 => { s with sio := { s.sio with points := 0, failA := 0, failB := 0 } }
  | 0x145C => { s with bob := { s.bob with trigCnt := 0 } }
  | 0x1524 => { s with bob := { s.bob with ce := 0, ue := 0 } }
  | 0x1544 => { s with bob := { s.bob with merged := 0, refused := 0 } }
  | 0x1630 => { s with pwr := { s.pwr with brCount := 0 } }
  | 0x1924 => { s with jrnl := { s.jrnl with dropped := 0 } }
  | _ => s

/-- R13, R139: what a successful read of a register clears or latches. -/
def readClear (a : Nat) (s : State) : State :=
  if hostFrozen s a then s
  else if a % 256 = 0x0C then { s with pgErr := s.pgErr.set (pageOf a) {} } else readEffect a s

/-- R136: a read of `n` registers, ascending: the words and the state after. -/
def readRange : Nat → Nat → State → List Word × State
  | 0, _, s => ([], s)
  | n + 1, a, s =>
    let w := readReg s a
    let (l, s1) := readRange n (a + 4) (readClear a s)
    (w :: l, s1)

end Sys2Proof.Machine
end

