-- ==== Sys2Proof/Machine/Access.lean ====
section
/-! DEFINITION. The judgement of register writes (R10 to R12, R136 to R144, R536 and the refusal rules of every page),
their effect, and the accesses RD, WR, MWR, SNRD and BULK as one device executes them. -/

namespace Sys2Proof.Machine

/-! ### Values a write would put in place -/

/-- The bits of the fields that a write sets. -/
def setMask (d : Desc) : Word :=
  d.fields.foldl (fun m f =>
    match f.acc with
    | .rw | .rws | .rwf => m ||| place (2 ^ (f.msb + 1 - f.lsb) - 1) f.lsb
    | _ => m) 0

/-- The enable words by group. -/
def enableReg (g : Nat) : CReg := ([CReg.colEnS, .colEnD, .colEnC, .colEnH]).getD g .colEnS

/-- R432, R451: a write of `PG_EVTE` sets the enable bits of the page's sources. -/
def evtePut (p : Nat) (v : Word) (c : Cfg) : Cfg :=
  ((pageSources p).zipIdx).foldl (fun c e =>
    let r := enableReg (e.1 / 32)
    let b : Word := flag true (e.1 % 32)
    cfgSet c r (if bit v e.2 then cfgGet c r ||| b else cfgGet c r &&& ~~~ b)) c

/-- The configuration after a write of `v` at `a`. -/
def cfgPut (a : Nat) (v : Word) (c : Cfg) : Cfg :=
  if a % 256 = 0x18 then evtePut (pageOf a) v c
  else if a = 0x0D08 then cfgSet c .balCtrl (v &&& 0x00010000)
  else
    match descAt a with
    | some d =>
      (match d.reg with
       | some r => cfgSet c r ((cfgGet c r &&& ~~~ (setMask d)) ||| (v &&& setMask d))
       | none => c)
    | none => c

/-! ### The judgement of one register (R536) -/

/-- A block is pending or being programmed (R422, R539). -/
def jobIs (j : Option OtpJob) (b : Nat) : Bool := match j with | some x => x.block == b | none => false

/-- R422, R539: the write changes a value that a pending or running generation holds. -/
def heldChange (s : State) (a : Nat) (v : Word) : Bool :=
  let c := cfgPut a v s.cfgW
  let ch (l : List (CReg × Word)) : Bool := setWords l c != setWords l s.cfgW
  let key := decide (0x0530 ≤ a) && decide (a < 0x0540) && s.mirr.staged.getD ((a - 0x0530) / 4) none != some v
  ((jobIs s.otp.req 3 || jobIs s.otp.job 3 || jobIs s.otp.req 4 || jobIs s.otp.job 4) && ch sealRegs) || (jobIs s.otp.req 5 && ch configRegs) ||
    (jobIs s.otp.req 4 && (ch [(.packMap, 0xFFFFFFFF)] || key))

/-- R234: the block registers of the BAL page with RW fields. -/
def balRw (a : Nat) : Bool := a == 0x0D08 || a == 0x0D18 || (decide (0x0D20 ≤ a) && decide (a < 0x0D68))

/-- R536 step 2: the conditions of a register or its page as a whole, modes before BUSY. DESIGN CHOICE (log 74): a BUSY that
depends on the value written (`ENUM.CTRL` REQ in a search, `FCOL.INJ` ON, `REC.CFG` RATE in POST, a value that a generation
holds) is judged here too, before a reserved field that is not zero. -/
def condJudge (s : State) (a : Nat) (v : Word) : Nat :=
  let comm : Nat := if inMode s .commission then 0 else 3
  let head : Nat := if isHead s then 0 else 3
  let c : Nat :=
    if balRw a then (if inMode s .run || inMode s .factory then 0 else 3)
    else if 0x0530 ≤ a ∧ a < 0x0540 then keyJudge s
    else
      match a with
      | 0x0420 => if isHead s then (if bit v 0 && searching s then 5 else 0) else 3
      | 0x0458 | 0x0554 | 0x12A8 | 0x1634 => head
      | 0x1058 => if comm = 0 ∧ (s.safe.a.sdi || s.safe.b.sdi || s.safe.state != .lockout) then 0xA else comm
      | 0x109C => comm
      | 0x1090 => if comm = 0 ∧ (jobIs s.otp.req 3 || jobIs s.otp.job 3 || jobIs s.otp.req 4 || jobIs s.otp.job 4) then 5 else comm
      | 0x1134 => hostAckJudge s
      | 0x12AC => injJudge s v
      | 0x1420 => if s.bob.st = 2 ∧ bits v 1 0 ≠ bits (cfgGet s.cfgW .recCfg) 1 0 then 5 else 0
      | _ => 0
  if c ≠ 0 then c else if heldChange s a v then 5 else 0

/-- R10: what the access code of a field refuses. DESIGN CHOICE (log 80): in FACTORY an RWS field is set (R10, R91), also OW_THR and
PERIOD, of which R256 says otherwise. -/
def accJudge (s : State) (f : Fld) (cur v : Word) : Nat :=
  let same := bits cur f.msb f.lsb == bits v f.msb f.lsb
  match f.acc with
  | .rws =>
    if same || inMode s .factory then 0
    else if inMode s .commission then (if s.safe.sealed then 4 else 0)
    else 3
  | .rwf => if same || inMode s .factory then 0 else 3
  | _ => 0

/-- R536 step 4: the fields from the most significant down, access before range. -/
def fieldsJudge (s : State) (cur v : Word) : List Fld → Nat
  | [] => 0
  | f :: l =>
    let c := accJudge s f cur v
    if c ≠ 0 then c else if fldOk f v then fieldsJudge s cur v l else 1

/-- R234: no non-zero timer for a cell that the NCELL of `t` leaves unpopulated. -/
def timerOk (t : Cfg) (a : Nat) (v : Word) : Bool :=
  let k := (a - 0x0D28) / 4
  let n := bits (cfgGet t .safeHarness) 5 0
  (decide (2 * k < n) || bits v 15 0 == 0) && (decide (2 * k + 1 < n) || bits v 31 16 == 0)

/-- R536 step 5, on the values `t` that the whole write puts in place (R137). -/
def crossJudge (s : State) (t : Cfg) (d : Desc) (a : Nat) (v : Word) : Nat :=
  let ok : Nat := match d.reg with | some r => if crossOk t r then 0 else 1 | none => 0
  if ok ≠ 0 then ok
  else if 0x0D28 ≤ a ∧ a < 0x0D68 then (if timerOk t a v then 0 else 1)
  else
    match a with
    | 0x1058 => unlockJudge s v
    | 0x12A8 => pevPopJudge s v
    | 0x1424 => recCtrlJudge v
    | _ => 0

/-- R536: the registers judged by an ordered rule of their own. -/
def orderedJudge (s : State) (t : Cfg) (a : Nat) (v : Word) (bcast atHead : Bool) : Option Nat :=
  match a with
  | 0x0024 => some (modeJudge s v bcast atHead)
  | 0x0E24 => some (diagReqJudge s v)
  | 0x1084 => some (sealConfirmJudge t s v)
  | 0x10A0 => some (packConfirmJudge t s v)
  | 0x1838 => some (otpCmdJudge t s v)
  | _ => none

/-- A register of the common layout (R139, R143, R452). -/
def commonJudge (s : State) (a : Nat) (v : Word) : Nat :=
  let p := pageOf a
  let l := pageSources p
  let rsv (m : Word) : Nat := if v &&& ~~~ m != 0 then 1 else 0
  let all : Word := mapBits 32 (fun k => decide (k < l.length))
  let c := condJudge s a v
  match a % 256 with
  | 0x08 => if p ≠ 0x0D then 3 else if c ≠ 0 then c else rsv 0x00010000
  | 0x14 => if l.isEmpty then 3 else rsv all
  | 0x18 =>
    if l.isEmpty then 3 else if c ≠ 0 then c
    else if rsv all ≠ 0 then 1
    else if l.zipIdx.all (fun e => bit v e.2 || !(decide (e.1 < 32) || srcDefault e.1 == 3)) then 0 else 1
  | _ => 3

/-- R138, R536: the judgement of a write of one register; `t` holds the whole WR (R137). -/
def judgeReg (s : State) (t : Cfg) (a : Nat) (v : Word) (bcast atHead : Bool) : Nat :=
  if !pageExists (pageOf a) || !regExists a then 2
  else if a % 256 < 0x20 then commonJudge s a v
  else if isFact a then (if inMode s .factory || v == readReg s a then 0 else 3)
  else
    match descAt a with
    | none => 3
    | some d =>
      match orderedJudge s t a v bcast atHead with
      | some c => if v.toNat &&& d.rsv != 0 then 1 else c
      | none =>
        let c := condJudge s a v
        let cur : Word := match d.reg with | some r => cfgGet s.cfgW r | none => 0
        if c ≠ 0 then c
        else if v.toNat &&& d.rsv != 0 then 1
        else
          let f := fieldsJudge s cur v d.fields
          if f ≠ 0 then f else crossJudge s t d a v

/-! ### The effect of an accepted write -/

/-- What an accepted write does beside setting its RW, RWS and RWF fields; `now` at the boundary at which it applies. -/
def writeAct (t : Cfg) (a : Nat) (v : Word) (bcast now : Bool) (s : State) : State :=
  if 0x0530 ≤ a ∧ a < 0x0540 then keyStageApply ((a - 0x0530) / 4) v s
  else if 0x0D28 ≤ a ∧ a < 0x0D68 then balTimerApply ((a - 0x0D28) / 4) v s
  else if a % 256 = 0x14 ∨ (0x1230 ≤ a ∧ a < 0x1240) then latchClearApply a v s
  else if isFact a then { s with fact := s.fact.set ((a - 0x1F20) / 4) v }
  else
    match a with
    | 0x0024 => modeAccept v bcast now s
    | 0x002C => { s with sys := { s.sys with headEnKept := some (bit v 0) } }
    | 0x003C => { s with sys := { s.sys with wake := s.sys.wake &&& ~~~ (v.setWidth 6) } }
    | 0x0420 => searchReqApply v s
    | 0x0D78 => { s with bal := { s.bal with done := s.bal.done &&& ~~~ v } }
    | 0x0E24 => diagReqApply v s
    | 0x1058 => unlockApply s
    | 0x1084 => sealConfirmApply v now s
    | 0x1090 => { s with safe := { s.safe with unsealPend := s.safe.sealed } }
    | 0x10A0 => packConfirmApply t v now s
    | 0x1134 =>
      if bcast && !isHead s then
        { s with safe := { s.safe with acks := s.safe.acks ++ [⟨some (stitches s), false, true⟩] } }
      else ackRequest false s
    | 0x1278 => clrCntApply v s
    | 0x1284 => ferClearApply v s
    | 0x12A8 => pevPopApply s
    | 0x12AC => injApply v s
    | 0x1424 => recCtrlApply v s
    | 0x1634 => wakeClrApply s
    | 0x1720 => { s with sys := { s.sys with xtalKept := some (bit v 3) } }
    | 0x1838 => otpCmdApply t v now s
    | _ => s

/-- An accepted write of one register; of the HOST page of a member it changes nothing (log 66). -/
def applyReg (t : Cfg) (a : Nat) (v : Word) (bcast now : Bool) (s : State) : State :=
  if hostFrozen s a then s
  else writeAct t a v bcast now { s with cfgW := cfgPut a v s.cfgW }

/-! ### Refusals (R139, R141) -/

/-- R141: a refused access recorded in `PG_ERR` of its page; a page that does not exist records nothing (R138). -/
def pgRecord (a code : Nat) (s : State) : State :=
  let p := pageOf a
  if pageExists p && !hostFrozen s a then
    { s with pgErr := s.pgErr.modify p (fun (e : PgErr) => ⟨code, satInc e.cnt 0xFF, a % 256⟩) }
  else s

/-- A register address as its 16 bits. -/
def regAddr (reg : BitVec 16) (k : Nat) : Nat := reg.toNat + 4 * k

/-- R136: a range of `n` registers passes the end of its page. -/
def rangeOver (reg : BitVec 16) (n : Nat) : Bool := decide (256 < reg.toNat % 256 + 4 * n)

/-! ### WR and MWR (R137, R116) -/

/-- The writes of a range, ascending. -/
def writesOf (reg : BitVec 16) (ws : List Word) : List (Nat × Word) := ws.zipIdx.map (fun e => (regAddr reg e.2, e.1))

/-- R137: the configuration that a whole WR puts in place. -/
def tentative (s : State) (l : List (Nat × Word)) : Cfg := l.foldl (fun c e => cfgPut e.1 e.2 c) s.cfgW

/-- R137: the lowest-addressed register that refuses, with its code. -/
def judgeAll (s : State) (t : Cfg) (bcast atHead : Bool) : List (Nat × Word) → Option (Nat × Nat)
  | [] => none
  | e :: l =>
    let c := judgeReg s t e.1 e.2 bcast atHead
    if c ≠ 0 then some (e.1, c) else judgeAll s t bcast atHead l

/-- R136, R137: the judgement of a WR: the address and the code of its refusal. A range that passes the end of its page is
recorded at its first register (log 66). -/
def judgeWr (s : State) (reg : BitVec 16) (ws : List Word) (bcast atHead : Bool) : Option (Nat × Nat) :=
  let l := writesOf reg ws
  if rangeOver reg ws.length then some (reg.toNat, 2) else judgeAll s (tentative s l) bcast atHead l

/-- Every register of an accepted WR. -/
def applyAll (t : Cfg) (bcast now : Bool) (l : List (Nat × Word)) (s : State) : State :=
  l.foldl (fun s e => applyReg t e.1 e.2 bcast now s) s

/-- R137, R141: a WR executed: its code, and the state after. -/
def accessWr (reg : BitVec 16) (ws : List Word) (bcast now : Bool) (s : State) : Nat × State :=
  match judgeWr s reg ws bcast false with
  | some (a, c) => (c, pgRecord a c s)
  | none => (0, let l := writesOf reg ws
                applyAll (tentative s l) bcast now l s)

/-- R116: the bits of the W1C fields of a register. -/
def w1cMask (a : Nat) : Word :=
  if a % 256 = 0x14 then 0xFFFFFFFF
  else
    match descAt a with
    | some d => d.fields.foldl (fun m f => if f.acc == .w1c then m ||| place (2 ^ (f.msb + 1 - f.lsb) - 1) f.lsb else m) 0
    | none => 0

/-- R116: the new value of an MWR. -/
def mwrValue (s : State) (a : Nat) (mask value : Word) : Word :=
  ((readReg s a &&& ~~~ mask) &&& ~~~ (w1cMask a)) ||| (value &&& mask)

/-- R116: an MWR executed: its code, its reply word and the state after. -/
def accessMwr (reg : BitVec 16) (mask value : Word) (s : State) : Nat × List Word × State :=
  let v := mwrValue s reg.toNat mask value
  let (c, s1) := accessWr reg [v] false false s
  (c, if c = 0 then [readReg s1 reg.toNat] else [], s1)

/-! ### RD, SNRD, BULK -/

/-- R136 to R138, R13: an RD executed. -/
def accessRd (reg : BitVec 16) (n : Nat) (s : State) : Nat × List Word × State :=
  if !pageExists (pageOf reg.toNat) || rangeOver reg n then (2, [], pgRecord reg.toNat 2 s)
  else (0, readRange n reg.toNat s)

/-- R132, R133: an SNRD executed. The range is judged before the snapshot (log 44). DESIGN CHOICE (log 78): a refusal for the
snapshot records the first register of the range in PG_ERR. -/
def accessSnrd (reg : BitVec 16) (n : Nat) (num : BitVec 16) (s : State) : Nat × List Word × State :=
  let addrs := (List.range n).map (regAddr reg)
  if rangeOver reg n then (2, [], pgRecord reg.toNat 2 s)
  else
    match addrs.find? (fun a => (snapWord {} a).isNone) with
    | some a => (2, [], pgRecord a 2 s)
    | none =>
      let c := snapJudge s num
      if c ≠ 0 then (c, [], pgRecord reg.toNat c s)
      else
        match s.dev.snaps.find? (fun x => x.num == num && x.held) with
        | some x => (0, addrs.map (fun a => (snapWord x a).getD 0), s)
        | none => (1, [], s)

/-- R463: a BULK executed. It addresses no page, so a refusal is recorded in none (log 44). -/
def accessBulk (offset : Word) (n : Nat) (tag : BitVec 6) (s : State) : Nat × List Word × State :=
  if 16777216 < offset.toNat + n then (2, [], s)
  else
    let (d, s1) := bulkExec offset.toNat n 1 tag s
    (0, d, s1)

/-- R116: an access of one device executed: opcode, register, length and data words as the frame carries them. -/
def access (op : Nat) (reg : BitVec 16) (len : Nat) (ws : List Word) (tag : BitVec 6) (s : State) :
    Nat × List Word × State :=
  match op with
  | 1 => accessRd reg len s
  | 2 => let (c, s1) := accessWr reg ws false false s
         (c, [], s1)
  | 3 => accessMwr reg (ws.getD 0 0) (ws.getD 1 0) s
  | 5 => accessSnrd reg len ((ws.getD 0 0).setWidth 16) s
  | _ => accessBulk (ws.getD 0 0) len tag s

end Sys2Proof.Machine
end

