-- ==== Sys2Proof/Machine/Writes.lean ====
section
/-! DEFINITION. The rows that are one register write executed by this device (R11): each writes its register through the
judgement and the effect of Access.lean, and a refusal is recorded in `PG_ERR` (R141). -/

namespace Sys2Proof.Machine

/-- One register of this device written; only a running core executes accesses. -/
def writeOne (a : Nat) (v : Word) (s : State) : State :=
  if coreRuns s then (accessWr (BitVec.ofNat 16 a) [v] false false s).2 else s

/-- REGISTER_WRITE (R11): of an aligned address. -/
def execRegisterWrite (addr : BitVec 16) (v : Word) (s : State) : Out :=
  done (if addr.toNat % 4 = 0 then writeOne addr.toNat v s else s)

/-- MODE_REQ (R79, R537): a request that this device judges; a broadcast RUN at the head is accepted for the whole pack
(R82). What a named boundary judges again is `bcastWrite`. -/
def execModeReq (v : Word) (bcast : Bool) (s : State) : Out :=
  done (if !coreRuns s then s
    else
      match judgeReg s s.cfgW 0x0024 v bcast (isHead s) with
      | 0 => modeAccept v bcast (bcast && s.time.fresh) s
      | c => pgRecord 0x0024 c s)

/-- ROLE_CFG_WRITE (R507). -/
def execRoleCfgWrite (v : Word) (s : State) : Out := done (writeOne 0x002C v s)
/-- KA_CFG_WRITE (R507). -/
def execKaCfgWrite (v : Word) (s : State) : Out := done (writeOne 0x1720 v s)
/-- HOST_ACK (R418, R396). -/
def execHostAck (v : Word) (s : State) : Out := done (writeOne 0x1134 v s)
/-- UNLOCK (R397). -/
def execUnlock (v : Word) (s : State) : Out := done (writeOne 0x1058 v s)
/-- BAL_TIMER_WRITE (R219): `BAL.TMRk`. -/
def execBalTimerWrite (k : Fin 16) (v : Word) (s : State) : Out := done (writeOne (0x0D28 + 4 * k.val) v s)

/-- A request of test `t` with a scope, as `DIAG.REQ` spells it (R255). -/
def reqWord (t : Nat) (scope : BitVec 3) : Word := place scope.toNat 8 ||| place t 0

/-- REQ_OW (R249). -/
def execReqOw (scope : BitVec 3) (s : State) : Out := done (writeOne 0x0E24 (reqWord 1 scope) s)
/-- REQ_CTT (R249). -/
def execReqCtt (scope : BitVec 3) (s : State) : Out := done (writeOne 0x0E24 (reqWord 2 scope) s)
/-- REQ_PZT (R249). -/
def execReqPzt (scope : BitVec 3) (s : State) : Out := done (writeOne 0x0E24 (reqWord 3 scope) s)
/-- REQ_BST (R249, R250). -/
def execReqBst (scope : BitVec 3) (s : State) : Out := done (writeOne 0x0E24 (reqWord 4 scope) s)
/-- REQ_TRIM_VERIFY (R264). -/
def execReqTrimVerify (scope : BitVec 3) (s : State) : Out := done (writeOne 0x0E24 (reqWord 5 scope) s)
/-- CAL_CMD (R268). -/
def execCalCmd (v : Word) (s : State) : Out := done (writeOne 0x0F28 v s)
/-- UNSEAL (R420, R430). -/
def execUnseal (v : Word) (s : State) : Out := done (writeOne 0x1090 v s)
/-- SEAL_CONFIRM (R421). -/
def execSealConfirm (v : Word) (s : State) : Out := done (writeOne 0x1084 v s)
/-- PACK_CONFIRM (R424). -/
def execPackConfirm (v : Word) (s : State) : Out := done (writeOne 0x10A0 v s)
/-- KEY_STAGE (R377): `MIRR.KEYk`. -/
def execKeyStage (k : Fin 4) (v : Word) (s : State) : Out := done (writeOne (0x0530 + 4 * k.val) v s)
/-- OTP_CMD (R509). -/
def execOtpCmd (v : Word) (s : State) : Out := done (writeOne 0x1838 v s)
/-- SEARCH_REQ (R351, R352). -/
def execSearchReq (v : Word) (s : State) : Out := done (writeOne 0x0420 v s)
/-- FREEZE (R459, R475): a write of `REC.CTRL`. -/
def execFreeze (v : Word) (s : State) : Out := done (writeOne 0x1424 v s)
/-- RELEASE (R462, R475): a write of `REC.CTRL`. -/
def execRelease (v : Word) (s : State) : Out := done (writeOne 0x1424 v s)

/-- A register of latched bits (R139, R451). -/
def isLatchReg (a : Nat) : Bool := a % 256 == 0x14 || a == 0x1230 || a == 0x1234 || a == 0x1238 || a == 0x123C

/-- LATCH_CLEAR (R439, R140): of `FCOL.LAT_x` or a `PG_EVTL`. -/
def execLatchClear (addr : BitVec 16) (v : Word) (s : State) : Out :=
  done (if isLatchReg addr.toNat then writeOne addr.toNat v s else s)
/-- CLR_CNT (R451): a write of `FCOL.SEL`. -/
def execClrCnt (v : Word) (s : State) : Out := done (writeOne 0x1278 v s)
/-- FER_CLEAR (R441): a write of `FCOL.FER_INFO`. -/
def execFerClear (v : Word) (s : State) : Out := done (writeOne 0x1284 v s)
/-- PEV_POP (R447, R452). -/
def execPevPop (v : Word) (s : State) : Out := done (writeOne 0x12A8 v s)
/-- INJECT (R449, R452). -/
def execInject (v : Word) (s : State) : Out := done (writeOne 0x12AC v s)
/-- WAKE_CLR (R495, R498). -/
def execWakeClr (v : Word) (s : State) : Out := done (writeOne 0x1634 v s)

end Sys2Proof.Machine
end

