-- ==== Sys2Proof/Machine/Host.lean ====
section
/-! DEFINITION. The host port of the head: command frames, the accept byte, tags, and the acceptance of transactions
(R112 to R122, R127, R128, R131). -/

namespace Sys2Proof.Machine

/-! ### The frame (R112 to R119) -/

/-- R43, R111, R124: the head's host port and link hardware work without the core: they judge frames, repeat transactions and end
them at their bound, outside SLEEP, SHIP, reset and the start-up path. -/
def headLink (s : State) : Bool := isHead s && linkUp s

/-- R116: the data words of a command frame of an opcode. -/
def dataCount (op : Nat) (h : HostHdr) : Nat :=
  match op with
  | 2 => h.len.toNat + (if h.addr = 0 then 1 else 0)
  | 3 => 2
  | 4 | 5 | 6 => 1
  | _ => 0

/-- Exactly `n` words: a list too short is filled with zero words (log 4). -/
def padWords (n : Nat) (l : List Word) : List Word := (l ++ List.replicate n 0).take n

/-- R115: the six header bytes. -/
def headerBytes (op : Nat) (h : HostHdr) : List Byte :=
  [BitVec.ofNat 8 op, h.rsvTag ++ h.tag, h.rsvAddr ++ h.addr] ++ natBytes 2 h.reg.toNat ++ [h.len]

/-- R117: the CRC of a command frame matches. -/
def crcMatches (op : Nat) (h : HostHdr) (ws : List Word) : Bool :=
  crc16 (headerBytes op h ++ ws.flatMap wordBytes) == h.crc

/-- Tags that are free. -/
def freeTags (s : State) : Nat := (s.host.tags.filter (fun g => !g.busy)).length

/-- R119: the bytes of a reply frame with its CRC. -/
def replyBytes (r : Reply) : List Byte :=
  let body : List Byte :=
    [BitVec.ofNat 8 r.op, r.tag.setWidth 8, r.addr.setWidth 8, BitVec.ofNat 8 r.status,
     BitVec.ofNat 8 ((if r.uncert then 128 else 0) + (if r.noreach then 64 else 0) + (if r.retried then 32 else 0) + (if r.alt then 16 else 0)),
     BitVec.ofNat 8 r.data.length] ++ natBytes 2 r.stitch.toNat ++ natBytes 2 r.snap.toNat ++ r.data.flatMap wordBytes
  body ++ natBytes 2 (crc16 body).toNat

/-! ### The accept byte (R120) -/

/-- The opcode fetches a reply. -/
def opFetch (op : Nat) : Bool := op == 0xC || op == 0xD || op == 0xE
/-- R116: the opcode is in the table. -/
def opKnown (op : Nat) : Bool := (decide (1 ≤ op) && decide (op ≤ 6)) || opFetch op
/-- The frame is a broadcast WR or a SNAP. -/
def frameBcast (op : Nat) (h : HostHdr) : Bool := (op == 2 && h.addr == 0) || op == 4

/-- R120: the fields that the opcode requires to be zero, the reserved bits and the stitch word. -/
def frameValues (op : Nat) (h : HostHdr) (ws : List Word) : Bool :=
  opKnown op && h.rsvTag == 0 && h.rsvAddr == 0 &&
    (!frameBcast op h || bits (ws.getD 0 0) 31 16 == 0) && (op != 6 || h.reg == 0) &&
    (!opFetch op || (h.reg == 0 && h.len == 0 && h.addr == 0)) && (op != 0xC || h.tag == 0)

/-- R120: lengths and alignment. -/
def frameWidth (op : Nat) (h : HostHdr) : Bool :=
  (opFetch op || (decide (1 ≤ h.len.toNat) && decide (h.len.toNat ≤ 64))) &&
    ((op != 3 && op != 4) || h.len == 1) && !(op == 2 && h.addr == 0 && decide (60 < h.len.toNat)) &&
    h.reg.toNat % 4 == 0

/-- R309: words of a broadcast frame of `n` data words. -/
def bcastWords (op n : Nat) : Nat := if op = 4 then 3 else n + 3

/-- R309: the host broadcast frames that are pending, up to their named stitch. -/
def bcastPending (s : State) : List Trans := s.host.trans.filter (fun t => t.addr == 0 && decide (stitches s ≤ t.namedAt))

/-- R120: a broadcast would bring the pending words above 64. -/
def bcastFull (op : Nat) (h : HostHdr) (s : State) : Bool :=
  frameBcast op h &&
    decide (64 < (bcastPending s).foldl (fun n t => n + bcastWords t.op t.len) 0 + bcastWords op h.len.toNat)

/-- R116, R120: the address is allowed for the opcode; of a SNAP a nonzero one is not (log 66). -/
def frameAddr (op : Nat) (h : HostHdr) : Bool :=
  h.addr != 63 && !((op == 1 || op == 3 || op == 5 || op == 6) && h.addr == 0) && !(op == 4 && h.addr != 0)

/-- R120: the tag rule of an opcode. -/
def tagJudge (op : Nat) (t : BitVec 6) (s : State) : Nat :=
  let g := s.host.tags.getD t.toNat {}
  match op with
  | 0xC => if s.host.doneQ.isEmpty then 5 else 0
  | 0xD => if g.done then 0 else if g.busy then 5 else 8
  | 0xE => if g.last.isSome then 0 else 8
  | _ => if g.busy then 8 else 0

/-- R128: whole stitches from now to the named stitch. -/
def namedIn (s : State) (w : Word) : Nat := ((w.setWidth 16 : BitVec 16) - stitch s).toNat

/-- R128: the window of a broadcast, and RUN at the head (R82). -/
def bcastJudge (op : Nat) (h : HostHdr) (ws : List Word) (s : State) : Nat :=
  if !frameBcast op h then 0
  else
    let d := namedIn s (ws.getD 0 0)
    if d < (if op = 4 then 3 else 2) || 1000 < d then 1
    else
      let run := op == 2 && (writesOf h.reg (ws.drop 1)).any (fun e => e.1 == 0x0024 && bits e.2 2 0 == 4)
      if run && !inMode s .run then runAll s else 0

/-- R120: the accept byte of a frame. -/
def acceptJudge (op : Nat) (h : HostHdr) (ws : List Word) (s : State) : Nat :=
  if !crcMatches op h ws then 7
  else if !frameValues op h ws then 1
  else if !frameWidth op h then 6
  else if bcastFull op h s then 5
  else if !frameAddr op h then 2
  else
    let t := tagJudge op h.tag s
    if t ≠ 0 then t else bcastJudge op h ws s

/-! ### Acceptance (R121, R123, R127, R131) -/

/-- A transaction of the head's own list, changed. -/
def setTrans (tag : BitVec 6) (f : Trans → Trans) (s : State) : State :=
  { s with host := { s.host with trans := s.host.trans.map (fun (t : Trans) => if t.tag == tag then f t else t) } }

/-- R121: a tag taken by an accepted frame. -/
def takeTag (tag : BitVec 6) (s : State) : State :=
  { s with host := { s.host with tags := s.host.tags.set tag.toNat { busy := true } } }

/-- R127: a transaction of the head itself, which needs no ring. -/
def ofHead (t : Trans) : Bool := t.addr == 1

/-- R127: a transaction executed at the head. -/
def execHere (t : Trans) (s : State) : State :=
  let st := stitch s
  let (c, d, s1) := access t.op t.reg t.len t.data t.tag s
  finish t { replyFor t c st with data := if c = 0 then d else [] } s1

/-- R43, R127: link service handles the head's own transactions that wait, in order of acceptance. -/
def ownServe (s : State) : State :=
  if coreRuns s then (s.host.trans.filter ofHead).foldl (fun s t => execHere t s) s else s

/-- R43, R127: a transaction of the head itself: link service handles it at once, after those that wait, or it waits too (log 47). -/
def acceptOwn (t : Trans) (handled : Bool) (s : State) : State :=
  if coreRuns s && handled then execHere t (ownServe s)
  else { s with host := { s.host with trans := s.host.trans ++ [{ t with sent := true }] } }

/-- R128 to R131: a broadcast accepted: the head is one of the devices that receive it. -/
def acceptBcast (t : Trans) (w : Word) (data : List Word) (s : State) : State :=
  let named : BitVec 16 := w.setWidth 16
  let n := if t.op = 4 then s.time.snapCtr + 1 else 0
  let t1 := { t with seq := bcastSeq t.op t.tag s, named := named, namedAt := stitches s + namedIn s w, snap := n, data := data }
  let s0 := noteBcast { op := t1.op, tag := t1.tag, seq := t1.seq, named := t1.named, namedAt := t1.namedAt } s
  let s1 := { s0 with
    host := { s0.host with trans := s0.host.trans ++ [t1] }
    dev := if coreRuns s then
        { s.dev with bcasts := s.dev.bcasts ++ [{ stitch := named, tag := t.tag, seq := t1.seq, reg := t.reg, data := if t.op = 4 then [] else data }] }
      else s.dev }
  let s2 := if t.op = 4 then { s1 with time := { s1.time with snapCtr := n } } else s1
  if t.op = 4 && coreRuns s then snapRequest n named s2 else s2

/-- R123: a transaction to a member takes the next sequence number of its address. -/
def acceptMember (t : Trans) (s : State) : State :=
  let q := (member s t.addr.toNat).seqOut
  setMember t.addr.toNat (fun (m : Member) => { m with seqOut := q + 1 })
    { s with host := { s.host with trans := s.host.trans ++ [{ t with seq := q }] } }

/-- An accepted RD to BULK. -/
def acceptTrans (op : Nat) (h : HostHdr) (ws : List Word) (s : State) : State :=
  let s1 := takeTag h.tag s
  let t : Trans := { tag := h.tag, op := op, addr := h.addr, reg := h.reg, len := h.len.toNat, data := ws, accepted := stitches s, pt := s.time.pt
                     snap := if op = 5 then (ws.getD 0 0).setWidth 16 else 0 }
  if h.addr = 0 then acceptBcast t (ws.getD 0 0) (ws.drop 1) s1
  else if h.addr = 1 then acceptOwn t h.handled s1
  else if s.enum.map.any (fun e => e.addr == h.addr) then acceptMember t s1
  else finishOutside t s1

/-- R121, R122: the reply of a tag delivered. -/
def deliver (tag : BitVec 6) (s : State) : State :=
  let g := s.host.tags.getD tag.toNat {}
  { s with host := { s.host with
    tags := s.host.tags.set tag.toNat { last := g.reply }
    doneQ := s.host.doneQ.filter (fun k => k != tag)
    sdo := (0 : Byte) :: (match g.reply with | some r => replyBytes r | none => []) } }

/-- An accepted NEXT, FETCH or REFETCH. -/
def acceptFetch (op : Nat) (h : HostHdr) (s : State) : State :=
  match op with
  | 0xC => deliver (s.host.doneQ.headD 0) s
  | 0xD => deliver h.tag s
  | _ =>
    { s with host := { s.host with
      sdo := (0 : Byte) :: (match (s.host.tags.getD h.tag.toNat {}).last with | some r => replyBytes r | none => []) } }

/-- R147: the counter of a refusal at the accept byte. -/
def countRefusal (c : Nat) (x : HostSt) : HostSt :=
  if c = 7 then { x with crcErr := satInc x.crcErr 0xFF }
  else if c = 8 then { x with tagErr := satInc x.tagErr 0xFF }
  else { x with refused := satInc x.refused 0xFF }

/-- R114, R118, R147: what every judged frame leaves: mode, status bytes, accept byte. -/
def driveAccept (c : Nat) (h : HostHdr) (s : State) : State :=
  { s with host := { s.host with
    spiMode := h.mode3, accept := c, sdo := [BitVec.ofNat 8 c]
    status0 := BitVec.ofNat 8 ((if s.host.irq then 128 else 0) + s.host.doneQ.length)
    status1 := BitVec.ofNat 8 (freeTags s) } }

/-- One whole command frame at the port. -/
def hostFrame (op : Nat) (h : HostHdr) (dat : List Word) (s : State) : State :=
  if !headLink s then s
  else
    let s0 := atUs h.us.toNat s
    let ws := padWords (dataCount op h) dat
    let c := acceptJudge op h ws s0
    let s1 := driveAccept c h s0
    if c ≠ 0 then { s1 with host := countRefusal c s1.host }
    else if opFetch op then acceptFetch op h s1
    else acceptTrans op h ws s1

/-- RD (R116). -/
def execRd (h : HostHdr) (s : State) : Out := done (hostFrame 1 h [] s)
/-- WR (R116): the stitch word first when the frame is a broadcast. -/
def execWr (h : HostHdr) (words : List Word) (s : State) : Out := done (hostFrame 2 h words s)
/-- MWR (R116). -/
def execMwr (h : HostHdr) (mask value : Word) (s : State) : Out := done (hostFrame 3 h [mask, value] s)
/-- SNAP (R128, R131). -/
def execSnap (h : HostHdr) (stitchWord : Word) (s : State) : Out := done (hostFrame 4 h [stitchWord] s)
/-- SNRD (R132, R133). -/
def execSnrd (h : HostHdr) (snapWord : Word) (s : State) : Out := done (hostFrame 5 h [snapWord] s)
/-- BULK (R463): `ups` are the bits of this device's bobbin found flipped. -/
def execBulk (h : HostHdr) (offset : Word) (ups : List Upset) (s : State) : Out :=
  done (hostFrame 6 h [offset] { s with bob := recUpset ups s.bob })
/-- NEXT (R122). -/
def execNext (h : HostHdr) (s : State) : Out := done (hostFrame 0xC h [] s)
/-- FETCH (R121). -/
def execFetch (h : HostHdr) (s : State) : Out := done (hostFrame 0xD h [] s)
/-- REFETCH (R121). -/
def execRefetch (h : HostHdr) (s : State) : Out := done (hostFrame 0xE h [] s)
/-- UNKNOWN_OPCODE (R116, R120): an opcode of the table makes no such frame. -/
def execUnknownOpcode (op : BitVec 8) (h : HostHdr) (s : State) : Out :=
  done (if opKnown op.toNat then s else hostFrame op.toNat h [] s)
/-- FRAME_ABORT (R113). -/
def execFrameAbort (s : State) : Out :=
  done (if headLink s then { s with host := { s.host with abort := satInc s.host.abort 0xFF } } else s)

end Sys2Proof.Machine
end

