-- ==== Sys2Proof/Machine/Serve.lean ====
section
/-! DEFINITION. Transactions on the ring: what the head sends and grants, a member's link service, replies, the bound,
and broadcasts at their named boundary (R43, R123 to R131, R308, R309, R313, R314, R344 to R348). -/

namespace Sys2Proof.Machine

/-! ### Frames (R308) -/

/-- R308: the command frame of a transaction. The ARG of a SNAP carries the snapshot number where REG stands (log 46). -/
def commandFrame (t : Trans) : List LinkWord :=
  let bcast := t.addr == 0
  let arg0 : Word := place (if t.op = 4 then t.snap.toNat else t.reg.toNat) 16
  let arg1 : Word := place (if bcast then t.named.toNat else if t.op = 5 then t.snap.toNat else 0) 0
  frameOf (place t.op 28 ||| place t.tag.toNat 22 ||| place t.addr.toNat 16 ||| place t.seq.toNat 8 ||| flag t.retried 7 |||
      place t.len 0)
    ((arg0 ||| arg1) :: (if t.op = 4 || t.op = 5 || t.op = 1 then [] else t.data))

/-- R308: the words of a reply frame. -/
def replyFrame (seq : BitVec 8) (r : Reply) : List LinkWord :=
  let ws := [place r.op 28 ||| place r.tag.toNat 22 ||| place r.addr.toNat 16 ||| place seq.toNat 8 ||| place r.status 0,
    place r.stitch.toNat 16 ||| place r.snap.toNat 0] ++ r.data
  typed true (ws ++ [place r.data.length 16 ||| place (frameCrc ws).toNat 0])

/-- R314: an intact reply frame. -/
def replyIntact (ws : List LinkWord) : Bool :=
  let pw := payloads ws
  frameTypes ws && decide (3 ≤ ws.length) &&
    pw.getLast? == some (place (ws.length - 3) 16 ||| place (frameCrc pw.dropLast).toNat 0)

/-- The words of a reply of the expected length (R348). -/
def replyLen (t : Trans) : Nat :=
  match t.op with | 2 => 3 | 3 => 4 | _ => t.len + 3

/-! ### What the head sends (R309, R313, R348) -/

/-- R306: words of the reply region. -/
def replyRegion (s : State) : Nat := 351 - 4 * (s.enum.h.toNat - 1)

/-- R330: the stream on which the map in force places a member, by its path delays (log 45): false OUT, true BACK. -/
def placedBack (s : State) (a : BitVec 6) : Bool :=
  (s.enum.map ++ s.enum.reserved).any (fun e => e.addr == a && placeOf e.dOut e.dBack == 2)

/-- R298, R313: a stream (false OUT, true BACK) brought a copy of a member to the head in the stitch that ended. -/
def reachesHead (s : State) (a : BitVec 6) (back : Bool) : Bool :=
  let m := member s a.toNat
  if back == s.link.ringClosed then m.wasU else m.wasL

/-- R313, R321, R330: the stream on which the head grants and reserves space for an address: the one that reaches the head
from it, and of two the placed one (log 45). -/
def grantStream (s : State) (a : BitVec 6) : Bool :=
  let back := reachesHead s a true
  if back != reachesHead s a false then back else placedBack s a

/-- R396: the head's own broadcast of the pack acknowledge: `SIO.ACK` = 0x5A. DEDUCED (log 63): a frame has a TAG field and the
broadcast uses no host tag, so it carries 0 there, with a SEQ that no frame of that TAG carried: its answers are told from those. -/
def packAckTrans (s : State) : Trans :=
  { op := 2, reg := 0x1134, len := 1, data := [0x5A], seq := s.safe.packAckSeq.getD 0, named := BitVec.ofNat 16 s.safe.packAckAt, namedAt := s.safe.packAckAt
    pt := s.safe.packAckPt }

/-- R309, R396: the pack acknowledge goes out in this stitch, one of the two after that of its acceptance, whose burst had begun. -/
def packAckDue (s : State) : Bool :=
  decide (0 < s.safe.packAckAt) && decide (stitches s ≤ s.safe.packAckAt) && decide (s.safe.packAckAt ≤ stitches s + 1)

/-- R308, R309: the pack acknowledge takes its SEQ when it first goes out, one that no frame in flight carries or can come to carry
(log 63). -/
def packAckTake (s : State) : State :=
  if packAckDue s && s.safe.packAckSeq.isNone then
    noteBcast { op := 2, tag := 0, seq := bcastSeq 2 0 s, named := BitVec.ofNat 16 s.safe.packAckAt, namedAt := s.safe.packAckAt }
      { s with safe := { s.safe with packAckSeq := some (bcastSeq 2 0 s) } }
  else s

/-- R309: the pending broadcasts in order of acceptance, the pack acknowledge up to its named stitch among them. -/
def bcastQueue (s : State) : List Trans :=
  if packAckDue s then
    let before (t : Trans) : Bool := decide (t.pt.toNat ≤ s.safe.packAckPt.toNat)
    (bcastPending s).filter before ++ packAckTrans s :: (bcastPending s).filter (fun t => !before t)
  else bcastPending s

/-- Frames that fit `n` words, in order; one that does not fit waits (R309; log 46). -/
def framesFit : Nat → List (List LinkWord) → List (List LinkWord)
  | _, [] => []
  | n, f :: l => if f.length ≤ n then f :: framesFit (n - f.length) l else framesFit n l

/-- R309: the broadcast frames of the stitch, beside a frame of the search. -/
def bcastFrames (s : State) : List (List LinkWord) :=
  framesFit (72 - s.enum.frameTx.length) ((bcastQueue s).map commandFrame)

/-- A member's latest wired copy of the stitch that ended. -/
def lastCopy (s : State) (a : BitVec 6) : Option Copy :=
  let m := member s a.toNat
  if m.wiredAt + 1 = stitches s then m.wired else none

/-- R126: the abandoned frames that go ahead of a later transaction to their device. -/
def ghostsDue (s : State) : List Trans :=
  s.host.ghosts.filter (fun g => (openTrans s).any (fun t => t.addr == g.addr))

/-- R313: the space that outstanding replies and event records want: address and words, replies first. -/
def grantWants (s : State) : List (BitVec 6 × Nat) :=
  let req (a : BitVec 6) : Bool := match lastCopy s a with | some c => decide (0 < c.req) | none => false
  let every (p : BitVec 6 → Bool) : List (BitVec 6 × Nat) :=
    (s.enum.map.filter (fun e => e.addr != 1 && req e.addr && p e.addr)).map (fun e => (e.addr, 3))
  let one (t : Trans) : List (BitVec 6 × Nat) :=
    if ofHead t then []
    else if t.addr != 0 then (if t.sent && req t.addr then [(t.addr, replyLen t)] else [])
    else if t.namedAt < stitches s then every (fun a => !t.applied.getLsbD a.toNat && !t.refused.any (fun r => r.1 == a))
    else []
  let ack := if 0 < s.safe.packAckAt && s.safe.packAckAt < stitches s && stitches s ≤ s.safe.packAckAt + 4 then
    every (fun _ => true) else []
  (ghostsDue s ++ openTrans s).flatMap one ++ ack ++
    (s.enum.map.filter (fun e => match lastCopy s e.addr with | some c => c.evt | none => false)).map (fun e => (e.addr, 51))

/-- R313: grants that do not overlap, from the first free words of each stream. -/
def packGrants (s : State) (top : Nat) : List (BitVec 6 × Nat) → Nat → Nat → Nat → List Word
  | [], _, _, _ => []
  | (a, n) :: l, o, b, room =>
    let back := grantStream s a
    let at_ := if back then b else o
    if room = 0 || top < at_ + n then packGrants s top l o b room
    else
      (place a.toNat 26 ||| flag back 25 ||| place at_ 16 ||| place n 8) ::
        packGrants s top l (if back then o else o + n) (if back then b + n else b) (room - 1)

/-- R338: the words that ID records keep from replies in stitch `k` of pack time, in the eight stitches after the TACK of an
attempt: members write there also when the head has ended it, or begun the next, meanwhile. -/
def idWords (s : State) (k : Nat) : Nat :=
  let within (a : Nat) : Bool := decide (a < k) && decide (k ≤ a + 8)
  if ((s.enum.search != 0 || s.enum.startAt != 0) && within s.enum.startAt) || s.enum.startPrev.any within then 40 else 0

/-- R309, R313, R338: the grant words. -/
def grantsOf (s : State) (room : Nat) : List LinkWord :=
  let base := idWords s (stitches s)
  (packGrants s (replyRegion s) (grantWants s) base base room).map (fun w => ⟨0xC, w, false⟩)

/-- R348: the reply capacity of a stream in the stitches up to the third boundary after the acceptance of `t`. -/
def replyRoom (s : State) (t : Trans) : Nat :=
  (List.range (t.accepted + 3 - stitches s)).foldl (fun n k => n + (replyRegion s - idWords s (stitches s + k))) 0

/-- R348: words reserved on a stream for the replies of frames that were sent. -/
def reserved (s : State) (l : List Trans) (back : Bool) : Nat :=
  l.foldl (fun n t =>
    if t.addr != 0 && !ofHead t && t.sent && t.reply.isNone && grantStream s t.addr == back then n + replyLen t else n) 0

/-- R130: a broadcast whose named stitch is not past carries the opcode, TAG and SEQ of this frame; it waits, so that no reply
to it looks like an answer to that broadcast (log 63). -/
def bcastLike (s : State) (t : Trans) : Bool :=
  s.host.bcSent.any (fun k => k.op == t.op && k.tag == t.tag && k.seq == t.seq && decide (stitches s ≤ k.namedAt))

/-- R309, R348, R126: the unicast frames that fit `room` words, in order of acceptance: the list afterwards, and the
frames. A frame waits behind an earlier one of its device that waits, of the devices `hold` too (log 63). -/
def unicastFrames (s : State) : List Trans → List Trans → Nat → List (BitVec 6) → List Trans × List (List LinkWord)
  | done_, [], _, _ => (done_, [])
  | done_, t :: l, room, hold =>
    let f := commandFrame t
    let back := grantStream s t.addr
    let due := t.addr != 0 && t.reply.isNone && (!t.sent || t.again) && !bcastLike s t
    let space := t.sent || decide (reserved s (s.host.ghosts ++ done_ ++ l) back + replyLen t ≤ replyRoom s t)
    if due && !hold.contains t.addr && decide (f.length ≤ room) && space then
      let t1 := { t with sent := true, again := false, sentAt := if t.sent then t.sentAt else stitches s }
      let (a, b) := unicastFrames s (done_ ++ [t1]) l (room - f.length) hold
      (a, f :: b)
    else unicastFrames s (done_ ++ [t]) l room (if due then t.addr :: hold else hold)

/-- R359: the beacon that goes out in this stitch carries the pack state of its HEADSTATE. -/
def beaconForm (s : State) : State :=
  if isHead s && !s.mirr.frameTx.isEmpty && stitches s % 10 == 0 && s.mirr.cycle == stitches s / 10 then
    { s with mirr := { s.mirr with frameTx := onAir (beaconFrame s) } }
  else s

/-- R307, R309: the words that a sending head sends in the stitch that begins. A frame kept for
repetition that goes out is a retry (R126, R147). -/
def sendWords (s : State) : State :=
  let bc := bcastFrames s
  let own := s.enum.frameTx
  let nb := bc.flatten.length + own.length
  let gr := grantsOf s (min 32 (72 - nb))
  let room := 72 - nb - gr.length
  let gh := framesFit room ((ghostsDue s).map commandFrame)
  let hold := if gh.length = (ghostsDue s).length then [] else (ghostsDue s).map (fun g => g.addr)
  let (tr, uc) := unicastFrames s [] s.host.trans (room - gh.flatten.length) hold
  let cmd := bc.flatten ++ own ++ gh.flatten ++ uc.flatten
  let s1 := { s with
    host := { s.host with trans := tr, retry := satAdd s.host.retry gh.length 0xFFFF }
    link := { s.link with cont := s.enum.h.toNat - 1, startTx := startWord s, grantTx := gr, cmdTx := cmd } }
  { s1 with link := { s1.link with
    burstTx := (burstWords s1 gr.length (gr.length + cmd.length)).map (fun w => ⟨0xA, w, false⟩) } }

/-- R307, R309: START, the command region and the fixed burst of the stitch that begins, at a sending head. -/
def headSend (s : State) : State :=
  let s1 := { s with link := { s.link with grantWas := s.link.grantTx } }
  if isHead s && s.sys.sending && linkUp s then sendWords (packAckTake s1)
  else { s1 with link := { s1.link with startTx := 0, burstTx := [], grantTx := [], cmdTx := [] } }

/-! ### Link service at a member (R43, R123, R308, R346) -/

/-- A command frame as a member reads it. -/
def transOf (ws : List Word) : Trans :=
  let h := ws.getD 0 0
  let a := ws.getD 1 0
  let op := bits h 31 28
  { op := op, tag := BitVec.ofNat 6 (bits h 27 22), addr := BitVec.ofNat 6 (bits h 21 16), seq := BitVec.ofNat 8 (bits h 15 8)
    retried := bit h 7, len := bits h 6 0, reg := if op = 4 then 0 else BitVec.ofNat 16 (bits a 31 16)
    named := BitVec.ofNat 16 (bits a 15 0)
    snap := if op = 4 then BitVec.ofNat 16 (bits a 31 16) else if op = 5 then BitVec.ofNat 16 (bits a 15 0) else 0
    data := if op = 5 then [place (bits a 15 0) 0] else (ws.drop 2).dropLast }

/-- R346: the stored reply of a sequence number. -/
def storedReply (s : State) (q : BitVec 8) : Option Reply := (s.dev.stored.find? (fun e => e.1 == q)).map (fun e => e.2)

/-- A reply frame made ready (R313), once while it waits. -/
def makeReady (q : BitVec 8) (r : Reply) (s : State) : State :=
  if s.dev.ready.contains (q, r) then s else { s with dev := { s.dev with ready := s.dev.ready ++ [(q, r)] } }

/-- R308: the answer to a SNAP made ready, its stitch having ended; its SEQ is that of the frame (log 63). -/
def makeAnswer (q : BitVec 8) (r : Reply) (s : State) : State := { s with dev := { s.dev with ready := s.dev.ready ++ [(q, r)] } }

/-- R308: the answer to a broadcast write, which goes out after the named stitch, with the SEQ of its frame (log 63). -/
def answerLater (q : BitVec 8) (r : Reply) (s : State) : State :=
  { s with dev := { s.dev with answers := s.dev.answers ++ [(q, r)] } }

/-- R308: the stitch of the broadcast writes that were answered has ended. -/
def answersReady (s : State) : State := { s with dev := { s.dev with ready := s.dev.ready ++ s.dev.answers, answers := [] } }

/-- R123: the reply of an executed sequence number stored, and made ready. -/
def storeReply (q : BitVec 8) (r : Reply) (s : State) : State :=
  makeReady q r { s with dev := { s.dev with
    seqValid := true, seqExp := q + 1, stored := (s.dev.stored.filter (fun e => e.1 != q) ++ [(q, r)]).drop
      ((s.dev.stored.filter (fun e => e.1 != q)).length + 1 - 64) } }

/-- A reply of this device to a command frame. Its STITCH is that of the execution (R119), also of an RD whose values were
published one stitch earlier (R134, log 66). -/
def ownReply (t : Trans) (status : Nat) (s : State) : Reply :=
  { op := t.op, tag := t.tag, addr := s.sys.addr, status := status, stitch := stitch s, snap := t.snap }

/-- R346: what a frame addressed to this device brings: execution, a stored reply, a SEQ reply, or nothing. -/
inductive SeqCase | run | again (r : Reply) | lost | drop deriving DecidableEq, Repr

/-- R346, row by row. -/
def seqJudge (s : State) (t : Trans) : SeqCase :=
  let d := (t.seq - s.dev.seqExp).toNat
  if !s.dev.seqValid then (if t.retried then .lost else .run)
  else if d = 0 then .run
  else
    match storedReply s t.seq with
    | some r => if t.retried then .again r else .drop
    | none => if d ≤ 127 then .drop else .lost

/-- R346: a frame addressed to this device, whose execution is `run`. -/
def serveSeq (run : Trans → State → State) (t : Trans) (s : State) : State :=
  match seqJudge s t with
  | .run => run t s
  | .again r => makeReady t.seq r s
  | .lost => makeReady t.seq (ownReply t 9 s) s
  | .drop => s

/-- Link service executes a frame. -/
def serveRun (t : Trans) (s : State) : State :=
  let (c, d, s1) := access t.op t.reg t.len t.data t.tag s
  storeReply t.seq { ownReply t c s with data := if c = 0 then d else [] } s1

/-- R346: link service handles a frame addressed to this device. -/
def serveUnicast : Trans → State → State := serveSeq serveRun

/-- R43: the link hardware answers BUSY in place of link service. -/
def serveBusy : Trans → State → State := serveSeq (fun t s => storeReply t.seq (ownReply t 5 s) s)

/-- R43: link service handles what waited for it, oldest first: at the head its own transactions, at a member the frames. -/
def inboxServe (s : State) : State :=
  if !coreRuns s then s
  else if isHead s then ownServe s
  else s.dev.inbox.foldl (fun s e => serveUnicast e.1 s) { s with dev := { s.dev with inbox := [] } }

/-- R43: a frame has waited to the end of the third stitch, that of its arrival counted (log 47). -/
def inboxLate (s : State) (e : Trans × Nat) : Bool := decide (e.2 + 3 ≤ stitches s)

/-- R43: the frames of `p` that link service has not handled in time are answered BUSY. -/
def inboxBusy (p : Trans → Bool) (s : State) : State :=
  let due (e : Trans × Nat) : Bool := inboxLate s e && p e.1
  (s.dev.inbox.filter due).foldl (fun s e => serveBusy e.1 s)
    { s with dev := { s.dev with inbox := s.dev.inbox.filter (fun e => !due e) } }

/-- R129, R131: a broadcast received at a tacked address, once, before its named boundary; a SNAP still in its stitch. -/
def serveBcast (t : Trans) (s : State) : State :=
  let b : Bcast := { stitch := t.named, tag := t.tag, seq := t.seq, reg := t.reg, data := if t.op = 4 then [] else t.data }
  let d := (t.named - stitch s).toNat
  if s.sys.addr == 63 || !coreRuns s || (d = 0 && t.op != 4) || 1000 < d ||
      s.dev.bcasts.any (fun x => { x with woken := false } == b) then s
  else
    let s1 := { s with dev := { s.dev with bcasts := s.dev.bcasts ++ [b] } }
    if t.op = 4 then snapRequest t.snap t.named s1 else s1

/-- R308: an intact command frame at a member: a broadcast, a frame of this device, or one of another. One that link service
does not handle at once waits (R43). -/
def serveFrame (t : Trans) (handled : Bool) (s : State) : State :=
  if t.addr == 0 then (if t.op = 2 || t.op = 4 then serveBcast t s else s)
  else if t.addr != s.sys.addr || s.sys.addr == 63 then s
  else if coreRuns s && handled then serveUnicast t (inboxServe s)
  else { s with dev := { s.dev with inbox := s.dev.inbox ++ [(t, stitches s)] } }

/-- COMMAND_FRAME_RECEIVE (R298, R308, R346): at a member, from either stream, `us` after the slot boundary; the words go
on whatever they are. `handled` says that link service runs at once (R38, R43). -/
def execCommandFrameReceive (stream : Stream) (us : BitVec 7) (words : List LinkWord) (ups : List Upset) (handled : Bool)
    (s : State) : Out :=
  done (
    let p := arrivalPort false stream
    let t := transOf (payloads words)
    if !linkUp s || isHead s || (portGet s.link p).folded then s
    else
      let s1 := wordsPass p words (atUs us.toNat { s with bob := recUpset ups s.bob })
      if frameIntact words && decide (1 ≤ t.op) && decide (t.op ≤ 6) then serveFrame t handled s1 else s1)

/-- LINK_SERVICE_BUSY (R43): the link hardware answers BUSY for a frame that link service has not handled, and the
transaction is withdrawn (log 47). -/
def execLinkServiceBusy (words : List LinkWord) (s : State) : Out :=
  done (if linkUp s && !isHead s && frameIntact words then inboxBusy (fun t => t == transOf (payloads words)) s else s)

/-- R313: the oldest ready frames that fit `n` words: the words, and the frames left. -/
def fillReplies : Nat → List (BitVec 8 × Reply) → List LinkWord × List (BitVec 8 × Reply)
  | _, [] => ([], [])
  | n, (q, r) :: l =>
    let f := replyFrame q r
    if f.length ≤ n then
      let (ws, rest) := fillReplies (n - f.length) l
      (f ++ ws, rest)
    else
      let (ws, rest) := fillReplies n l
      (ws, (q, r) :: rest)

/-- R313, R444: one grant filled with reply frames, then with an event record frame, padded with IDLE words. -/
def fillGrant (g : Bool × Nat × Nat) (s : State) : State :=
  let n := g.2.2
  let (ws, rest) := fillReplies n s.dev.ready
  let k := min 16 (min s.col.recs.length ((n - ws.length - 3) / 3))
  let ev := if k = 0 then [] else typed true (eventFrame s.sys.addr s.col.rseq (stitch s) (s.col.recs.take k))
  let all := ws ++ ev
  { s with
    dev := { s.dev with ready := rest }
    col := if k = 0 then s.col else { s.col with recs := s.col.recs.drop k, rseq := s.col.rseq + 1 }
    link := { s.link with replyTx := s.link.replyTx ++ [(g.1, g.2.1, all ++ List.replicate (n - all.length) idleWord)] } }

/-- R304, R306: ns after the boundary at which granted space begins to pass this device. -/
def grantNs (s : State) (g : Bool × Nat × Nat) : Nat :=
  let d := if g.1 then s.enum.dBack else s.enum.dOut
  (88 + 4 * s.link.cont + g.2.1) * 2250 - 125 + (if d == 0xFFFF then 0 else d.toNat)

/-- A grant among others, by the instant at which its space passes. -/
def grantIns (s : State) (g : Bool × Nat × Nat) : List (Bool × Nat × Nat) → List (Bool × Nat × Nat)
  | [] => [g]
  | x :: l => if grantNs s g < grantNs s x then g :: x :: l else x :: grantIns s g l

/-- R311, R313: each grant whose space begins to pass by `ns` after the boundary is filled with what is ready then, at the
first pass of its stream (log 58). -/
def grantCatch (ns : Nat) (s : State) : State :=
  let due (g : Bool × Nat × Nat) : Bool := decide (grantNs s g ≤ ns)
  ((s.link.grants.filter due).foldl (fun l g => grantIns s g l) []).foldl
    (fun s g => if firstPass s (if g.1 then .u else .l) then fillGrant g s else s)
    { s with link := { s.link with grants := s.link.grants.filter (fun g => !due g) } }

/-- What the containers and the granted space that have begun to pass carry (R311). -/
def passCatch (ns : Nat) (s : State) : State := grantCatch ns (sumCatch ns s)

/-- COMMAND_BURST_RECEIVE (R298, R307, R313): the words 1 to 15 of a stream and the grants that follow go on; a member takes
those of its serving stream. -/
def execCommandBurstReceive (stream : Stream) (words : List LinkWord) (s : State) : Out :=
  done (
    let p := arrivalPort false stream
    if !linkUp s || isHead s || (portGet s.link p).folded then s
    else
      let s1 := wordsPass p words s
      if s1.link.serve == streamCode stream && decide (15 ≤ words.length) then burstReceive words s1 else s1)

/-! ### Completion at the head (R124, R125, R130) -/

/-- R130: the devices that answer a broadcast. -/
def bcastDevices (s : State) : BitVec 64 := s.enum.set ||| addrMap s.enum.map ||| 2#64

/-- R130: the STATUS of a broadcast, over the devices of the safety set. -/
def bcastStatus (s : State) (t : Trans) : Nat :=
  if s.enum.set &&& ~~~ t.applied = 0 then 0
  else match t.refused with
    | [] => 5
    | r :: l => (l.foldl (fun (a : BitVec 6 × Nat) b => if b.1.toNat < a.1.toNat then b else a) r).2

/-- R130: a broadcast completes with its bitmap. -/
def bcastComplete (t : Trans) (s : State) : State :=
  complete t { replyFor t (bcastStatus s t) t.named with data := [t.applied.setWidth 32, (t.applied >>> 32).setWidth 32] } s

/-- A broadcast is complete when every device has answered, or at its bound (R124). -/
def bcastDone (s : State) (t : Trans) : Bool :=
  let answered := t.refused.foldl (fun m r => m ||| BitVec.ofNat 64 (2 ^ r.1.toNat)) t.applied
  t.addr == 0 && (bcastDevices s &&& ~~~ answered == 0 || decide (t.namedAt + 4 ≤ stitches s))

/-- Broadcasts that are complete end. -/
def bcastFinish (s : State) : State := (s.host.trans.filter (bcastDone s)).foldl (fun s t => bcastComplete t s) s

/-- R130: device `a` answered the broadcast of a tag. -/
def bcastAnswer (tag : BitVec 6) (a : BitVec 6) (status : Nat) (s : State) : State :=
  setTrans tag (fun (t : Trans) =>
    if t.addr != 0 then t
    else if status = 0 then { t with applied := t.applied ||| BitVec.ofNat 64 (2 ^ a.toNat) }
    else if t.refused.any (fun r => r.1 == a) then t
    else { t with refused := t.refused ++ [(a, status)] }) s

/-- R130: a reply frame is an answer to a broadcast that the head has sent: its opcode, TAG, SEQ and stitch, the stitch number being
unambiguous for 32768 stitches (log 63). -/
def bcastReply (ws : List Word) (s : State) : Bool :=
  let h := ws.getD 0 0
  s.host.bcSent.any (fun k => k.op == bits h 31 28 && k.tag.toNat == bits h 27 22 && k.seq.toNat == bits h 15 8 &&
    k.named.toNat == bits (ws.getD 1 0) 31 16 && decide (stitches s < k.namedAt + 32768))

/-- The transaction that a reply frame answers: tag, opcode, and address and SEQ, or named stitch of a broadcast. -/
def replyTrans (ws : List Word) (s : State) : Option Trans :=
  let h := ws.getD 0 0
  let a : BitVec 6 := BitVec.ofNat 6 (bits h 21 16)
  let q : BitVec 8 := BitVec.ofNat 8 (bits h 15 8)
  (openTrans s).find? (fun t => t.tag.toNat == bits h 27 22 && t.op == bits h 31 28 &&
    (if t.addr == 0 then t.seq == q && t.named.toNat == bits (ws.getD 1 0) 31 16 && s.enum.map.any (fun e => e.addr == a)
     else t.addr == a && !ofHead t && t.seq == q && t.sent && !bcastReply ws s))

/-- R126: a device has executed the frame of a sequence number, so its earlier frames too: none of them is sent again. -/
def ghostsAnswered (a : BitVec 6) (q : BitVec 8) (s : State) : State :=
  { s with host := { s.host with
    ghosts := s.host.ghosts.filter (fun (t : Trans) => t.addr != a || decide (127 < (q - t.seq).toNat)) } }

/-- R126: the frame sent again that a reply answers: its opcode, tag, address and SEQ; no answer to a broadcast. -/
def ghostOf (ws : List Word) (s : State) : Option Trans :=
  let h := ws.getD 0 0
  s.host.ghosts.find? (fun t => !bcastReply ws s && t.tag.toNat == bits h 27 22 && t.op == bits h 31 28 && t.addr.toNat == bits h 21 16 &&
    t.seq.toNat == bits h 15 8)

/-- R309, R313: the grants of the stitch whose reply space a frame now brings: words of the reply region reach the head from slot 1
on, those of the stitch before at the latest in slot 0 (R304, R306). -/
def grantsInForce (s : State) : List LinkWord := if !s.time.fresh && s.time.slot == 0 then s.link.grantWas else s.link.grantTx

/-- R119, R313, R321: the reply of `a` was granted space on BACK and arrives at port L: a fold has returned it, and its device stands
on the far side. -/
def farSide (port : Port) (a : BitVec 6) (s : State) : Bool :=
  port == .l && (grantsInForce s).any (fun w => bits w.payload 31 26 == a.toNat && bit w.payload 25)

/-- R122, R314: an intact reply frame at the head. -/
def replyTake (port : Port) (ws : List Word) (s : State) : State :=
  let h := ws.getD 0 0
  let a : BitVec 6 := BitVec.ofNat 6 (bits h 21 16)
  let status := bits h 7 0
  match replyTrans ws s with
  | none => if (ghostOf ws s).isSome then ghostsAnswered a (BitVec.ofNat 8 (bits h 15 8)) s else s
  | some t =>
    if t.addr = 0 then bcastFinish (bcastAnswer t.tag a status s)
    else
      complete t { replyFor t status (BitVec.ofNat 16 (bits (ws.getD 1 0) 31 16)) with
        uncert := status == 9 && opWrites t.op
        alt := farSide port a s
        snap := BitVec.ofNat 16 (bits (ws.getD 1 0) 15 0), data := (ws.drop 2).dropLast } (ghostsAnswered a t.seq s)

/-- REPLY_FRAME_RECEIVE (R308, R314, R119); a member sends the words on (R298). -/
def execReplyFrameReceive (port : Port) (words : List LinkWord) (s : State) : Out :=
  done (if !linkUp s then s
    else if !isHead s then wordsThrough port words s
    else
      let s1 := wordsSeen port words s
      if replyIntact words then replyTake port (payloads words) s1 else s1)

/-- R124: the transaction of a tag that was sent, has no reply, and does not go out again yet. -/
def retries (tag : BitVec 6) (s : State) : Bool :=
  (openTrans s).any (fun t => t.tag == tag && t.addr != 0 && !ofHead t && t.sent && !t.again)

/-- TRANSACTION_RETRY (R124, R314): a frame that was sent and has no reply goes out again with RETRY. -/
def execTransactionRetry (tag : BitVec 6) (s : State) : Out :=
  done (
    if headLink s && retries tag s then
      setTrans tag (fun (t : Trans) => { t with retried := true, again := true })
        { s with host := { s.host with retry := satInc s.host.retry 0xFFFF } }
    else s)

/-- R126: a frame that may not have been executed is kept, to go ahead of later ones to its device (log 63). -/
def keepGhost (t : Trans) (s : State) : State :=
  { s with host := { s.host with ghosts := s.host.ghosts ++ [{ t with retried := true, again := true }] } }

/-- R126: the sequence number of a frame that never reached its device goes to the next one of the device (log 63). -/
def seqReturn (t : Trans) (s : State) : State :=
  let back (x : Trans) : Trans :=
    if x.addr == t.addr && decide (1 ≤ (x.seq - t.seq).toNat) && decide ((x.seq - t.seq).toNat ≤ 127) then { x with seq := x.seq - 1 }
    else x
  setMember t.addr.toNat (fun (m : Member) => { m with seqOut := m.seqOut - 1 })
    { s with host := { s.host with trans := s.host.trans.map back, ghosts := s.host.ghosts.map back } }

/-- R125: the device was on the ring when the frame was first sent, or since: a copy came back from it in the stitch before, or
in a later one. -/
def hadPath (s : State) (t : Trans) : Bool :=
  let m := member s t.addr.toNat
  m.wired.isSome && decide (t.sentAt ≤ m.wiredAt + 1)

/-- R43, R125: a unicast transaction at its bound. The head itself is always reached. A frame that never had a path has not reached
its device: its number goes to the next frame of that device (log 63). -/
def boundEnd (t : Trans) (c : BoundCase) (s : State) : State :=
  if ofHead t then abandon t 5 false false s
  else match c with
  | .notServed => abandon t 5 false false s
  | .noPath => if hadPath s t then abandon t 5 (uncertOf t) true (keepGhost t s) else abandon t 5 false true (seqReturn t s)
  | .noReply => abandon t 7 (uncertOf t) false (keepGhost t s)
  | .seqLost => abandon t 9 (uncertOf t) false s

/-- R124: the fourth boundary after acceptance has come. -/
def atBound (s : State) (t : Trans) : Bool := t.addr != 0 && decide (t.accepted + 4 ≤ stitches s)

/-- TRANSACTION_BOUND_EXPIRY (R125). -/
def execTransactionBoundExpiry (tag : BitVec 6) (c : BoundCase) (s : State) : Out :=
  done (if !headLink s then s
    else match (openTrans s).find? (fun t => t.tag == tag) with
      | some t => if atBound s t && t.sent then boundEnd t c s else bcastFinish s
      | none => s)

/-- R348: a frame that was never sent ends at its bound with BUSY. -/
def unsentEnd (t : Trans) (s : State) : State := abandon t 5 false false (seqReturn t s)

/-- R348: every frame that was never sent, at its bound. -/
def unreservedEnd (s : State) : State :=
  ((openTrans s).filter (fun t => atBound s t && !t.sent)).reverse.foldl (fun s t => unsentEnd t s) s

/-- UNRESERVED_FRAME_EXPIRY (R348). -/
def execUnreservedFrameExpiry (tag : BitVec 6) (s : State) : Out :=
  done (if !headLink s then s
    else match (openTrans s).find? (fun t => t.tag == tag) with
      | some t => if atBound s t && !t.sent then unsentEnd t s else s
      | none => s)

/-- R125: the open transaction of the tag of `x` at its bound, without a command of its own: without a wired copy of the member
in the last stitch there was no path, else no reply. -/
def boundDue (s : State) (x : Trans) : State :=
  match (openTrans s).find? (fun t => t.tag == x.tag) with
  | some t => boundEnd t (if (lastCopy s t.addr).isSome then .noReply else .noPath) s
  | none => s

/-- Transactions that reached their bound without a command of their own (R125). -/
def boundsDue (s : State) : State :=
  let s1 := bcastFinish s
  unreservedEnd (((openTrans s1).filter (fun t => atBound s1 t && t.sent)).foldl boundDue s1)

/-! ### Written values at a boundary (R29), broadcasts at theirs (R129) -/

/-- R29: the written values come into force. -/
def cfgLatch (s : State) : State := cfgFollow s.cfg { s with cfg := s.cfgW }

/-- Accepted actions that wait for their boundary take effect. -/
def pendBoundary (s : State) : State :=
  let s1 := unlockBoundary (diagReqBoundary (recCtrlBoundary s))
  { s1 with
    bal := tmrBoundary s1.bal
    col := injBegin s1.col
    enum := { s1.enum with reqDue := s1.enum.reqDue || s1.enum.reqPend, reqPend := false }
    safe := { s1.safe with sealed := s1.safe.sealed && !s1.safe.unsealPend, unsealPend := false } }

/-- R85: the write of a broadcast asks for SLEEP, and a wake event has come since its acceptance. -/
def sleepCancelled (b : Bcast) : Bool :=
  b.woken && (writesOf b.reg b.data).any (fun e => e.1 == 0x0024 && bits e.2 2 0 == 1)

/-- R82, R129: a broadcast write at its named boundary, judged by R10 to R12 with this device's own conditions and applied
at once; a SLEEP that a wake has cancelled is answered BUSY (log 28). -/
def bcastWrite (b : Bcast) (s : State) : State :=
  let l := writesOf b.reg b.data
  let answer (c : Nat) (s : State) : State :=
    if isHead s then bcastAnswer b.tag 1 c s
    else answerLater b.seq { op := 2, tag := b.tag, addr := s.sys.addr, status := c, stitch := b.stitch } s
  if sleepCancelled b then answer 5 (pgRecord 0x0024 5 s)
  else match judgeWr s b.reg b.data true false with
  | some (a, c) => answer c (pgRecord a c s)
  | none =>
    let s1 := applyAll (tentative s l) true true l s
    answer 0 { s1 with cfg := l.foldl (fun c e => cfgPut e.1 e.2 c) s1.cfg }

/-- R129: the broadcast writes of `p` that are named for this boundary, in order of arrival. -/
def bcastWrites (p : Bcast → Bool) (s : State) : State :=
  let due (b : Bcast) : Bool := b.stitch == stitch s && !b.data.isEmpty && p b
  (s.dev.bcasts.filter due).foldl (fun s b => bcastWrite b s)
    { s with dev := { s.dev with bcasts := s.dev.bcasts.filter (fun b => !due b) } }

/-- R129: some broadcast write is named for this boundary. -/
def bcastDue (s : State) : Bool := s.dev.bcasts.any (fun b => b.stitch == stitch s && !b.data.isEmpty)

/-- R129: every broadcast write named for this boundary. -/
def bcastApply (s : State) : State :=
  if bcastDue s then rebegin (curPlan (pendBoundary (bcastFinish (cfgFollow s.cfg (bcastWrites (fun _ => true) s))))) else s

/-- R140, R451: a register of the collector: the FCOL page, and the latched and enable bits of any page. -/
def colReg (a : Nat) : Bool := a / 256 = 0x12 || a % 256 = 0x14 || a % 256 = 0x18

/-- R448: a broadcast write to the collector applies before the stitch that ended is evaluated. -/
def bcastEarly (s : State) : State :=
  if bcastDue s then
    cfgFollow s.cfg (bcastWrites (fun b => (writesOf b.reg b.data).any (fun e => colReg e.1)) s)
  else s

/-- BROADCAST_APPLY (R129). -/
def execBroadcastApply (s : State) : Out := done (if s.time.fresh && coreRuns s then bcastApply s else s)

/-- R131, R308: at the end of the capture stitch of a SNAP the device answers that it captured. -/
def snapAnswer (s : State) : State :=
  let due (b : Bcast) : Bool := b.data.isEmpty && b.stitch == lastStitch s
  (s.dev.bcasts.filter due).foldl (fun s b =>
      if isHead s then bcastFinish (bcastAnswer b.tag 1 0 s)
      else makeAnswer b.seq { op := 4, tag := b.tag, addr := s.sys.addr, stitch := b.stitch
                              snap := ((s.dev.snaps.find? (fun x => x.stitch == b.stitch)).map (fun x => x.num)).getD 0 } s)
    { s with dev := { s.dev with bcasts := s.dev.bcasts.filter (fun b => decide ((b.stitch - stitch s).toNat < 32768)) } }

end Sys2Proof.Machine
end

