-- ==== Sys2Proof/Machine/Stitch.lean ====
section
/-! DEFINITION. The stitch: its boundary, its slots, the safety task, post-processing, load shedding, and the steps that
take effect when due though no command named them (01_architecture; R21 to R43; log 5). -/

namespace Sys2Proof.Machine

/-- Steps in order. -/
def chain (l : List (State → State)) (s : State) : State := l.foldl (fun s f => f s) s

/-! ### The safety task (R31 to R34) -/

/-- R31, R34: the task of the stitch is due: the core runs, the mode runs it, and it has not completed. -/
def taskDue (s : State) : Bool := coreRuns s && awake s && s.time.safeNow.isNone

/-- The work of the safety task on the stitch that ended (R172 to R175, R200 to R202, R238, R244, R252, R282, R380 to
R387). -/
def taskWork (i : TaskIn) : State → State :=
  chain [fun s => { s with meas := mwFinish s.meas }, measChecks, curChecks, stepJudge, backgroundChecks, patrols i,
    sltCountA, slvTaskA, currentTaskA]

/-- The end of the task: its time, channel A's result (R32), the token (R34), PCA and PDA (R31, R391). -/
def taskEnd (us : Nat) (s : State) : State :=
  driveA { s with
    time := { s.time with safeNow := some us }
    safe := { s.safe with sumA := chanFlags s.safe.a, token := some (tokenOf s) } }

/-- SAFETY_TASK (R31). A copy of the summary whose container began before its end carries the result before (R32). -/
def execSafetyTask (i : TaskIn) (s : State) : Out :=
  done (if taskDue s then
      taskEnd i.doneUs.toNat (taskWork i (atNs (1000 * i.doneUs.toNat) (passCatch (1000 * i.doneUs.toNat) s)))
    else s)

/-! ### Coarse conversions (R24, R198, R252) -/

/-- ns after the boundary at which conversion `k` of a slot of length 125 µs completes (R24). -/
def convNs (slot k : Nat) : Nat := 125000 * slot + (k + 1) * 125000 / 9

/-- COARSE_SAMPLE (R24): a SAR's conversion completes in the slot that runs. -/
def execCoarseSample (sar : Fin 4) (conv : Fin 9) (code : BitVec 12) (s : State) : Out :=
  done (if !hwslOn s then s
    else
      let ns := convNs s.time.slot.val conv.val
      let s1 := atNs ns (passCatch ns s)
      match sarCell sar conv with
      | some n => cellSample n conv.val code.toNat s1
      | none => auxSample sar code.toNat s1)

/-! ### XDIS of a cell (R173) -/

/-- XDIS (R173): of one cell; the words of a snapshot whose stitch is being judged follow (R165). -/
def execXdis (cell : Fin 32) (s : State) : Out := done (snapXdis (xdisApply [cell.val] s))

/-! ### Post-processing (R31, R42, R177) -/

/-- R177: post-processing of the stitch that ended is due: after the safety task, and not yet done. -/
def postDue (s : State) : Bool := coreRuns s && awake s && !s.meas.published && s.meas.decided

/-- R177: the results of the stitch that ended. -/
def postWork : State → State :=
  chain [fun s => { s with meas := mwFinish s.meas }, xdisApply (List.range 32), snapXdis, publishMeas, publishTemp, publishCur, verifyCount]

/-- POST_PROCESSING (R177); `served` says that link service ran after it and handled the frames that waited (R31, R43). -/
def execPostProcessing (served : Bool) (s : State) : Out :=
  let s1 := if postDue s then postWork s else s
  done (if served then inboxServe s1 else s1)

/-- R42: the stitch that ended before stays unpublished. -/
def overrun (s : State) : State :=
  let s1 := unpublishMeas s
  raise srcPpOverrun { s1 with temp := unpublishTemp s1.temp, cur := unpublishCur s1 }

/-- PP_OVERRUN (R42): in the last slot of the stitch, or at the boundary that ends it. -/
def execPpOverrun (s : State) : Out :=
  done (if coreRuns s && awake s && !s.meas.published && s.time.slot == 7 && !s.time.fresh then overrun s else s)

/-! ### Load (R38 to R40) -/

/-- R39, R40, R50: the load of the stitch that ended. DESIGN CHOICE (log 78): the 1000 of a safety task that did not complete enters
ST_PEAK too. -/
def loadBoundary (load : Nat) (s : State) : State :=
  let t := s.time
  let up := decide (850 < load)
  let shed := if up then min 3 (t.shed + 1) else t.shed
  let s1 := { s with time := { t with
    loadLast := load, loadPeak := max t.loadPeak load, shed := shed
    shedCnt := if t.shed = 0 then t.shedCnt else satInc t.shedCnt 0xFFFF
    quiet := if load ≤ 700 then t.quiet + 1 else 0
    safeLast := t.safeNow.getD 1000, safePeak := max t.safePeak (t.safeNow.getD 1000) } }
  let s2 := if 2 ≤ shed && t.shed < 2 then { s1 with imp := { s1.imp with valid := 0, fill := 0, win := [] } } else s1
  follow srcLoadShed (decide (0 < shed)) s2

/-- R39, R40: all shed tasks resume. -/
def shedResume (s : State) : State :=
  if s.time.fresh && decide (0 < s.time.shed) && decide (16 ≤ s.time.quiet) then
    follow srcLoadShed false { s with
      time := { s.time with shed := 0, quiet := 0 }
      imp := if 2 ≤ s.time.shed then impRestart s.imp else s.imp }
  else s

/-- SHED_RESUME (R39). -/
def execShedResume (s : State) : Out := done (if coreRuns s then shedResume s else s)

/-! ### Steps that are due (log 5) -/

/-- R36, R290: what the stitch itself brings about when no command did. -/
def coreResetDue (s : State) : State :=
  if coreRuns s && decide (16 ≤ s.safe.misses) then
    raise srcCoreReset { s with sys := { s.sys with phase := .coreRestart, modeKept := s.sys.mode } }
  else s

/-- The checks and latches that a condition which stands makes due, in any slot. -/
def standingDue : State → State :=
  chain [xdisApply (List.range 32), snapXdis, sumApply, harnessApply, isnsApply, iauxApply, disagreeApply, owEvaluate,
    tsBrokenApply, aStep (sltDue .a), sltDue .b, sltRelease, aStep (sliLatch .a false), aStep (sliLatch .a true),
    sliLatch .b false, sliLatch .b true, aStep (sdiLockout .a), sdiLockout .b, aStep (inhibitRelease .a true),
    aStep (inhibitRelease .a false), inhibitRelease .b true, inhibitRelease .b false, siDiscLatch 0, siDiscLatch 1,
    buckRaise, jrnlBegin, stampDue, fun s => { s with bob := postDone s.bob }, beaconLost]

/-- ACK_N in any slot (R107 to R109). -/
def ackPinDue (s : State) : State := if ackSampled s then ackHeld (ackPulse s) else s

/-- The die sensors' shutdown (R289). -/
def shutdownDue (s : State) : State := if thermalDue s then thermalTrip s.thrm.sdNowCause s.thrm.sdNowIdx s else s

/-- The ports at a boundary (R323). -/
def portsDue (s : State) : State :=
  if linkUp s && !isHead s then readyStart .u (readyStart .l (unfoldPort .u (unfoldPort .l s))) else s

/-- The messages of the period that ended (R318, R423). -/
def threadsDue (s : State) : State :=
  if linkUp s then (List.range 63).foldl (fun s a => threadJudge (BitVec.ofNat 6 a) s) s else s

/-- The search and the map at a boundary (R334, R337, R342, R343, R345). -/
def searchesDue (s : State) : State :=
  if linkUp s then
    searchDecideDue (searchRestart (searchStart (rebegin (driveB (packPermits (epochMismatch (searchApply s)))))))
  else s

/-- R146: a record that closes at a level of `HOST.CFG` drives IRQ_N low. -/
def packCloseIrq (s : State) : State :=
  let s1 := packCloseDue s
  { s1 with host := { s1.host with irq := s1.host.irq || irqNow s1 } }

/-- The foreground tests at a boundary (R235, R246, R247). -/
def unitsDue (s : State) : State :=
  let s1 := periodStart (fgLate (passComplete (unitComplete s)))
  rebegin (owPause (unitStart ((List.range 16).foldl (fun s _ => unitDue s) s1)))

/-- Balancing at a boundary (R218, R228, R232). DESIGN CHOICE (log 69): a cell whose timer reaches 0 leaves the requested set
at that very boundary, whose plan is formed again. -/
def balanceDue (s : State) : State :=
  let s1 := rotateDue s
  (List.range 32).foldl (fun s n => vminApply n { s with bal := tmrDecrement n s.bal }) s1

/-- The steps of a boundary that the core takes in the mode that begins. -/
def coreSteps : State → State :=
  chain [unitsDue, balanceDue, degExpire, shedResume, otpStartDue, packCloseIrq, fun s => { s with col := injEnd s.col }]

/-- The steps of a boundary that a running core takes: after the change of mode it may run no more (R84, R86). -/
def coreDue (s : State) : State :=
  if coreRuns s then
    let t := chain [bcastApply, modeApply] s
    if coreRuns t then coreSteps t else t
  else s

/-- R395, R398: the acknowledges of the boundary, after every trip of it. -/
def ackStep (s : State) : State :=
  ackApply (shutdownDue (newTrips s))

/-- ACK_APPLY (R395). -/
def execAckApply (s : State) : Out := done (if s.time.fresh && coreRuns s then ackStep s else s)

/-- Every step of the boundary that has come and that no command took. -/
def boundaryDue (s : State) : State :=
  if s.time.fresh then
    chain [coreDue, fun s => if headLink s then boundsDue s else s, threadsDue, searchesDue, portsDue, inboxBusy (fun _ => true), mirrorCycleDue, shutdownDue, standingDue,
      fun s => if coreRuns s then ackStep s else s] s
  else s

/-- Every step that a slot has made due and that no command took. -/
def slotDue : State → State := chain [standingDue, ackPinDue, judgeRest, shutdownDue, coreResetDue]

/-- What the end of a stitch makes due: the capture (R131), the check of R34, the results (R42). -/
def stitchDue (s : State) : State :=
  chain [passCatch 1000000, boundaryDue, slotDue,
    fun s => if s.sys.mode.isSome && coreRuns s then snapCapture s else s,
    startMissed,
    fun s => if checkOpen s then deadlineCheck s else s,
    atNs 1000000, patrolDue, coreResetDue,
    fun s => if coreRuns s && awake s && !s.meas.published then overrun s else s] s

/-! ### The slot boundary (R22, R24 to R26, R16) -/

/-- The slot that comes next. -/
def nextSlot (s : State) : Nat := if s.time.fresh then 0 else s.time.slot.val + 1

/-- R24, R150, R189, R195, R274: the conversions of the slot that begins. -/
def slotSamples (i : SlotIn) (s : State) : State :=
  let n := i.slot.val
  let m := s.meas
  let q := (s.temp.qNow.set (2 * n) i.tsEven.toNat).set (2 * n + 1) i.tsOdd.toNat
  { s with
    meas := { m with subs := m.subs ++ [i.cells], stackSubs := m.stackSubs ++ [i.stack], shuntSubs := m.shuntSubs ++ [i.shunt] }
    cur := { s.cur with ptNow := if s.cur.tc / 5000 = n then some i.point else s.cur.ptNow, outNow := s.cur.outNow || i.ispOut }
    temp := { s.temp with qNow := q, tapNow := if n = 7 then i.tap.toNat else s.temp.tapNow } }

/-- The levels sampled at the boundary: permits, test-pulse outputs, ACK_N, switches in limit, VREG (R16, R413, R107,
R216, R480). -/
def slotLevels (i : SlotIn) : State → State :=
  chain [permitReadback i.permitRb, tpSlot i.slot i.tpaRb i.tpbRb i.si, ackSample i.ackN, ilimSlot i.ilim,
    buckSlot i.vreg.toNat i.buckLimit]

/-- What a slot begins with: the switches (R25, R245), the beacon window (R369), and in slot 0 the head's words (R307,
R309). -/
def slotBegin (i : SlotIn) (s : State) : State :=
  let n := i.slot.val
  let s1 := beaconWindow n (switchSlot n (bstStep n i.bstCurrent (slotSamples i s)))
  if n = 0 then beaconForm (headSend (curRecord s1)) else s1

/-- SLOT_BOUNDARY (R22): the slot of `i` begins when it is the next one; the copies of the summary whose containers have
begun hold what was before it (R32). -/
def execSlotBoundary (i : SlotIn) (s : State) : Out :=
  done (if !hwslOn s || i.slot.val != nextSlot s then s
    else
      let s1 := slotLevels i (ackHeld (atNs (125000 * i.slot.val) (passCatch (125000 * i.slot.val) s)))
      let s2 := slotDue (boundaryDue s1)
      slotBegin i (otpTick (atUs 0 { s2 with time := { s2.time with slot := i.slot, fresh := false } })))

/-! ### The stitch boundary (R21) -/

/-- Pack time at the next boundary. -/
def timeBoundary (s : State) : State :=
  { s with time := { s.time with pt := s.time.ptB + 1000, ptB := s.time.ptB + 1000 } }

/-- Counts that close over the stitch that ends, before its data move on (R205 to R211, R264, R282, R380). -/
def closeStitch : State → State :=
  chain [impStep, sltGap, slvCountB, fun s => { s with safe := { s.safe with b := currentStitchB s.safe.b } }, balCount, unitCount,
    fun s => { s with diag := verifyTick s.diag }]

/-- The data of the stitch that ended become the previous ones (R27, R149, R154, R168, R169); a stream that stopped has a
new v0 (R202). -/
def shiftMeas (s : State) : State :=
  let m := s.meas
  let cells := if m.settling then m.cells.map cellRestart else if m.modOn then m.cells else m.cells.map cellDiscard
  { s with
    meas := { m with
      cells := cells, prevStitch := stitch s, prevSubs := m.subs, prevStack := m.stackSubs, prevShunt := m.shuntSubs
      prevCoarse := m.coarse, prevAux := m.aux, prevFirst := m.mwFirst, prevLen := m.mwLen, prevSettling := m.settling
      prevModOn := m.modOn, prevSw := m.sw, complete := m.nextDone, res := if m.nextDone then m.next else m.res
      nextDone := false, decided := false, sumEval := none, heldPrev := m.heldNow, auxHeldPrev := m.auxHeld
      cttPrev := m.cttCell, subs := [], stackSubs := [], shuntSubs := [], coarse := [], aux := [], sw := []
      testPrev := m.testOn, donePrev := s.sys.startDone, published := !coreRuns s }
    cur := if m.settling || !m.modOn then { s.cur with age := none } else s.cur
    temp := { s.temp with qPrev := s.temp.qNow, tapPrev := s.temp.tapNow
                          havePrev := s.temp.havePrev || m.subs.length == 8 } }

/-- R154: the modulators are powered for a capture from the boundary after its SNAP to the end of its stitch. -/
def snapPowers (s : State) : State :=
  { s with meas := { s.meas with
    snapPower := s.dev.snaps.any (fun x => !x.held && decide ((x.stitch - stitch s).toNat < 32768)) } }

/-- What the part measures across the stitch that ended (R18, R38, R159, R283; `KA.VBAK`). DESIGN CHOICE (log 82): at the first
boundary after core release, before any mode is in force, there is no count of SOSC, no load and no time of a safety task. -/
def boundaryInputs (i : BoundaryIn) (s : State) : State :=
  let s1 := dieBoundary (dieTemps i.dies s.thrm) { s with
    meas := { s.meas with iin := i.iin.toNat }
    pwr := { s.pwr with vbak := i.vbak.toNat, vbakShown := i.vbak.toNat, ichg := i.ichg.toNat } }
  if !(coreRuns s && s.sys.mode.isSome) then s1
  else
    let n := i.sosc.toNat
    let bad := decide (n < 7680) || decide (8320 < n)
    let s2 := follow srcSoscPlaus bad (loadBoundary i.load.toNat { s1 with time := { s1.time with sosc := n } })
    if bad then tripOwn 1 true true s2 else s2

/-- The records and counts of the stitch that ended (R131, R183, R218, R231, R282, R380, R413 to R417, R457, R63). -/
def boundaryCounts : State → State :=
  chain [patrolTick, curCount, snapBoundary, answersReady, snapAnswer, sltCountB,
    fun s => if coreRuns s && awake s then harnessCount s.bal.on s else s, siBoundary, buckBoundary, probeBoundary]

/-- The link, the search and the pack at the boundary (R87, R324, R334, R389, R399). -/
def boundaryPack (i : BoundaryIn) (s : State) : State :=
  let l := s.link
  let s1 := linkBoundary i s
  let s2 := idStep (startTimes l (searchTick i l (searchReturns i l s1)))
  let s3 := degStep (packJudge s2)
  if !isHead s && l.state != .split && s3.link.state == .split && s3.mirr.lost then silentReact s3 else s3

/-- R17, R434, R440: the stitch that ended evaluated, and the copies of that evaluation compared. Where they differ, or a parity
fails, it is COL_INTEGRITY's stitch too, the copies are merged, and its trip is taken on both channels. -/
def copyEval (copy : Option CopyB) (s : State) : State :=
  let t := colEval s
  match copy with
  | some x =>
    if t.sys.mode.isNone || dupAgrees x (setWords sealRegs t.cfg) t then t
    else tripOwn 1 true true (colMerge x.col (colEval (integrityRaise s)))
  | none => t

/-- The collector at the boundary: it evaluates the stitch that ended, and the copies are compared (R17, R434, R440). -/
def boundaryEval (i : BoundaryIn) (s : State) : State := if coreRuns s then copyEval i.copyB (bcastEarly s) else s

/-- Settings come into force, then the collector evaluates (R29, R434, R448), the frames of the stitch that ended, as `v` saw
it, are written (R457), the factory port acts on the bobbin (R465), the injection counts (R449), and accepted actions take
effect. -/
def boundaryLatch (i : BoundaryIn) (v s : State) : State :=
  let s1 := portOps i.factory (recorderWrite v (boundaryEval i (cfgLatch s)))
  pendBoundary { s1 with col := injCount s1.col }

/-- The mode and the start at the boundary (R79, R97, R100, R101, R262). -/
def boundaryMode (i : BoundaryIn) (s : State) : State :=
  if !coreRuns s then s
  else
    let s1 := { s with sys := { s.sys with modeDue := s.sys.modeNext.isSome, wakePend := false } }
    let s2 := sendStep (modeBegin (passStep s1))
    calBoundary i.trimDiff.val s2

/-- What the stitch begins with (R149, R221, R226, R317, R390, R391, R423). -/
def stitchBegin (s : State) : State :=
  let s1 := threadBegin (mapFollow s)
  let s2 := driveB (packPermits (chargerStop (wakeEnds s1)))
  let s3 := beginStitch (snapPowers (balThermal (curPlan s2)))
  { s3 with host := { s3.host with irq := irqNow s3 } }

/-- A boundary of a part whose HWSL runs. -/
def stitchStep (i : BoundaryIn) (s : State) : State :=
  let s1 := closeStitch (stitchDue s)
  let s2 := ackBoundary (timeBoundary (shiftMeas s1))
  let s3 := { s2 with
    time := { s2.time with slot := 0, fresh := true, ns := 0 }
    safe := { s2.safe with tripNow := false, checked := false, sliBackChg := false, sliBackDsg := false } }
  let s4 := boundaryInputs i s3
  let s5 := boundaryCounts { s4 with time := { s4.time with safeNow := none } }
  stitchBegin (boundaryMode i (boundaryLatch i s5 (boundaryPack i (otpTick s5))))

/-- A stitch boundary of a part whose HWSL is off: pack time moves, a tone and wake frames end in time (R325, R372), the
sniff receiver has closed after its 250 µs and the buck is back in burst mode (R371, R479), VKA follows the element's level
(R484), and in the held reset the die sensors are read (R291). -/
def stitchIdle (i : BoundaryIn) (s : State) : State :=
  let s1 := srcFollow (wakeEnds (timeBoundary { s with
    mirr := { s.mirr with sniff := false }
    pwr := { s.pwr with burst := asleep s, vbak := i.vbak.toNat } }))
  if s.sys.phase == .thermalHeld then dieBoundary (dieTemps i.dies s1.thrm) s1 else s1

/-- STITCH_BOUNDARY (R21). -/
def execStitchBoundary (i : BoundaryIn) (s : State) : Out := done (if hwslOn s then stitchStep i s else stitchIdle i s)

end Sys2Proof.Machine
end

