-- ==== Sys2Proof/Machine/Dispatch.lean ====
section
/-! DEFINITION. Dispatch: one arm for every command, each a direct call of its meaning. -/

namespace Sys2Proof.Machine

def exec (i : Instr) (s : State) : Host.Outcome State Fault Refusal :=
  match i with
  | .rd h => Sys2Proof.Machine.execRd h s
  | .wr h words => Sys2Proof.Machine.execWr h words s
  | .mwr h mask value => Sys2Proof.Machine.execMwr h mask value s
  | .snap h stitchWord => Sys2Proof.Machine.execSnap h stitchWord s
  | .snrd h snapWord => Sys2Proof.Machine.execSnrd h snapWord s
  | .bulk h offset ups => Sys2Proof.Machine.execBulk h offset ups s
  | .next h => Sys2Proof.Machine.execNext h s
  | .fetch h => Sys2Proof.Machine.execFetch h s
  | .refetch h => Sys2Proof.Machine.execRefetch h s
  | .frameAbort => Sys2Proof.Machine.execFrameAbort s
  | .registerWrite addr v => Sys2Proof.Machine.execRegisterWrite addr v s
  | .commandFrameReceive stream us words ups handled => Sys2Proof.Machine.execCommandFrameReceive stream us words ups handled s
  | .replyFrameReceive port words => Sys2Proof.Machine.execReplyFrameReceive port words s
  | .transactionRetry tag => Sys2Proof.Machine.execTransactionRetry tag s
  | .linkServiceBusy words => Sys2Proof.Machine.execLinkServiceBusy words s
  | .transactionBoundExpiry tag c => Sys2Proof.Machine.execTransactionBoundExpiry tag c s
  | .unreservedFrameExpiry tag => Sys2Proof.Machine.execUnreservedFrameExpiry tag s
  | .broadcastApply => Sys2Proof.Machine.execBroadcastApply s
  | .snapshotCapture => Sys2Proof.Machine.execSnapshotCapture s
  | .modeReq v bcast => Sys2Proof.Machine.execModeReq v bcast s
  | .modeChange => Sys2Proof.Machine.execModeChange s
  | .memberRunAdmit addr => Sys2Proof.Machine.execMemberRunAdmit addr s
  | .roleCfgWrite v => Sys2Proof.Machine.execRoleCfgWrite v s
  | .kaCfgWrite v => Sys2Proof.Machine.execKaCfgWrite v s
  | .stackPowerUp => Sys2Proof.Machine.execStackPowerUp s
  | .stackPowerDown => Sys2Proof.Machine.execStackPowerDown s
  | .vregQualified => Sys2Proof.Machine.execVregQualified s
  | .coreRelease => Sys2Proof.Machine.execCoreRelease s
  | .headListenEnd => Sys2Proof.Machine.execHeadListenEnd s
  | .startPassComplete => Sys2Proof.Machine.execStartPassComplete s
  | .rstLow lowNs taken => Sys2Proof.Machine.execRstLow lowNs taken s
  | .rstRelease ms => Sys2Proof.Machine.execRstRelease ms s
  | .ackNPulse => Sys2Proof.Machine.execAckNPulse s
  | .ackStuck => Sys2Proof.Machine.execAckStuck s
  | .ackRearm => Sys2Proof.Machine.execAckRearm s
  | .hostAck v => Sys2Proof.Machine.execHostAck v s
  | .ackApply => Sys2Proof.Machine.execAckApply s
  | .unlock v => Sys2Proof.Machine.execUnlock v s
  | .csnWake lowUs => Sys2Proof.Machine.execCsnWake lowUs s
  | .stitchBoundary x => Sys2Proof.Machine.execStitchBoundary x s
  | .slotBoundary x => Sys2Proof.Machine.execSlotBoundary x s
  | .coarseSample sar conv code => Sys2Proof.Machine.execCoarseSample sar conv code s
  | .mwResultComplete => Sys2Proof.Machine.execMwResultComplete s
  | .safetyTask x => Sys2Proof.Machine.execSafetyTask x s
  | .deadlineCheck => Sys2Proof.Machine.execDeadlineCheck s
  | .coreReset => Sys2Proof.Machine.execCoreReset s
  | .postProcessing served => Sys2Proof.Machine.execPostProcessing served s
  | .ppOverrun => Sys2Proof.Machine.execPpOverrun s
  | .shedResume => Sys2Proof.Machine.execShedResume s
  | .xdis cell => Sys2Proof.Machine.execXdis cell s
  | .sumMismatch => Sys2Proof.Machine.execSumMismatch s
  | .harnessMismatch => Sys2Proof.Machine.execHarnessMismatch s
  | .syncEdge t25 rising pulseNs => Sys2Proof.Machine.execSyncEdge t25 rising pulseNs s
  | .syncLost t25 => Sys2Proof.Machine.execSyncLost t25 s
  | .fallback => Sys2Proof.Machine.execFallback s
  | .isnsLost => Sys2Proof.Machine.execIsnsLost s
  | .iauxLost => Sys2Proof.Machine.execIauxLost s
  | .iDisagree => Sys2Proof.Machine.execIDisagree s
  | .balTimerWrite k v => Sys2Proof.Machine.execBalTimerWrite k v s
  | .balTimerDecrement cell => Sys2Proof.Machine.execBalTimerDecrement cell s
  | .rotationPoint => Sys2Proof.Machine.execRotationPoint s
  | .balVmin cell => Sys2Proof.Machine.execBalVmin cell s
  | .owPause => Sys2Proof.Machine.execOwPause s
  | .unitDue => Sys2Proof.Machine.execUnitDue s
  | .unitStart => Sys2Proof.Machine.execUnitStart s
  | .diagPeriodStart => Sys2Proof.Machine.execDiagPeriodStart s
  | .reqOw scope => Sys2Proof.Machine.execReqOw scope s
  | .reqCtt scope => Sys2Proof.Machine.execReqCtt scope s
  | .reqPzt scope => Sys2Proof.Machine.execReqPzt scope s
  | .reqBst scope => Sys2Proof.Machine.execReqBst scope s
  | .reqTrimVerify scope => Sys2Proof.Machine.execReqTrimVerify scope s
  | .owEvaluate => Sys2Proof.Machine.execOwEvaluate s
  | .unitComplete => Sys2Proof.Machine.execUnitComplete s
  | .fgLate => Sys2Proof.Machine.execFgLate s
  | .trimVerifyEnd dacRead chopMeans otpReadsGood => Sys2Proof.Machine.execTrimVerifyEnd dacRead chopMeans otpReadsGood s
  | .calCmd v => Sys2Proof.Machine.execCalCmd v s
  | .tsBroken => Sys2Proof.Machine.execTsBroken s
  | .sltViolation ch ts low => Sys2Proof.Machine.execSltViolation ch ts low s
  | .thermalShutdown => Sys2Proof.Machine.execThermalShutdown s
  | .thermalSdRecord => Sys2Proof.Machine.execThermalSdRecord s
  | .thermalRestart heldMs => Sys2Proof.Machine.execThermalRestart heldMs s
  | .inhibitRelease ch ovr => Sys2Proof.Machine.execInhibitRelease ch ovr s
  | .sliLatch ch dsg => Sys2Proof.Machine.execSliLatch ch dsg s
  | .sdiLockout ch => Sys2Proof.Machine.execSdiLockout ch s
  | .degExpire => Sys2Proof.Machine.execDegExpire s
  | .siFilterEdge ch input active us samples => Sys2Proof.Machine.execSiFilterEdge ch input active us samples s
  | .siSettled ch => Sys2Proof.Machine.execSiSettled ch s
  | .testPoint b levels => Sys2Proof.Machine.execTestPoint b levels s
  | .siDisc input => Sys2Proof.Machine.execSiDisc input s
  | .unsealCmd v => Sys2Proof.Machine.execUnseal v s
  | .sealConfirm v => Sys2Proof.Machine.execSealConfirm v s
  | .packConfirm v => Sys2Proof.Machine.execPackConfirm v s
  | .keyStage k v => Sys2Proof.Machine.execKeyStage k v s
  | .otpCmd v => Sys2Proof.Machine.execOtpCmd v s
  | .otpProgramStart => Sys2Proof.Machine.execOtpProgramStart s
  | .otpProgramComplete good => Sys2Proof.Machine.execOtpProgramComplete good s
  | .journalRecordWrite good => Sys2Proof.Machine.execJournalRecordWrite good s
  | .startReceive port payload lateNs => Sys2Proof.Machine.execStartReceive port payload lateNs s
  | .startMissed => Sys2Proof.Machine.execStartMissed s
  | .commandBurstReceive stream words => Sys2Proof.Machine.execCommandBurstReceive stream words s
  | .summaryReceive port place words => Sys2Proof.Machine.execSummaryReceive port place words s
  | .tripWordReceive port payload => Sys2Proof.Machine.execTripWordReceive port payload s
  | .threadMessageComplete src => Sys2Proof.Machine.execThreadMessageComplete src s
  | .epochMismatch => Sys2Proof.Machine.execEpochMismatch s
  | .carrierLoss port errs => Sys2Proof.Machine.execCarrierLoss port errs s
  | .readyStart port => Sys2Proof.Machine.execReadyStart port s
  | .unfold port => Sys2Proof.Machine.execUnfold port s
  | .wakeToneReceive port => Sys2Proof.Machine.execWakeToneReceive port s
  | .searchStart => Sys2Proof.Machine.execSearchStart s
  | .searchReq v => Sys2Proof.Machine.execSearchReq v s
  | .tackReceive stream words => Sys2Proof.Machine.execTackReceive stream words s
  | .idRecordReceive stream ofs words => Sys2Proof.Machine.execIdRecordReceive stream ofs words s
  | .searchRestart => Sys2Proof.Machine.execSearchRestart s
  | .searchDecide => Sys2Proof.Machine.execSearchDecide s
  | .commitReceive stream words fwdNs loopNs => Sys2Proof.Machine.execCommitReceive stream words fwdNs loopNs s
  | .searchApply => Sys2Proof.Machine.execSearchApply s
  | .mirrorCycleStart noise txOk => Sys2Proof.Machine.execMirrorCycleStart noise txOk s
  | .beaconReceive endNs frame rssi => Sys2Proof.Machine.execBeaconReceive endNs frame rssi s
  | .beaconLost => Sys2Proof.Machine.execBeaconLost s
  | .mirrorSlotSend txOk => Sys2Proof.Machine.execMirrorSlotSend txOk s
  | .memberFrameReceive slot frame rssi => Sys2Proof.Machine.execMemberFrameReceive slot frame rssi s
  | .mirrorJudge addr => Sys2Proof.Machine.execMirrorJudge addr s
  | .wakeSniff => Sys2Proof.Machine.execWakeSniff s
  | .wakeFrameReceive us frame => Sys2Proof.Machine.execWakeFrameReceive us frame s
  | .freeze v => Sys2Proof.Machine.execFreeze v s
  | .release v => Sys2Proof.Machine.execRelease v s
  | .postComplete => Sys2Proof.Machine.execPostComplete s
  | .recorderPatrol ups => Sys2Proof.Machine.execRecorderPatrol ups s
  | .latchClear addr v => Sys2Proof.Machine.execLatchClear addr v s
  | .clrCnt v => Sys2Proof.Machine.execClrCnt v s
  | .ferClear v => Sys2Proof.Machine.execFerClear v s
  | .pevPop v => Sys2Proof.Machine.execPevPop v s
  | .inject v => Sys2Proof.Machine.execInject v s
  | .injectionEnd => Sys2Proof.Machine.execInjectionEnd s
  | .eventRecordReceive port words => Sys2Proof.Machine.execEventRecordReceive port words s
  | .packRecordClose => Sys2Proof.Machine.execPackRecordClose s
  | .handOver => Sys2Proof.Machine.execHandOver s
  | .handBack => Sys2Proof.Machine.execHandBack s
  | .railFault rail => Sys2Proof.Machine.execRailFault rail s
  | .railFaultRecover => Sys2Proof.Machine.execRailFaultRecover s
  | .buckFault => Sys2Proof.Machine.execBuckFault s
  | .xtalFail => Sys2Proof.Machine.execXtalFail s
  | .chargerCv vbak => Sys2Proof.Machine.execChargerCv vbak s
  | .chargerFull ichg => Sys2Proof.Machine.execChargerFull ichg s
  | .chargerRecharge vbak => Sys2Proof.Machine.execChargerRecharge vbak s
  | .bakOv vbak => Sys2Proof.Machine.execBakOv vbak s
  | .bakOvRestart vbak belowMs sinceRestartMs => Sys2Proof.Machine.execBakOvRestart vbak belowMs sinceRestartMs s
  | .bakAbsent vbak riseMv => Sys2Proof.Machine.execBakAbsent vbak riseMv s
  | .presenceProbe vbak riseMv => Sys2Proof.Machine.execPresenceProbe vbak riseMv s
  | .retentionBreak vka => Sys2Proof.Machine.execRetentionBreak vka s
  | .kaContentLoss vka => Sys2Proof.Machine.execKaContentLoss vka s
  | .breathCheck x => Sys2Proof.Machine.execBreathCheck x s
  | .wakeClr v => Sys2Proof.Machine.execWakeClr v s
  | .factoryLockClose => Sys2Proof.Machine.execFactoryLockClose s
  | .carrierGain port => Sys2Proof.Machine.execCarrierGain port s
  | .seqLost => Sys2Proof.Machine.execSeqLost s
  | .unknownOpcode op h => Sys2Proof.Machine.execUnknownOpcode op h s

end Sys2Proof.Machine
end

