-- ==== Sys2Proof/Safety.lean ====
section
/-! DEFINITION. The terms in which statements are made: permit pins no higher than R391 allows, byte memories in their
canonical form, the bits of the OTP array, the states that know no FACTORY, and what a command brings as a host frame
or as one register write. -/

namespace Sys2Proof.Safety

open Sys2Proof.Machine

/-- R391: no permit pin is high that may not be. -/
abbrev pinsAllowed (s : State) : Prop := s.safe.pins &&& permitAllowed s = s.safe.pins

/-- The OTP array and the bobbin are canonical byte memories. -/
abbrev memoriesWf (s : State) : Prop := memWf s.otp.mem = true ∧ memWf s.bob.mem = true

/-- R33, R391, R394: outside RUN, or TRIPPED or LOCKOUT, every pin is low. -/
abbrev lowWhenOff (s : State) : Prop := inMode s .run = false ∨ tripped s = true → s.safe.pins = 0

/-- R501: every bit programmed in `m` is programmed in `n`. -/
def bitsKept (m n : List Host.Cell) : Prop := ∀ a, memGet m a &&& ~~~ (memGet n a) = 0

/-- R54, R79: the factory lock is closed, and FACTORY is neither in force nor kept by a core restart. -/
abbrev neverFactory (s : State) : Prop :=
  s.sys.lockOpen = false ∧ s.sys.mode ≠ some .factory ∧ s.sys.modeKept ≠ some .factory

/-- The host frame that a command brings: opcode, header, command data (R115, R116). An opcode of R116 makes no
UNKNOWN_OPCODE frame. -/
def hostFrameOf : Instr → Option (Nat × HostHdr × List Word)
  | .rd h => some (1, h, [])
  | .wr h ws => some (2, h, ws)
  | .mwr h m v => some (3, h, [m, v])
  | .snap h w => some (4, h, [w])
  | .snrd h w => some (5, h, [w])
  | .bulk h o _ => some (6, h, [o])
  | .next h => some (0xC, h, [])
  | .fetch h => some (0xD, h, [])
  | .refetch h => some (0xE, h, [])
  | .unknownOpcode op h => if opKnown op.toNat then none else some (op.toNat, h, [])
  | _ => none

/-- The state a frame meets: pack time at its last CRC bit, and the bits of the bobbin that a BULK finds flipped. -/
def frameMet (c : Instr) (h : HostHdr) (s : State) : State :=
  match c with
  | .bulk _ _ ups => atUs h.us.toNat { s with bob := recUpset ups s.bob }
  | _ => atUs h.us.toNat s

/-- The register write that a command is: address and value (R11). -/
def writeOf : Instr → Option (Nat × Word)
  | .registerWrite a v => if a.toNat % 4 = 0 then some (a.toNat, v) else none
  | .roleCfgWrite v => some (0x002C, v)
  | .kaCfgWrite v => some (0x1720, v)
  | .hostAck v => some (0x1134, v)
  | .unlock v => some (0x1058, v)
  | .balTimerWrite k v => some (0x0D28 + 4 * k.val, v)
  | .reqOw sc => some (0x0E24, reqWord 1 sc)
  | .reqCtt sc => some (0x0E24, reqWord 2 sc)
  | .reqPzt sc => some (0x0E24, reqWord 3 sc)
  | .reqBst sc => some (0x0E24, reqWord 4 sc)
  | .reqTrimVerify sc => some (0x0E24, reqWord 5 sc)
  | .calCmd v => some (0x0F28, v)
  | .unsealCmd v => some (0x1090, v)
  | .sealConfirm v => some (0x1084, v)
  | .packConfirm v => some (0x10A0, v)
  | .keyStage k v => some (0x0530 + 4 * k.val, v)
  | .otpCmd v => some (0x1838, v)
  | .searchReq v => some (0x0420, v)
  | .freeze v => some (0x1424, v)
  | .release v => some (0x1424, v)
  | .latchClear a v => if isLatchReg a.toNat then some (a.toNat, v) else none
  | .clrCnt v => some (0x1278, v)
  | .ferClear v => some (0x1284, v)
  | .pevPop v => some (0x12A8, v)
  | .inject v => some (0x12AC, v)
  | .wakeClr v => some (0x1634, v)
  | _ => none

/-- The code with which this device judges a write of one register (R11, R536). -/
def writeCode (a : Nat) (v : Word) (s : State) : Nat := judgeReg s (cfgPut a v s.cfgW) a v false false

end Sys2Proof.Safety
end

