-- ==== Sys2Proof/Certificates/Slice0/Obligations.lean ====
section
/-! DEFINITION. The statements for the provers, family by family. `done`-like endings are written out: a command that
completes answers `.next (settle u)`, where `settle` lowers the pins that R391 no longer allows and changes nothing
else. -/

open Sys2Proof Sys2Proof.Machine Sys2Proof.Safety

/-! ### The machine as a whole -/

/-- A step takes the command at the front of the queue and runs its meaning on the state with the queue's rest; on an
empty queue the block idles (the model's choice, log 3), and no table word spells a command. -/
def Obligations.StepRunsTheFrontCommand : Prop :=
  (∀ (c : Instr) (l : List Instr) (s : State), step { s with pending := c :: l } = exec c { s with pending := l }) ∧
  ((∀ s : State, s.pending = [] → step s = .next s) ∧ ∀ nbits w : Nat, decodeTableWord nbits w = none)

/-- The model's choice (log 4): every command of the table answers a next state in every state, where its conditions are not
met too: no meaning stops. Its meaning leaves the queue, the model's own (log 3), as it found it. -/
def Obligations.EveryCommandAnswersAndKeepsTheQueue : Prop :=
  ∀ (c : Instr) (s : State), ∃ t, exec c s = .next t ∧ t.pending = s.pending

/-- R391 to R394: whatever a command does, no pin that may not be high is high after it. So, outside RUN, with the core
not running, in TRIPPED or LOCKOUT, or with a TRIP word's hold, all four permit pins are low. -/
def Obligations.NoCommandLeavesAPinHigherThanAllowed : Prop :=
  (∀ (c : Instr) (s t : State), exec c s = .next t → pinsAllowed t) ∧
  (∀ (c : Instr) (s t : State), exec c s = .next t →
     (inMode t .run = false ∨ coreRuns t = false ∨ t.safe.state = .tripped ∨ t.safe.state = .lockout ∨
       t.link.hold ≠ none) → t.safe.pins = 0)

/-- R501 and the memory convention: every step keeps the OTP array and the bobbin canonical byte memories. -/
def Obligations.EveryStepKeepsTheMemoriesCanonical : Prop :=
  ∀ s t : State, memoriesWf s → step s = .next t → memoriesWf t

/-- R501: a programmed OTP bit stays programmed, whatever a command does. -/
def Obligations.NoCommandErasesAnOtpBit : Prop :=
  ∀ (c : Instr) (s t : State), memWf s.otp.mem = true → exec c s = .next t → bitsKept s.otp.mem t.otp.mem

/-- R54, R79: while the factory lock is closed no step brings the device into FACTORY; a request accepted before the lock closed
lapses at its boundary (the model's reading, log 59). -/
def Obligations.ClosedLockKeepsFactoryAway : Prop :=
  ∀ s t : State, neverFactory s → step s = .next t → neverFactory t

/-- R378, R395, R397: TRIPPED or LOCKOUT is left toward NORMAL or DEGRADED only where an acknowledge that is due at a
boundary, or that a broadcast brings there, is accepted and counted (by ACK_APPLY, or by the boundary that takes it
unasked), or by the loss of the keep-alive content (R485); LOCKOUT moreover only where an accepted unlock waits for its
boundary, or a broadcast brings one there. -/
def Obligations.OnlyAnAcknowledgeLeavesTripped : Prop :=
  ∀ (c : Instr) (s t : State), exec c s = .next t → tripped s = true →
    let boundary : Prop := (∃ i, c = .slotBoundary i) ∨ (∃ i, c = .stitchBoundary i)
    let brings (a : Nat) : Prop := ∃ b ∈ s.dev.bcasts, b.stitch = stitch s ∧ ∃ e ∈ writesOf b.reg b.data, e.1 = a
    (tripped t = false → (∃ k, c = .kaContentLoss k) ∨
      ((c = .ackApply ∨ boundary) ∧ s.time.fresh = true ∧ coreRuns s = true ∧
        ((∃ r ∈ s.safe.acks, ackDue s r = true) ∨ brings 0x1134) ∧
        (s.safe.ackOk < t.safe.ackOk ∨ t.safe.ackOk = 0xFF))) ∧
    (s.safe.state = .lockout → t.safe.state ≠ .lockout → (∃ k, c = .kaContentLoss k) ∨
      ((c = .broadcastApply ∨ boundary) ∧ (s.safe.unlockPend = true ∨ brings 0x1058)))

/-- R14: no register write, no access that a frame of the host or of the ring brings, and no broadcast write applied at its named
boundary raises a permit pin. -/
def Obligations.NoWriteRaisesAPermitPin : Prop :=
  ∀ (c : Instr) (s t : State), exec c s = .next t →
    ((writeOf c).isSome ∨ (hostFrameOf c).isSome ∨ (∃ v b, c = .modeReq v b) ∨
      (∃ st us ws ups handled, c = .commandFrameReceive st us ws ups handled) ∨ c = .postProcessing true ∨
      c = .broadcastApply) →
    t.safe.pins &&& ~~~ s.safe.pins = 0

/-- The state after reset: the safety state is NORMAL, no permit pin is high, no timer runs, the device holds the
address 63 (R88) with the factory lock closed (R54), both memories are canonical and the invariants of these
statements hold. That the model begins after power-up's fill is its choice (log 1). -/
def Obligations.ResetHoldsItsInvariants : Prop :=
  pinsAllowed State.reset ∧ lowWhenOff State.reset ∧ memoriesWf State.reset ∧ neverFactory State.reset ∧
    State.reset.safe.state = .normal ∧ State.reset.safe.pins = 0 ∧ State.reset.sys.addr = 63 ∧
    State.reset.bal.tmr = List.replicate 32 0 ∧ State.reset.pending = []

/-! ### The host port -/

/-- R120: the accept byte of a whole frame at an active head, cause by cause in the order of the table, with the
codes of R118. R82: a broadcast that asks for RUN in another mode is accepted where every device of the safety set meets the
conditions; where only START_DONE fails the answer is BUSY, else SAFE_LOCK. That a SNAP with a nonzero ADDR answers BAD_ADDR is the
model's choice, since two rows of the table fit it (log 66). -/
def Obligations.AcceptByteFollowsItsTable : Prop :=
  ∀ (c : Instr) (op : Nat) (h : HostHdr) (dat : List Word) (s : State), hostFrameOf c = some (op, h, dat) →
    isHead s = true → linkUp s = true →
    let s0 := frameMet c h s
    let ws := padWords (dataCount op h) dat
    let known : Prop := op ∈ [1, 2, 3, 4, 5, 6, 0xC, 0xD, 0xE]
    let fetches : Prop := op ∈ [0xC, 0xD, 0xE]
    let bcast : Prop := (op = 2 ∧ h.addr = 0) ∨ op = 4
    let g := s0.host.tags.getD h.tag.toNat {}
    let crcBad : Prop := crc16 (headerBytes op h ++ ws.flatMap wordBytes) ≠ h.crc
    let valueBad : Prop := ¬ known ∨ h.rsvTag ≠ 0 ∨ h.rsvAddr ≠ 0 ∨ (bcast ∧ bits (ws.getD 0 0) 31 16 ≠ 0) ∨
      (op = 6 ∧ h.reg ≠ 0) ∨ (fetches ∧ (h.reg ≠ 0 ∨ h.len ≠ 0 ∨ h.addr ≠ 0)) ∨ (op = 0xC ∧ h.tag ≠ 0)
    let widthBad : Prop := (¬ fetches ∧ (h.len.toNat = 0 ∨ 64 < h.len.toNat)) ∨ ((op = 3 ∨ op = 4) ∧ h.len ≠ 1) ∨
      (op = 2 ∧ h.addr = 0 ∧ 60 < h.len.toNat) ∨ h.reg.toNat % 4 ≠ 0
    let full : Prop := bcast ∧ 64 < (bcastPending s0).foldl (fun n t => n + (if t.op = 4 then 3 else t.len + 3)) 0 +
      (if op = 4 then 3 else h.len.toNat + 3)
    let addrBad : Prop := h.addr = 63 ∨ (op ∈ [1, 3, 5, 6] ∧ h.addr = 0) ∨ (op = 4 ∧ h.addr ≠ 0)
    let d := ((ws.getD 0 0).setWidth 16 - stitch s0 : BitVec 16).toNat
    let runAsked : Prop := op = 2 ∧ h.addr = 0 ∧
      ∃ e ∈ writesOf h.reg (ws.drop 1), e.1 = 0x0024 ∧ bits e.2 2 0 = 4
    let members : List Nat := (List.range 63).filter (fun a => decide (2 ≤ a) && s0.enum.set.getLsbD a)
    let mem (a : Nat) : Member := s0.link.members.getD a {}
    let copies (a : Nat) : List Copy := (mem a).wired.toList ++ (mem a).radio.toList
    let met : Prop := s0.otp.genS ≠ none ∧ s0.sys.addr ≠ 63 ∧ s0.safe.state ≠ .tripped ∧ s0.safe.state ≠ .lockout ∧
      s0.enum.inForce = true ∧ s0.otp.genP ≠ none ∧ s0.enum.mapChk = packWord s0 5 ∧
      (∀ e ∈ s0.enum.map, s0.enum.set.getLsbD e.addr.toNat = true) ∧
      s0.safe.psealOk = true ∧ s0.safe.pseal = packWord s0 7 ∧
      (∀ a ∈ members, ∀ x ∈ copies a, x.safety ≠ .tripped ∧ x.safety ≠ .lockout)
    let started : Prop := s0.sys.startDone = true ∧ ∀ a ∈ members, (mem a).thread.any (fun m => m.getLsbD 22) = true
    ∃ t, exec c s = .next t ∧
      (crcBad → t.host.accept = 7) ∧
      (¬ crcBad → valueBad → t.host.accept = 1) ∧
      (¬ crcBad → ¬ valueBad → widthBad → t.host.accept = 6) ∧
      (¬ crcBad → ¬ valueBad → ¬ widthBad → full → t.host.accept = 5) ∧
      (¬ crcBad → ¬ valueBad → ¬ widthBad → ¬ full → addrBad → t.host.accept = 2) ∧
      (¬ crcBad → ¬ valueBad → ¬ widthBad → ¬ full → ¬ addrBad →
        (op ≤ 6 → g.busy = true → t.host.accept = 8) ∧
        (op = 0xD → g.done = false → t.host.accept = if g.busy then 5 else 8) ∧
        (op = 0xE → g.last = none → t.host.accept = 8) ∧
        (op = 0xC → s0.host.doneQ = [] → t.host.accept = 5) ∧
        (bcast → g.busy = false → (d < (if op = 4 then 3 else 2) ∨ 1000 < d) → t.host.accept = 1) ∧
        (bcast → g.busy = false → ¬ (d < (if op = 4 then 3 else 2) ∨ 1000 < d) → runAsked → inMode s0 .run = false →
          t.host.accept = (if met then if started then 0 else 5 else 0xA)) ∧
        (bcast → g.busy = false → ¬ (d < (if op = 4 then 3 else 2) ∨ 1000 < d) → (¬ runAsked ∨ inMode s0 .run = true) →
          t.host.accept = 0) ∧
        (op ≤ 6 → ¬ bcast → g.busy = false → t.host.accept = 0) ∧
        (op = 0xD → g.done = true → t.host.accept = 0) ∧
        (op = 0xE → g.last ≠ none → t.host.accept = 0) ∧
        (op = 0xC → s0.host.doneQ ≠ [] → t.host.accept = 0))

/-- R70, R111, R118, R141, R147: a frame rejected at the accept byte takes no tag and reaches no device: besides the instant
of its last CRC bit it leaves the SPI mode, the status bytes, the accept byte on SDO and one counter of the port. At a
member, and in SLEEP, SHIP, reset and the start-up path, the port is not active, and a frame or its abort changes nothing; that it
works on in a core restart is read from R111 (log 47). R116, R120: a frame whose opcode is not in the table is refused, with CRC or
BAD_VALUE, and counted. -/
def Obligations.RejectedFrameLeavesOnlyThePort : Prop :=
  (∀ (c : Instr) (op : Nat) (h : HostHdr) (dat : List Word) (s : State), hostFrameOf c = some (op, h, dat) →
    isHead s = true → linkUp s = true →
    let s0 := frameMet c h s
    let code := acceptJudge op h (padWords (dataCount op h) dat) s0
    let x := s0.host
    code ≠ 0 →
    exec c s = .next (settle { s0 with host := { x with
      spiMode := h.mode3, accept := code, sdo := [BitVec.ofNat 8 code]
      status0 := BitVec.ofNat 8 ((if x.irq then 128 else 0) + x.doneQ.length)
      status1 := BitVec.ofNat 8 (x.tags.filter (fun g => !g.busy)).length
      crcErr := if code = 7 then satInc x.crcErr 0xFF else x.crcErr
      tagErr := if code = 8 then satInc x.tagErr 0xFF else x.tagErr
      refused := if code = 7 ∨ code = 8 then x.refused else satInc x.refused 0xFF } })) ∧
  (∀ (c : Instr) (op : Nat) (h : HostHdr) (dat : List Word) (s : State), hostFrameOf c = some (op, h, dat) →
    (isHead s = false ∨ linkUp s = false) →
    exec c s = .next (settle (match c with | .bulk _ _ ups => { s with bob := recUpset ups s.bob } | _ => s))) ∧
  (∀ s : State, (isHead s = false ∨ linkUp s = false) → exec .frameAbort s = .next (settle s)) ∧
  (∀ (op : BitVec 8) (h : HostHdr) (s : State), isHead s = true → linkUp s = true →
    op.toNat ∉ [1, 2, 3, 4, 5, 6, 0xC, 0xD, 0xE] →
    let good := crc16 (headerBytes op.toNat h) = h.crc
    ∃ t, exec (.unknownOpcode op h) s = .next t ∧
      (¬ good → t.host.accept = 7 ∧ t.host.crcErr = satInc s.host.crcErr 0xFF ∧ t.host.refused = s.host.refused) ∧
      (good → t.host.accept = 1 ∧ t.host.refused = satInc s.host.refused 0xFF ∧ t.host.crcErr = s.host.crcErr) ∧
      t.host.tags = s.host.tags ∧ t.host.trans = s.host.trans ∧ t.cfgW = s.cfgW ∧ t.pgErr = s.pgErr)

/-- R13, R49, R136, R139: what an RD leaves behind. It answers each register of its range and clears the RC fields of each that has
some: the list has every such register with its RC fields and the state that the read leaves, and `PG_ERR` of a page is one too; a
register that is read leaves the others of the range as they were, and nothing else of the state changes. An RD of one such register
then reads its RC fields as 0. `TIME.PT_LO` latches PT_HI, which the same RD then returns; `THRM.PEAK` then reads 0x8000. R142: on a
member a read of the HOST page answers the reset values and clears nothing. -/
def Obligations.ReadsClearTheirCountersAlone : Prop :=
  ∀ s : State, coreRuns s = true →
    let rc (s : State) : List (Nat × Word × State) := [
      (0x0038, 0xFF00, { s with sys := { s.sys with ackCnt := 0 } }), (0x0130, 0xFF00, { s with time := { s.time with missed := 0 } }),
      (0x013C, 0x03FF0000, { s with time := { s.time with loadPeak := 0 } }),
      (0x0140, 0x03FF0000, { s with time := { s.time with safePeak := 0 } }),
      (0x0144, 0xFFFF0000, { s with time := { s.time with shedCnt := 0 } }),
      (0x0238, 0xFFFFFFFF, { s with host := { s.host with abort := 0, refused := 0, tagErr := 0, crcErr := 0 } }),
      (0x023C, 0xFFFFFFFF, { s with host := { s.host with abandon := 0, retry := 0 } }),
      (0x0240, 7, { s with host := { s.host with cmplPeak := 0 } }),
      (0x0324, 0xFF00, { s with link := { s.link with portL := { s.link.portL with werr := 0 } } }),
      (0x0328, 0xFF00, { s with link := { s.link with portU := { s.link.portU with werr := 0 } } }),
      (0x0330, 0xFFFFFFFF, { s with link := { s.link with foldCnt := 0, unfoldCnt := 0 } }),
      (0x0334, 0xFFFF, { s with link := { s.link with tokBad := 0, tokRx := 0 } }),
      (0x0338, 0xFFFFFFFF, { s with link := { s.link with sumAbsent := 0, sumCrc := 0 } }),
      (0x033C, 0xFF00, { s with link := { s.link with thrdBad := 0 } }),
      (0x056C, 0xFFFFFFFF, { s with mirr := { s.mirr with micErr := 0, otherErr := 0 } }),
      (0x0E3C, 0xFFFF0000, { s with diag := { s.diag with sramCe := 0 } })] ++ [
      (0x106C, 0xFFFF, { s with safe := { s.safe with ackRef := 0, ackOk := 0 } }),
      (0x1130, 0xFFFFFFFF, { s with sio := { s.sio with points := 0, failA := 0, failB := 0 } }),
      (0x145C, 0xFFFF, { s with bob := { s.bob with trigCnt := 0 } }), (0x1524, 0xFFFFFFFF, { s with bob := { s.bob with ce := 0, ue := 0 } }),
      (0x1544, 0xFFFFFFFF, { s with bob := { s.bob with merged := 0, refused := 0 } }),
      (0x1630, 0xFFFF0000, { s with pwr := { s.pwr with brCount := 0 } }),
      (0x1924, 0xFFFF0000, { s with jrnl := { s.jrnl with dropped := 0 } })]
    let latch (s : State) : State := { s with time := { s.time with ptHi := (s.time.pt >>> 32).setWidth 32 } }
    let unpeak (s : State) : State := { s with thrm := { s.thrm with peak := none } }
    let errs (s : State) : List (Nat × Word × State) :=
      (List.range 26 ++ [31]).map (fun p => (256 * p + 0x0C, 0x00FFFFFF, { s with pgErr := s.pgErr.set p {} }))
    let frozen (a : Nat) : Prop := a / 256 = 2 ∧ isHead s = false
    let clear (s : State) (a : Nat) : State :=
      if a = 0x0120 then latch s else if a = 0x0C48 then unpeak s
      else (((rc s ++ errs s).find? (fun e => e.1 == a)).map (fun e => e.2.2)).getD s
    let asked (reg : BitVec 16) (n : Nat) : List Nat := (List.range n).map (fun k => reg.toNat + 4 * k)
    (∀ (reg : BitVec 16) (n : Nat) (tag : BitVec 6), pageExists (reg.toNat / 256) = true → reg.toNat % 256 + 4 * n ≤ 256 →
      reg.toNat % 4 = 0 → ¬ frozen reg.toNat →
      access 1 reg n [] tag s = (0, (asked reg n).map (fun a =>
          if a = 0x0124 ∧ reg.toNat ≠ a then (s.time.pt >>> 32).setWidth 32 else readReg s a),
        (asked reg n).foldl clear s)) ∧
    (∀ (reg : BitVec 16) (n : Nat) (tag : BitVec 6), reg.toNat % 256 + 4 * n ≤ 256 → frozen reg.toNat →
      access 1 reg n [] tag s = (0, (asked reg n).map (readReg State.reset), s)) ∧
    (∀ e ∈ rc s ++ errs s, ∀ tag : BitVec 6, ¬ frozen e.1 →
      access 1 (BitVec.ofNat 16 e.1) 1 [] tag s = (0, [readReg s e.1], e.2.2) ∧
        readReg e.2.2 e.1 = readReg s e.1 &&& ~~~ e.2.1) ∧
    (∀ tag : BitVec 6, access 1 0x0120 1 [] tag s = (0, [s.time.pt.setWidth 32], latch s) ∧
        readReg (latch s) 0x0124 = (s.time.pt >>> 32).setWidth 32) ∧
    (∀ tag : BitVec 6, access 1 0x0C48 1 [] tag s = (0, [readReg s 0x0C48], unpeak s) ∧
        readReg (unpeak s) 0x0C48 = (readReg s 0x0C48 &&& 0xFFFF0000) ||| 0x8000)

/-- R43, R127, R137, R141: an accepted RD, WR, MWR, SNRD or BULK with ADDR 1 takes its tag and is executed by the head without the
ring, and its reply, with the code of the access and, when it is 0, the access's data, waits with the tag. The model's reading (log
47): one that link service handles in time is executed with its acceptance, after those of the head that wait; one that it does
not, or that comes while the core restarts, waits, and is executed when link service next runs. That the reply of an RD
carries the stitch of execution is the model's choice where R119 and R134 differ (log 66). R132, R133: an SNRD returns the words
of the held snapshot that it names; BUSY until its stitch has ended, BAD_VALUE where the device holds none of that number, and
BAD_ADDR, judged first (log 44), outside the snapshot's registers; a refusal leaves only its record. R463, R465, R467, R468: a
BULK returns the words of the bobbin from its offset, high byte first, corrected where one bit has flipped and as they are
stored where two have; it counts the poisoned words and rewrites none. -/
def Obligations.HeadExecutesItsTransactionsAtOnce : Prop :=
  let executed (z : Trans) (s : State) : State :=
    let a := access z.op z.reg z.len z.data z.tag s
    let r : Reply := { op := z.op, tag := z.tag, addr := z.addr, status := a.1, retried := z.retried, stitch := stitch s
                       snap := z.snap, data := if a.1 = 0 then a.2.1 else [] }
    let x := a.2.2.host
    { a.2.2 with host := { x with
      irq := x.irq || (isHead a.2.2 && fbit a.2.2 .hostCfg 8)
      trans := x.trans.filter (fun y => y.tag != z.tag)
      tags := x.tags.modify z.tag.toNat (fun g => { g with done := true, reply := some r })
      doneQ := x.doneQ ++ [z.tag], cmplPeak := max x.cmplPeak (min 4 (stitches a.2.2 - z.accepted)) } }
  (∀ (c : Instr) (op : Nat) (h : HostHdr) (dat : List Word) (s : State), hostFrameOf c = some (op, h, dat) →
    op ∈ [1, 2, 3, 5, 6] → isHead s = true → linkUp s = true → h.addr = 1 →
    let s0 := frameMet c h s
    let ws := padWords (dataCount op h) dat
    acceptJudge op h ws s0 = 0 →
    let y := driveAccept 0 h s0
    let s1 : State := { y with host := { y.host with tags := y.host.tags.set h.tag.toNat { busy := true } } }
    let own : Trans := { tag := h.tag, op := op, addr := 1, reg := h.reg, len := h.len.toNat, data := ws, accepted := stitches s0
                         pt := s0.time.pt, snap := if op = 5 then (ws.getD 0 0).setWidth 16 else 0 }
    (coreRuns s = true → h.handled = true →
      exec c s = .next (settle (executed own ((s1.host.trans.filter (fun z => z.addr == 1)).foldl (fun s z => executed z s) s1)))) ∧
    (coreRuns s = false ∨ h.handled = false →
      exec c s = .next (settle { s1 with host := { s1.host with trans := s1.host.trans ++ [{ own with sent := true }] } }))) ∧
  (∀ s : State, isHead s = true → coreRuns s = true → postDue s = false → exec (.postProcessing true) s = .next (settle
    ((s.host.trans.filter (fun z => z.addr == 1)).foldl (fun s z => executed z s) s))) ∧
  (∀ (reg num : BitVec 16) (n : Nat) (tag : BitVec 6) (s : State), reg.toNat % 4 = 0 →
    let r := access 5 reg n [num.setWidth 32] tag s
    let served (a : Nat) : Prop := (0x0720 ≤ a ∧ a ≤ 0x07A0) ∨ (0x0930 ≤ a ∧ a ≤ 0x0938) ∨ (0x0B20 ≤ a ∧ a ≤ 0x0B5C)
    let word (x : Snap) (a : Nat) : Word :=
      if a < 0x07A0 then x.cells.getD ((a - 0x0720) / 4) 0 else if a = 0x07A0 then x.vstk else if a = 0x0930 then x.isns
      else if a = 0x0934 then x.isnsPt else if a = 0x0938 then x.iaux else x.ts.getD ((a - 0x0B20) / 4) 0
    let fits : Prop := reg.toNat % 256 + 4 * n ≤ 256 ∧ ∀ k < n, served (reg.toNat + 4 * k)
    (¬ fits → r.1 = 2 ∧ r.2.1 = [] ∧ { r.2.2 with pgErr := s.pgErr } = s) ∧
    (fits → (∀ x ∈ s.dev.snaps, x.num ≠ num) → r.1 = 1 ∧ r.2.1 = [] ∧ { r.2.2 with pgErr := s.pgErr } = s) ∧
    (∀ x ∈ s.dev.snaps, fits → x.num = num → (∀ y ∈ s.dev.snaps, y.num = num → y = x) →
      (x.held = false → r.1 = 5 ∧ r.2.1 = [] ∧ { r.2.2 with pgErr := s.pgErr } = s) ∧
      (x.held = true → r = (0, (List.range n).map (fun k => word x (reg.toNat + 4 * k)), s)))) ∧
  (∀ (reg : BitVec 16) (o : Word) (n : Nat) (tag : BitVec 6) (s : State),
    let r := access 6 reg n [o] tag s
    let stored (i : Nat) : BitVec 64 := storWord s.bob i ^^^ (flipsOf s.bob.errs i).setWidth 64
    let half (k : Nat) (d : BitVec 64) : Word := if k % 2 = 0 then (d >>> 32).setWidth 32 else d.setWidth 32
    let poisoned (i : Nat) : Bool := (storRead s.bob i).1 == 2
    (16777216 < o.toNat + n → r = (2, [], s)) ∧
    (o.toNat + n ≤ 16777216 → r.1 = 0 ∧ r.2.1.length = n ∧ r.2.2.bob.mem = s.bob.mem ∧ r.2.2.bob.errs = s.bob.errs ∧
      { r.2.2 with bob := s.bob, col := s.col, jrnl := s.jrnl } = s ∧
      (∀ k < n,
        let a := o.toNat + k
        (popCount (flipsOf s.bob.errs (a / 2)) ≤ 1 → r.2.1.getD k 0 =
          memGet s.bob.mem (4 * a) ++ memGet s.bob.mem (4 * a + 1) ++ memGet s.bob.mem (4 * a + 2) ++ memGet s.bob.mem (4 * a + 3)) ∧
        (popCount (flipsOf s.bob.errs (a / 2)) = 2 → r.2.1.getD k 0 = half a (stored (a / 2)) ∧ poisoned (a / 2) = true)) ∧
      (0 < n → r.2.2.bob.bulkPoison =
        ((List.range ((o.toNat + n - 1) / 2 + 1)).filter (fun i => decide (o.toNat / 2 ≤ i) && poisoned i)).length)))

/-- R123, R127, R128, R131: an accepted transaction to a member of the map takes its tag and waits in order of
acceptance, with the next sequence number of its address; one to an address outside the map completes in the stitch of
acceptance, with BAD_ADDR and NOREACH clear (the STITCH of its reply is a free value, log 37); a broadcast WR or SNAP
names its stitch, is sent to every device and waits at the head's own device too, a SNAP under the next number (not where the
head's core restarts, log 47); its frame takes a SEQ
by which its answers are told from the replies of other frames, and the head notes what they will carry (the model's reading,
log 63). -/
def Obligations.AcceptedTransactionsTakeTheirWay : Prop :=
  (∀ (c : Instr) (op : Nat) (h : HostHdr) (dat : List Word) (s : State), hostFrameOf c = some (op, h, dat) →
     op ∈ [1, 2, 3, 5, 6] → isHead s = true → linkUp s = true → 2 ≤ h.addr.toNat →
     s.enum.map.any (fun e => e.addr == h.addr) = true →
     let s0 := frameMet c h s
     let ws := padWords (dataCount op h) dat
     acceptJudge op h ws s0 = 0 →
     let x := (driveAccept 0 h s0).host
     let q := (s.link.members.getD h.addr.toNat {}).seqOut
     exec c s = .next (settle { s0 with
       host := { x with
         tags := x.tags.set h.tag.toNat { busy := true }
         trans := x.trans ++ [{ tag := h.tag, op := op, addr := h.addr, reg := h.reg, len := h.len.toNat, data := ws
                                accepted := stitches s0, pt := s0.time.pt, seq := q
                                snap := if op = 5 then (ws.getD 0 0).setWidth 16 else 0 }] }
       link := { s0.link with
         members := s0.link.members.modify h.addr.toNat (fun m => { m with seqOut := q + 1 }) } })) ∧
  (∀ (c : Instr) (op : Nat) (h : HostHdr) (dat : List Word) (s : State), hostFrameOf c = some (op, h, dat) →
     op ∈ [1, 2, 3, 5, 6] → isHead s = true → linkUp s = true → 2 ≤ h.addr.toNat →
     s.enum.map.any (fun e => e.addr == h.addr) = false →
     let s0 := frameMet c h s
     let ws := padWords (dataCount op h) dat
     acceptJudge op h ws s0 = 0 →
     let x := (driveAccept 0 h s0).host
     ∃ r : Reply, r.op = op ∧ r.tag = h.tag ∧ r.addr = h.addr ∧ r.status = 2 ∧ r.noreach = false ∧ r.uncert = false ∧
       r.data = [] ∧
       exec c s = .next (settle { s0 with
         free := s0.free + 1
         host := { x with
           irq := x.irq || fbit s0 .hostCfg 8
           trans := x.trans.filter (fun y => y.tag != h.tag)
           tags := (x.tags.set h.tag.toNat { busy := true }).modify h.tag.toNat
             (fun g => { g with done := true, reply := some r })
           doneQ := x.doneQ ++ [h.tag] } })) ∧
  (∀ (c : Instr) (op : Nat) (h : HostHdr) (dat : List Word) (s : State), hostFrameOf c = some (op, h, dat) →
     (op = 2 ∨ op = 4) → isHead s = true → linkUp s = true → h.addr = 0 →
     let s0 := frameMet c h s
     let ws := padWords (dataCount op h) dat
     acceptJudge op h ws s0 = 0 →
     let x := (driveAccept 0 h s0).host
     let named : BitVec 16 := (ws.getD 0 0).setWidth 16
     let n := s0.time.snapCtr + 1
     let tr (num : BitVec 16) : Trans :=
       { tag := h.tag, op := op, addr := 0, reg := h.reg, len := h.len.toNat, data := ws.drop 1, accepted := stitches s0
         pt := s0.time.pt, seq := bcastSeq op h.tag s0, named := named, namedAt := stitches s0 + (named - stitch s0).toNat, snap := num }
     let tags := x.tags.set h.tag.toNat { busy := true }
     let q := bcastSeq op h.tag s0
     let waits (ws : List Word) : DevSt :=
       { s0.dev with bcasts := s0.dev.bcasts ++ [{ stitch := named, tag := h.tag, seq := q, reg := h.reg, data := ws }] }
     let sent := ({ op := op, tag := h.tag, seq := q, named := named, namedAt := stitches s0 + (named - stitch s0).toNat } :: x.bcSent).take 64
     (op = 2 → exec c s = .next (settle { s0 with
       host := { x with tags := tags, trans := x.trans ++ [tr 0], bcSent := sent }
       dev := if coreRuns s = true then waits (ws.drop 1) else s0.dev })) ∧
     (op = 4 → coreRuns s = true → exec c s = .next (settle (snapRequest n named { s0 with
       host := { x with tags := tags, trans := x.trans ++ [tr n], bcSent := sent }
       dev := waits []
       time := { s0.time with snapCtr := n } }))) ∧
     (op = 4 → coreRuns s = false → exec c s = .next (settle { s0 with
       host := { x with tags := tags, trans := x.trans ++ [tr n], bcSent := sent }
       time := { s0.time with snapCtr := n } })))

/-- R121, R122, R118: NEXT delivers the oldest completed reply and FETCH that of its tag: the tag is free again and
keeps the reply, which follows the accept byte; REFETCH returns it unchanged. -/
def Obligations.RepliesAreDeliveredOnceAndKept : Prop :=
  ∀ (h : HostHdr) (s : State), isHead s = true → linkUp s = true →
    let s0 := atUs h.us.toNat s
    let x := (driveAccept 0 h s0).host
    let out (r : Option Reply) : List Byte := 0 :: (match r with | some r => replyBytes r | none => [])
    let given (tag : BitVec 6) : State := { s0 with host := { x with
      tags := x.tags.set tag.toNat { last := (x.tags.getD tag.toNat {}).reply }
      doneQ := x.doneQ.filter (fun k => k != tag)
      sdo := out (x.tags.getD tag.toNat {}).reply } }
    (∀ tag l, s.host.doneQ = tag :: l → acceptJudge 0xC h [] s0 = 0 → exec (.next h) s = .next (settle (given tag))) ∧
    (acceptJudge 0xD h [] s0 = 0 → exec (.fetch h) s = .next (settle (given h.tag))) ∧
    (acceptJudge 0xE h [] s0 = 0 → exec (.refetch h) s = .next (settle { s0 with host := { x with
      sdo := out (x.tags.getD h.tag.toNat {}).last } }))

/-- R113: a frame cut short by CS_N is discarded, changes no state and is counted in `HOST.PORT_ERR.ABORT`, an 8-bit
counter that saturates (R147). -/
def Obligations.AbortedFrameIsOnlyCounted : Prop :=
  ∀ s : State, isHead s = true → linkUp s = true →
    exec .frameAbort s = .next (settle { s with host := { s.host with abort := min (s.host.abort + 1) 255 } })

/-! ### Register writes -/

/-- R11, R136, R137, R141: whichever command brings it, a refused write of a register leaves its record in `PG_ERR` of the
page addressed and nothing else; no page holds a record of a page that does not exist (R138), and the HOST page of a member
is never updated (R142). A WR of several registers is judged as a whole: the lowest-addressed register that refuses gives
code and record, and no register changes; a broadcast WR is judged by the same words, with its own conditions (R129). So
for an MWR's new value, a range that passes the end of its page (recorded at its first register, the model's choice, log
66), and an RD, which then returns no data and clears nothing. -/
def Obligations.RefusedWriteLeavesOnlyItsTrace : Prop :=
  ∀ s : State,
    let recorded (a code : Nat) : State :=
      if pageExists (a / 256) = true ∧ (a / 256 ≠ 2 ∨ isHead s = true) then
        { s with pgErr := s.pgErr.modify (a / 256) (fun e => ⟨code, min (e.cnt + 1) 0xFF, a % 256⟩) }
      else s
    (∀ (c : Instr) (a : Nat) (v : Word), writeOf c = some (a, v) → coreRuns s = true → writeCode a v s ≠ 0 →
      exec c s = .next (settle (recorded a (writeCode a v s)))) ∧
    (∀ (reg : BitVec 16) (ws : List Word) (tag : BitVec 6),
      let n := ws.length
      let l : List (Nat × Word) := (List.range n).map (fun k => (reg.toNat + 4 * k, ws.getD k 0))
      let whole : Cfg := l.foldl (fun c e => cfgPut e.1 e.2 c) s.cfgW
      let code (bcast : Bool) (k : Nat) : Nat := judgeReg s whole (reg.toNat + 4 * k) (ws.getD k 0) bcast false
      (256 < reg.toNat % 256 + 4 * n → access 2 reg n ws tag s = (2, [], recorded reg.toNat 2) ∧
        judgeWr s reg ws true false = some (reg.toNat, 2)) ∧
      (reg.toNat % 256 + 4 * n ≤ 256 → ∀ k < n,
        (code false k ≠ 0 → (∀ j < k, code false j = 0) →
          access 2 reg n ws tag s = (code false k, [], recorded (reg.toNat + 4 * k) (code false k))) ∧
        (code true k ≠ 0 → (∀ j < k, code true j = 0) →
          judgeWr s reg ws true false = some (reg.toNat + 4 * k, code true k)))) ∧
    (∀ (reg : BitVec 16) (mask value : Word) (tag : BitVec 6), reg.toNat % 4 = 0 →
      let v := mwrValue s reg.toNat mask value
      writeCode reg.toNat v s ≠ 0 →
        access 3 reg 1 [mask, value] tag s = (writeCode reg.toNat v s, [], recorded reg.toNat (writeCode reg.toNat v s))) ∧
    (∀ (reg : BitVec 16) (n : Nat) (tag : BitVec 6),
      pageExists (reg.toNat / 256) = false ∨ 256 < reg.toNat % 256 + 4 * n →
        access 1 reg n [] tag s = (2, [], recorded reg.toNat 2))

/-- R10, R11, R12, R30: a register of one plain RW field, with no CONFIG request pending: a value in the field's range with
zero reserved bits becomes the field's written value, while the value in force stays; any other is refused with BAD_VALUE.
Entries: address, register, highest bit of its field, reserved bits, range. R234, R408, R452, R475, R498: so do the RW
registers of several fields, of fields tied to one another, or bound to a mode: a value with zero reserved bits, every field
in its range and the tie met is taken in a mode that the rule allows. Outside RUN and FACTORY a BAL register refuses with
WRONG_MODE before the value is looked at. That a change of RATE in POST answers BUSY also where reserved bits are not zero
or a field is out of range is the model's choice (log 74): neither R475 nor R536 gives that order. Entries: address,
register, the bits of the fields, reserved bits, fields with their ranges, tie. -/
def Obligations.PlainRwRegistersTakeTheWrittenValue : Prop :=
  (∀ (e : Nat × CReg × Nat × Nat × Nat × Nat),
    e ∈ [(0x0320, CReg.linkCfg, 1, 0xFFFFFFFC, 0, 2), (0x0624, .measFilt, 3, 0xFFFFFFF0, 0, 8),
      (0x0628, .measRoc, 10, 0xFFFFF800, 10, 2000), (0x0630, .measStk, 4, 0x0000FFE0, 10, 22),
      (0x0A24, .impVarThr, 15, 0xFFFF0000, 1, 65535), (0x1520, .eccCfg, 3, 0xFFFFFFF0, 1, 15),
      (0x153C, .eccRetSel, 7, 0xFFFFFF00, 0, 255), (0x0620, .measMw, 3, 0xFFFFF8F0, 2, 8)] →
    ∀ (v : Word) (s : State), coreRuns s = true → jobIs s.otp.req 5 = false →
    let (a, r, msb, rsv, lo, hi) := e
    let x := bits v msb 0
    let m : Word := BitVec.ofNat 32 (2 ^ (msb + 1) - 1)
    exec (.registerWrite (BitVec.ofNat 16 a) v) s = .next (settle (
      if v.toNat &&& rsv = 0 ∧ lo ≤ x ∧ x ≤ hi then
        { s with cfgW := cfgSet s.cfgW r ((cfgGet s.cfgW r &&& ~~~ m) ||| (v &&& m)) }
      else { s with pgErr := s.pgErr.modify (a / 256) (fun e => ⟨1, min (e.cnt + 1) 0xFF, a % 256⟩) }))) ∧
  (let always : Word → Prop := fun _ => True
   let enables (g : Nat) (v : Word) : Prop := ∀ j : Fin 32,
     if srcReserved (32 * g + j.val) = true then bit v j.val = false
     else srcDefault (32 * g + j.val) = 3 → bit v j.val = true
   let levels (k : Nat) (v : Word) : Prop := ∀ j : Fin 16,
     if srcReserved (16 * k + j.val) = true then bits v (2 * j.val + 1) (2 * j.val) = 0
     else srcDefault (16 * k + j.val) = 3 → bits v (2 * j.val + 1) (2 * j.val) = 3
   let whole : List (Nat × Nat × Nat × Nat) := [(31, 0, 0, 0xFFFFFFFF)]
   let l : List (Nat × CReg × Word × Nat × List (Nat × Nat × Nat × Nat) × (Word → Prop)) := [
     (0x0920, .syncCfg, 0x03FF0003, 0xFC00FFFC, [(25, 16, 0, 999), (1, 1, 0, 1), (0, 0, 0, 1)], always),
     (0x0D20, .balCfg, 0x00FF1FFF, 0xFF00E000, [(23, 16, 0, 150), (12, 0, 1000, 4500)], always),
     (0x0D24, .balRb, 0x3FF, 0xFFFFFC00, [(9, 0, 50, 1000)], always),
     (0x1420, .recCfg, 0xF3, 0xFFFFFF0C, [(7, 4, 0, 8), (1, 0, 0, 2)], always),
     (0x1624, .brCfg, 0x00010FFF, 0xFFFEF000, [(16, 16, 0, 1), (11, 0, 1, 3600)], always),
     (0x1628, .brVwin, 0x1FFF1FFF, 0xE000E000, [(28, 16, 500, 5000), (12, 0, 500, 5000)],
       fun v => bits v 12 0 < bits v 28 16),
     (0x162C, .brTwin, 0xFFFFFFFF, 0, [(31, 16, 0, 65535), (15, 0, 0, 65535)],
       fun v => toSigned 16 (bits v 15 0) < toSigned 16 (bits v 31 16)),
     (0x1244, .colEnD, 0xFFFFFFFF, 0, whole, enables 1), (0x1248, .colEnC, 0xFFFFFFFF, 0, whole, enables 2),
     (0x124C, .colEnH, 0xFFFFFFFF, 0, whole, enables 3), (0x1258, .colLvl2, 0xFFFFFFFF, 0, whole, levels 2),
     (0x125C, .colLvl3, 0xFFFFFFFF, 0, whole, levels 3), (0x1260, .colLvl4, 0xFFFFFFFF, 0, whole, levels 4),
     (0x1264, .colLvl5, 0xFFFFFFFF, 0, whole, levels 5), (0x1268, .colLvl6, 0xFFFFFFFF, 0, whole, levels 6),
     (0x126C, .colLvl7, 0xFFFFFFFF, 0, whole, levels 7)]
   ∀ e ∈ l, ∀ (v : Word) (s : State), coreRuns s = true → jobIs s.otp.req 5 = false →
     let (a, r, m, rsv, fs, tie) := e
     let refused (code : Nat) : Out :=
       .next (settle { s with pgErr := s.pgErr.modify (a / 256) (fun e => ⟨code, min (e.cnt + 1) 0xFF, a % 256⟩) })
     let run := exec (.registerWrite (BitVec.ofNat 16 a) v) s
     let mode : Prop := (a = 0x0D20 ∨ a = 0x0D24) → inMode s .run = true ∨ inMode s .factory = true
     let rate : Prop := a = 0x1420 → s.bob.st = 2 → bits v 1 0 = bits (cfgGet s.cfgW .recCfg) 1 0
     let fits : Prop := v.toNat &&& rsv = 0 ∧ (∀ f ∈ fs, f.2.2.1 ≤ bits v f.1 f.2.1 ∧ bits v f.1 f.2.1 ≤ f.2.2.2) ∧ tie v
     (¬ mode → run = refused 3) ∧ (¬ rate → run = refused 5) ∧ (mode → rate → ¬ fits → run = refused 1) ∧
     (mode → rate → fits → run = .next (settle { s with cfgW := cfgSet s.cfgW r ((cfgGet s.cfgW r &&& ~~~ m) ||| (v &&& m)) })))

/-- R10, RWS: a sealed field, with a value in its range, zero reserved bits and no OTP request pending or running: it
is set in FACTORY, and in COMMISSION while the set is unsealed; a different value is refused with SEALED in COMMISSION
while it is sealed and with WRONG_MODE in every other mode; the current value changes nothing. Entries: address,
register, the field's bits, reserved bits, range. R76, R77, R408: so for the registers of several sealed fields, here
`SAFE.HARNESS` and the voltage limits, of which a write that leaves the order VUV_CRIT < VUV < VOV < VOV_CRIT or a margin of
R408 unmet is refused with BAD_VALUE where it could be set. Entries: address, register, the bits of the fields, reserved bits,
fields with their ranges. -/
def Obligations.SealedFieldsFollowModeAndSeal : Prop :=
  (∀ (e : Nat × CReg × Nat × Nat × Nat × Nat × Nat),
    e ∈ [(0x062C, CReg.measXchk, 5, 0, 0xFFFFFFC0, 5, 50), (0x0944, .syncRshunt, 23, 0, 0xFF000000, 10000, 16777215),
      (0x1040, .safeIdir, 11, 0, 0xFFFFF000, 1, 4095), (0x1044, .safeDeg, 26, 16, 0xF800FFFF, 10, 1800)] →
    ∀ (v : Word) (s : State), coreRuns s = true →
    let (a, r, msb, lsb, rsv, lo, hi) := e
    let x := bits v msb lsb
    let m : Word := BitVec.ofNat 32 ((2 ^ (msb + 1 - lsb) - 1) <<< lsb)
    let held : Prop := jobIs s.otp.req 3 = true ∨ jobIs s.otp.job 3 = true ∨ jobIs s.otp.req 4 = true ∨
      jobIs s.otp.job 4 = true
    let same : Prop := bits (cfgGet s.cfgW r) msb lsb = x
    let refused (code : Nat) : State :=
      { s with pgErr := s.pgErr.modify (a / 256) (fun e => ⟨code, min (e.cnt + 1) 0xFF, a % 256⟩) }
    v.toNat &&& rsv = 0 → lo ≤ x → x ≤ hi →
    (same → exec (.registerWrite (BitVec.ofNat 16 a) v) s = .next (settle s)) ∧
    (¬ same → held → exec (.registerWrite (BitVec.ofNat 16 a) v) s = .next (settle (refused 5))) ∧
    (¬ same → ¬ held → exec (.registerWrite (BitVec.ofNat 16 a) v) s = .next (settle (
      if inMode s .factory = true ∨ (inMode s .commission = true ∧ s.safe.sealed = false) then
        { s with cfgW := cfgSet s.cfgW r ((cfgGet s.cfgW r &&& ~~~ m) ||| (v &&& m)) }
      else if inMode s .commission = true then refused 4 else refused 3)))) ∧
  (∀ (e : Nat × CReg × Word × Nat × List (Nat × Nat × Nat × Nat)),
    e ∈ [(0x1020, CReg.safeHarness, 0xFFFF013F, 0xFEC0, [(31, 16, 1, 65535), (8, 8, 0, 1), (5, 0, 8, 32)]),
      (0x1024, .safeVov, 0x1FFF1FFF, 0xE000E000, [(28, 16, 2000, 5000), (12, 0, 2000, 5000)]),
      (0x1028, .safeVuv, 0x1FFF1FFF, 0xE000E000, [(28, 16, 500, 4500), (12, 0, 500, 4500)])] →
    ∀ (v : Word) (s : State), coreRuns s = true →
    let (a, r, m, rsv, fs) := e
    let held : Prop := jobIs s.otp.req 3 = true ∨ jobIs s.otp.job 3 = true ∨ jobIs s.otp.req 4 = true ∨
      jobIs s.otp.job 4 = true
    let same : Prop := cfgGet s.cfgW r &&& m = v &&& m
    let put := cfgSet s.cfgW r ((cfgGet s.cfgW r &&& ~~~ m) ||| (v &&& m))
    let ov := cfgGet put .safeVov
    let uv := cfgGet put .safeVuv
    let margin := bits (cfgGet put .safeVcfg) 23 16
    let tie : Prop := r = .safeHarness ∨ (bits uv 28 16 < bits uv 12 0 ∧ bits uv 12 0 < bits ov 12 0 ∧
      bits ov 12 0 < bits ov 28 16 ∧ bits ov 28 16 + margin ≤ 5400 ∧ 300 + margin ≤ bits uv 28 16)
    let refused (code : Nat) : Out :=
      .next (settle { s with pgErr := s.pgErr.modify (a / 256) (fun e => ⟨code, min (e.cnt + 1) 0xFF, a % 256⟩) })
    let run := exec (.registerWrite (BitVec.ofNat 16 a) v) s
    v.toNat &&& rsv = 0 → (∀ f ∈ fs, f.2.2.1 ≤ bits v f.1 f.2.1 ∧ bits v f.1 f.2.1 ≤ f.2.2.2) →
    (same → tie → run = .next (settle { s with cfgW := put })) ∧
    (same → ∀ q, cfgGet put q = cfgGet s.cfgW q) ∧
    (¬ same → held → run = refused 5) ∧
    (¬ same → ¬ held → (inMode s .factory = true ∨ (inMode s .commission = true ∧ s.safe.sealed = false)) →
      (tie → run = .next (settle { s with cfgW := put })) ∧ (¬ tie → run = refused 1)) ∧
    (¬ same → ¬ held → inMode s .commission = true → s.safe.sealed = true → run = refused 4) ∧
    (¬ same → ¬ held → inMode s .factory = false → inMode s .commission = false → run = refused 3))

/-- R328, R518, R520: `LINK.CFG.TXAMP` = 3 is refused with BAD_VALUE (while no CONFIG request is pending, R539); the
other block registers of the LINK, OTP and JRNL pages that hold no writable field refuse with WRONG_MODE; the reserved
offsets of these pages read zero with status OK and refuse writes with BAD_ADDR. -/
def Obligations.ReadOnlyAndReservedOffsetsRefuse : Prop :=
  ∀ s : State, coreRuns s = true →
    let refused (a : Nat) (code : Nat) : State :=
      { s with pgErr := s.pgErr.modify (a / 256) (fun e => ⟨code, min (e.cnt + 1) 0xFF, a % 256⟩) }
    (∀ v : Word, bits v 1 0 = 3 → jobIs s.otp.req 5 = false →
      exec (.registerWrite 0x0320 v) s = .next (settle (refused 0x0320 1))) ∧
    (∀ (r : Nat × Nat), r ∈ [(0x0324, 0x0350), (0x1820, 0x1834), (0x183C, 0x183C), (0x1920, 0x1924), (0x192C, 0x1950)] →
      ∀ (a : Nat) (v : Word), r.1 ≤ a → a ≤ r.2 → a % 4 = 0 →
        exec (.registerWrite (BitVec.ofNat 16 a) v) s = .next (settle (refused a 3))) ∧
    (∀ (r : Nat × Nat), r ∈ [(0x0354, 0x03FC), (0x1840, 0x18FC), (0x1954, 0x19FC)] →
      ∀ (a : Nat) (v : Word) (tag : BitVec 6), r.1 ≤ a → a ≤ r.2 → a % 4 = 0 →
        exec (.registerWrite (BitVec.ofNat 16 a) v) s = .next (settle (refused a 2)) ∧
          access 1 (BitVec.ofNat 16 a) 1 [] tag s = (0, [0], s))

/-- R205 to R211, R214: what the impedance tracker publishes at a boundary. The source of R206 is the device's own shunt or the
head's word; a stitch contributes by R207 with the sums p, B and A over the slots common to both windows; FILL, VAR, and Z, NEG,
SAT and IMP_VALID of every cell follow from the window of the last W stitches, and after more than 16 stitches without current
data the tracker restarts, as it does at entry to COMMISSION or RUN. STITCH_BOUNDARY does so, of the stitch that ends, when the load sheds
no tracker and link service has published that stitch; where the settings that come into force there raise EN or change
WIN_K the tracker restarts after it. The model's choices: Z to the nearest step with halves
away from zero, Z and VAR 0 with an empty sum, a settling stitch's shunt as a source (log 75), the restart's count of stitches
without data and the registers of a tracker that does not run (log 69); VAR rounded toward zero, and the head's words scaled by a
member's own SYNC.RSHUNT (log 6). Deviations are scaled by 840, so that they are whole. -/
def Obligations.ImpedanceWindowIsPublished : Prop :=
  (∀ (i : BoundaryIn) (s : State), hwslOn s = true → coreRuns s = true → s.sys.mode.isSome = true → s.time.fresh = false →
    s.dev.inbox = [] → s.dev.bcasts = [] → s.safe.misses < 15 → thermalDue s = false → s.meas.published = true →
    s.time.shed ≠ 1 ∨ i.load.toNat ≤ 850 →
    let k (c : Cfg) : Nat := bits (cfgGet c .impCfg) 3 0
    let en (c : Cfg) : Bool := bit (cfgGet c .impCfg) 8
    let restarts : Prop := k s.cfgW ≠ k s.cfg ∨ (en s.cfg = false ∧ en s.cfgW = true)
    let x : ImpSt := (impStep s).imp
    ∃ t, exec (.stitchBoundary i) s = .next t ∧
      (¬ restarts → t.imp = { x with curValid := false }) ∧
      (restarts → t.imp = { x with
        curValid := false, fill := 0, win := [], var := 0, valid := 0, z := List.replicate 32 (0, false, false), noData := 0 })) ∧
  ∀ s : State, (closeStitch s).imp = (impStep s).imp ∧ (impRuns s = false → impStep s = s) ∧
    (∀ m : Mode, m = .commission ∨ m = .run → (modeSwitch m s).imp = { s.imp with
      fill := 0, win := [], var := 0, valid := 0, z := List.replicate 32 (0, false, false), noData := 0 }) ∧
    (impRuns s = true →
      let m := s.meas
      let t := (impStep s).imp
      let own : Prop := fld s .syncIcfg 0 0 = 1
      let valid : Prop := if fld s .syncIcfg 0 0 = 1 then m.prevModOn = true ∧ s.cur.isnsLost = false ∧
          (winOf m.prevFirst m.prevLen m.prevShunt).length = m.prevLen ∧ ovlOf (winOf m.prevFirst m.prevLen m.prevShunt) = 0
        else isHead s = false ∧ s.imp.curValid = true
      let i := ((impCurrent s).1).getD []
      let dev (l : List (Nat × Int)) (x : Int) : Int :=
        ((840 / l.length : Nat) : Int) * (l.length * x - (l.map Prod.snd).sum)
      let common := i.filter (fun e => decide (m.prevFirst ≤ e.1) && decide (e.1 < m.prevFirst + m.prevLen))
      let given : Prop := valid ∧ 2 ≤ common.length ∧ (i.map Prod.snd).sum.natAbs ≤ 8000000 * i.length ∧ m.prevModOn = true
      let e := (impCurrent s).1.bind (impEntry s)
      let v (n : Nat) : List (Nat × Int) := (((winOf m.prevFirst m.prevLen m.prevSubs).filterMap (fun r => r[n]?)).map
        Sub.v).zipIdx.map (fun x => (x.2 + m.prevFirst, x.1))
      let W := 2 ^ fld s .impCfg 3 0
      let win := (e :: s.imp.win).take W
      let r := fld s .syncRshunt 23 0
      let B : Int := ((win.filterMap id).map ImpEnt.b).sum
      let den := 705600 * r * r * ((win.filterMap id).map ImpEnt.p).sum
      let fill := min W (s.imp.fill + 1)
      -- R206
      (t.csrc = if fld s .syncIcfg 0 0 = 1 then 1
        else if isHead s = false ∧ s.imp.curValid = true then 2 else 0) ∧
      (own → valid → i = (winOf m.prevFirst m.prevLen m.prevShunt).zipIdx.map (fun e => (e.2 + m.prevFirst, e.1.v))) ∧
      (¬ own → valid → i = ((List.range 8).filter (fun k => s.imp.curMap.getLsbD k)).map
        (fun k => (k, s.imp.curSubs.getD k 0))) ∧
      -- R205, R207
      (e.isSome = true ↔ given) ∧
      (e.isSome = true → let q := e.getD {}; q.p = common.length ∧ q.b = (common.map (fun x => dev i x.2 * dev i x.2)).sum ∧
        ∀ n < 32, q.a.getD n none = if (cellGood s n).isSome = true ∧ (m.cells.getD n {}).stale = false then
            some (common.map (fun x => match (v n).find? (fun y => y.1 == x.1) with
              | some y => dev (v n) y.2 * dev i x.2 | none => 0)).sum
          else none) ∧
      -- R209
      (¬ given → 16 ≤ s.imp.noData → t.fill = 0 ∧ t.win = [] ∧ t.var = 0 ∧ t.valid = 0 ∧ t.noData = 0 ∧
        t.z = List.replicate 32 (0, false, false)) ∧
      -- R208, R210, R211
      (given ∨ s.imp.noData < 16 → t.fill = fill ∧ t.win = win ∧ t.z.length = 32 ∧
        (t.noData = if e.isSome = true then 0 else s.imp.noData + 1) ∧
        (t.var = if den = 0 then 0 else min 0xFFFF (B.toNat * 160000 / den)) ∧
        ∀ n < 32,
          let l := (win.filterMap id).filterMap (fun q => (q.a.getD n none).map (fun a => (a, q.b)))
          let num : Int := (l.map Prod.fst).sum * r
          let bn : Int := (l.map Prod.snd).sum
          let z := t.z.getD n (0, false, false)
          let some_ : Prop := populated s n = true ∧ 0 < bn
          (¬ some_ → z = (0, false, false)) ∧ (some_ → num < 0 → z = (0, true, false)) ∧
          (some_ → 0 ≤ num → 0xFFFFFF * (4 * bn) ≤ num → z = (0xFFFFFF, false, true)) ∧
          (some_ → 0 ≤ num → num < 0xFFFFFF * (4 * bn) → z = ((divRound num (4 * bn.toNat)).toNat, false, false)) ∧
          (bit t.valid n = true ↔ fill = W ∧ 7 * W ≤ 8 * l.length ∧ 0 < den ∧
            fld s .impVarThr 15 0 * den ≤ B.toNat * 160000 ∧ some_ ∧ 0 ≤ num ∧
            num ≤ 0xFFFFFF * (4 * bn))))

/-- R418, R396, R397, R420, R495, R352, R475, R377, R219, R234, R268: registers whose write is an action. Each acts at
the boundary of R29, from the field that holds the request; the pack acknowledge names the stitch two on and is judged
at its end (log 35); it takes the SEQ by which its answers are told when it first goes out (log 63). `PWR.WAKE.CLR` alone acts at once: R495 lowers
WAKE_OUT with the write, where R497 would hold it for the boundary (log 77). R507, R30: the two registers with a field that the
keep-alive domain keeps take it with the write. -/
def Obligations.ActionRegistersHoldTheirRequest : Prop :=
  ∀ s : State, coreRuns s = true → jobIs s.otp.req 5 = false →
    let held : Prop := jobIs s.otp.req 3 = true ∨ jobIs s.otp.job 3 = true ∨ jobIs s.otp.req 4 = true ∨
      jobIs s.otp.job 4 = true
    let cells : Nat := bits (cfgGet s.cfgW .safeHarness) 5 0
    let acks : Bool := inMode s .standby || inMode s .commission || inMode s .run
    (acks = true → exec (.hostAck 0x5A) s = .next (settle (if isHead s = true then
        { s with safe := { s.safe with packAckAt := stitches s + 2, packAckPt := s.time.pt, packAckSeq := none
                                       acks := s.safe.acks ++ [⟨some (stitches s + 3), false, true⟩] } }
      else { s with safe := { s.safe with acks := s.safe.acks ++ [⟨some (stitches s + 1), false, false⟩] } }))) ∧
    (∀ v : Word, v &&& 0xFFFF0000 = 0 → inMode s .commission = true → bits v 15 0 = bits (sealGen s) 15 0 →
      s.safe.a.sdi = false → s.safe.b.sdi = false → s.safe.state = .lockout →
      exec (.unlock v) s = .next (settle { s with safe := { s.safe with unlockPend := true } })) ∧
    (inMode s .commission = true → ¬ held →
      exec (.unsealCmd 1) s = .next (settle { s with safe := { s.safe with unsealPend := s.safe.sealed } })) ∧
    (inMode s .commission = true → held → exec (.unsealCmd 1) s = .next (settle { s with
      pgErr := s.pgErr.modify 0x10 (fun e => ⟨5, min (e.cnt + 1) 0xFF, 0x90⟩) })) ∧
    (isHead s = true → exec (.wakeClr 1) s = .next (settle { s with pwr := { s.pwr with wakeOut := false } })) ∧
    (isHead s = true → s.enum.phase = 0 →
      exec (.searchReq 1) s = .next (settle { s with enum := { s.enum with reqPend := true } })) ∧
    exec (.freeze 1) s = .next (settle { s with bob := { s.bob with ctrlPend := s.bob.ctrlPend ++ [true] } }) ∧
    exec (.release 2) s = .next (settle { s with bob := { s.bob with ctrlPend := s.bob.ctrlPend ++ [false] } }) ∧
    (∀ (k : Fin 4) (v : Word), inMode s .commission = true → jobIs s.otp.req 4 = false →
      exec (.keyStage k v) s = .next (settle { s with mirr := { s.mirr with staged := s.mirr.staged.set k.val (some v) } })) ∧
    (∀ (k : Fin 16) (v : Word), (inMode s .run = true ∨ inMode s .factory = true) → 2 * k.val + 1 < cells →
      bits v 15 0 ≠ tmrRead s.bal (2 * k.val) → bits v 31 16 ≠ tmrRead s.bal (2 * k.val + 1) →
      exec (.balTimerWrite k v) s = .next (settle { s with bal := { s.bal with
        tmrPend := (s.bal.tmrPend.set (2 * k.val) (some (bits v 15 0))).set (2 * k.val + 1) (some (bits v 31 16)) } })) ∧
    (∀ (k : Fin 16) (v : Word), (inMode s .run = true ∨ inMode s .factory = true) → 2 * k.val + 1 < cells →
      bits v 15 0 = tmrRead s.bal (2 * k.val) → bits v 31 16 = tmrRead s.bal (2 * k.val + 1) →
      exec (.balTimerWrite k v) s = .next (settle s)) ∧
    (∀ (k : Fin 16) (v : Word), (inMode s .run = true ∨ inMode s .factory = true) → 2 * k.val + 1 < cells →
      bits v 15 0 ≠ tmrRead s.bal (2 * k.val) → bits v 31 16 = tmrRead s.bal (2 * k.val + 1) →
      exec (.balTimerWrite k v) s = .next (settle { s with bal := { s.bal with
        tmrPend := s.bal.tmrPend.set (2 * k.val) (some (bits v 15 0)) } })) ∧
    (∀ (k : Fin 16) (v : Word), (inMode s .run = true ∨ inMode s .factory = true) → 2 * k.val + 1 < cells →
      bits v 15 0 = tmrRead s.bal (2 * k.val) → bits v 31 16 ≠ tmrRead s.bal (2 * k.val + 1) →
      exec (.balTimerWrite k v) s = .next (settle { s with bal := { s.bal with
        tmrPend := s.bal.tmrPend.set (2 * k.val + 1) (some (bits v 31 16)) } })) ∧
    (∀ v : Word, inMode s .factory = true → v.toNat < 16 → exec (.calCmd v) s = .next (settle { s with
      cfgW := cfgSet s.cfgW .calCmd ((cfgGet s.cfgW .calCmd &&& 0xFFFFFFF0) ||| (v &&& 0xF)) })) ∧
    (∀ v : Word, v &&& 0xFFFFFFFC = 0 → exec (.roleCfgWrite v) s = .next (settle { s with
      cfgW := cfgSet s.cfgW .roleCfg ((cfgGet s.cfgW .roleCfg &&& 0xFFFFFFFE) ||| (v &&& 1))
      sys := { s.sys with headEnKept := some (bit v 0) } })) ∧
    (∀ v : Word, v &&& 0xFE00F0F0 = 0 → 280 ≤ bits v 24 16 → bits v 24 16 ≤ 330 → 1 ≤ bits v 11 8 → bits v 11 8 ≤ 10 →
      exec (.kaCfgWrite v) s = .next (settle { s with
        cfgW := cfgSet s.cfgW .kaCfg ((cfgGet s.cfgW .kaCfg &&& 0xFE00F0F0) ||| (v &&& 0x01FF0F0F))
        sys := { s.sys with xtalKept := some (bit v 3) } }))

/-- R249, R250, R264: an accepted request of a foreground unit, or of a trim verification, waits for its boundary; that a verification
is accepted in FACTORY too is the model's choice (log 80). A request of BST outside RUN is refused with WRONG_MODE. R251: so is, in
RUN, one under which a populated cell of its scope would lose both paths: of OW, which holds the neighbours of its groups too, and
of PZT, where the cell's `DIAG.CTT` bit is set; of CTT, where the cell has no result in range from the stitch before or is in XDIS. -/
def Obligations.DiagRequestsAreAccepted : Prop :=
  ∀ (sc : BitVec 3) (s : State), coreRuns s = true → awake s = true →
    s.sys.startDone = true → s.diag.unit = none → s.diag.hostQ = [] → s.diag.reqPend = none →
    let asked (t : Nat) : State := { s with diag := { s.diag with reqPend := some (t, sc.toNat) } }
    let fits : Prop := sc.toNat ≤ 4 ∧ (sc.toNat < 4 → 8 * sc.toNat < ncell s)
    let lost : State := { s with pgErr := s.pgErr.modify 0x0E (fun e => ⟨3, min (e.cnt + 1) 0xFF, 0x24⟩) }
    let cells : List Nat := List.range (min 32 (ncell s))
    let own (n : Nat) : Prop := sc = 4 ∨ n / 8 = sc.toNat
    let near (n : Nat) : Prop := sc = 4 ∨ (8 * sc.toNat ≤ n + 1 ∧ n ≤ 8 * sc.toNat + 8)
    let primary (n : Nat) : Prop := let x := s.meas.cells.getD n {}; x.stale = false ∧ x.oor = false ∧ x.xdis = false
    let noOw : Prop := ∃ n ∈ cells, near n ∧ bit s.diag.ctt n = true
    let noCtt : Prop := ∃ n ∈ cells, own n ∧ ¬ primary n
    let noPzt : Prop := ∃ n ∈ cells, own n ∧ bit s.diag.ctt n = true
    (fits → inMode s .run = false → exec (.reqOw sc) s = .next (settle (asked 1)) ∧
      exec (.reqCtt sc) s = .next (settle (asked 2)) ∧ exec (.reqPzt sc) s = .next (settle (asked 3)) ∧
      exec (.reqBst sc) s = .next (settle lost)) ∧
    (fits → inMode s .run = true → exec (.reqOw sc) s = .next (settle (if noOw then lost else asked 1)) ∧
      exec (.reqCtt sc) s = .next (settle (if noCtt then lost else asked 2)) ∧
      exec (.reqPzt sc) s = .next (settle (if noPzt then lost else asked 3)) ∧
      exec (.reqBst sc) s = .next (settle (asked 4))) ∧
    (sc = 0 → s.diag.tvPend = false → s.diag.tvLeft = none →
      exec (.reqTrimVerify sc) s = .next (settle { s with diag := { s.diag with tvPend := true } }))


/-- R139, R140, R439, R441, R447, R449, R451: the writes that the fault collector acts on at once. A clear through
`FCOL.LAT_x` or through `PG_EVTL` clears the same latched bits, keeps the counters and the first-error record, and a
raised source waits to be latched again at the boundary. -/
def Obligations.CollectorRegistersAct : Prop :=
  ∀ s : State, coreRuns s = true → jobIs s.otp.req 5 = false →
    let c := s.col
    let cleared (m : BitVec 128) : State := { s with col := { c with
      lat := c.lat &&& ~~~ m, latOcc := c.latOcc &&& ~~~ m, relatch := c.relatch ||| (c.lat &&& m &&& c.dyn)
      steps := (List.range 128).map (fun n => if m.getLsbD n then 0 else c.steps.getD n 0)
      eff := (List.range 128).map (fun n =>
        if m.getLsbD n && c.lat.getLsbD n then assigned s.cfg n else c.eff.getD n 0) } }
    (∀ (g : Fin 4) (v : Word), exec (.latchClear (BitVec.ofNat 16 (0x1230 + 4 * g.val)) v) s =
      .next (settle (cleared ((v.setWidth 128) <<< (32 * g.val))))) ∧
    (∀ (v : Word), v &&& 0xFFFFFF80 = 0 → exec (.latchClear 0x0314 v) s =
      .next (settle (cleared ((v.setWidth 128) <<< 64)))) ∧
    (∀ v : Word, v &&& 0xFFFFFF80 = 0x80000000 → srcReserved (bits v 6 0) = false →
      exec (.clrCnt v) s = .next (settle { s with
        cfgW := cfgSet s.cfgW .colSel ((cfgGet s.cfgW .colSel &&& 0xFFFFFF80) ||| (v &&& 0x7F))
        col := { c with cnt := c.cnt.set (bits v 6 0) 0 } })) ∧
    exec (.ferClear 0x80000000) s = .next (settle { s with col := { c with fer := none } }) ∧
    (∀ (r : PackRec) (l : List PackRec), isHead s = true → c.queue = r :: l → r.source < 128 →
      exec (.pevPop (BitVec.ofNat 32 (r.first.toNat * 65536 + r.source))) s = .next (settle { s with
        col := { c with queue := l } })) ∧
    (∀ v : Word, inMode s .factory = true → v &&& 0xFF00FE80 = 0 → (c.injSrc = none ∨ c.injSrc = some (bits v 6 0)) →
      exec (.inject v) s = .next (settle { s with
        cfgW := cfgSet s.cfgW .colInj (v &&& 0x00FF017F), col := { c with injPend := some v } }))

/-- R434 to R437, R441, R449: the collector evaluates a stitch at the boundary that ends it. A source that is raised, and was
not in the stitch before, occurs: its counter goes up, enabled or not. An enabled one latches and takes its effective level, one
escalation step higher where the bit that an occurrence set still stands; it makes a device record, and its level brings the
journal record, the freeze of the bobbin and the trip of both channels; the first occurrence at or above FER_LVL fills the
first-error record, later ones set MORE. R440: a parity error of the copies trips both channels. That a source which only an
injection raised occurs again when it is really raised, and that a queued record waits in a queue of 16, follow R449 and R447. That
the level that a merge of the two copies brought lasts until the latched bit is cleared or the assigned level changes is the model's
reading (log 67). -/
def Obligations.OccurrencesActByTheirLevel : Prop :=
  (∀ (k : Fin 128) (s : State), s.col.cnt.length = 128 → s.col.steps.length = 128 → s.col.order.Nodup →
    let n := k.val
    let c := s.col
    let t := colEval s
    let real (m : Nat) : Bool := !srcReserved m && (c.stand.getLsbD m || c.pulse.getLsbD m)
    let raised (m : Nat) : Bool := real m || (!srcReserved m && c.injSrc == some m)
    let occurs (m : Nat) : Bool := raised m && !(c.dyn.getLsbD m && (c.dynReal.getLsbD m || !real m))
    let steps (m : Nat) : Nat :=
      if srcEscalates m && real m && (c.lat.getLsbD m || (c.relatch.getLsbD m && enabled s.cfg m)) && c.latOcc.getLsbD m then
        c.steps.getD m 0 + 1 else c.steps.getD m 0
    let level (m : Nat) : Nat :=
      let a := assigned s.cfg m
      max (c.effMin.getD m 0) (if srcEscalates m then max a (min (if 96 ≤ m then 2 else 3) (a + steps m)) else a)
    t.col.dyn.getLsbD n = raised n ∧
      t.col.cnt.getD n 0 = (if occurs n then min (c.cnt.getD n 0 + 1) 255 else c.cnt.getD n 0) ∧
      t.col.lat.getLsbD n = (c.lat.getLsbD n || (enabled s.cfg n && (occurs n || c.relatch.getLsbD n))) ∧
      t.col.steps.getD n 0 = (if occurs n && enabled s.cfg n then steps n else c.steps.getD n 0) ∧
      (occurs n = true → enabled s.cfg n = true → t.col.latOcc.getLsbD n = true ∧ t.col.eff.getD n 0 = level n) ∧
      (occurs n = true → enabled s.cfg n = true → level n = 3 → 32 ≤ n ∨ n = 5 → tripped t = true ∧ t.safe.pins = 0 ∧
        t.safe.a.other = true ∧ t.safe.b.other = true) ∧
      ((∀ m : Fin 128, occurs m.val = true → enabled s.cfg m.val = true → level m.val ≠ 3) → t.safe = s.safe) ∧
      { t with col := c, safe := s.safe, jrnl := s.jrnl, bob := s.bob, link := s.link } = s) ∧
  (∀ (k : Fin 128) (s : State), let n := k.val
    s.col.stand ||| s.col.pulse = BitVec.ofNat 128 (2 ^ n) → srcReserved n = false →
    s.col.injSrc = none → s.col.dyn.getLsbD n = false → enabled s.cfg n = true →
    let c := s.col
    let t := colEval s
    let e := t.col.eff.getD n 0
    let cells : Word := match c.cells.find? (fun x => x.1 == n) with | some x => x.2 | none => 0
    let count := min (c.cnt.getD n 0 + 1) 255
    let r : DevRec := { stitch := stitch s - 1, source := n, level := e, cells := cells, cnt := count
                        common := n == 35 && cells == allCells s }
    let ctx := ferOf n cells c.owLow c.ctxs
    (isHead s = false → c.recs.length < 16 → t.col.recs = c.recs ++ [r]) ∧
    (isHead s = true → t.col.openRecs = packTake s.sys.addr r c.openRecs) ∧
    (e < fld s .colCfg 1 0 → t.col.fer = c.fer) ∧
    (fld s .colCfg 1 0 ≤ e → t.col.fer = (match c.fer with
      | none => some { ctx := ctx, source := n, pt := s.time.pt }
      | some f => some { f with more := true })) ∧
    (e = 0 ∨ c.kept.getLsbD n = true → t.jrnl = s.jrnl) ∧
    (1 ≤ e → c.kept.getLsbD n = false → t.jrnl = (jreq 0x01 n (place count 24 ||| place e 0) cells e s).jrnl) ∧
    (e ≤ 1 → t.bob = s.bob) ∧
    (e = 2 → t.bob = if freezeSel s.cfg n then recTrigger 2 n (stitch s - 1) (s.time.ptB - 1000) (postFrames s) s.bob else s.bob)) ∧
  (∀ (j k : Fin 128) (s : State), let n := j.val
    let m := k.val
    n ≠ m → srcReserved n = false → srcReserved m = false →
    s.col.stand ||| s.col.pulse = BitVec.ofNat 128 (2 ^ n + 2 ^ m) → s.col.order = [n, m] → s.col.injSrc = none →
    s.col.dyn = 0 → enabled s.cfg n = true → enabled s.cfg m = true → s.col.fer = none → fld s .colCfg 1 0 = 0 →
    ∃ f, (colEval s).col.fer = some f ∧ f.source = n ∧ f.more = true) ∧
  (∀ (i : BoundaryIn) (k : Fin 128) (s : State), let n := k.val
    hwslOn s = true → coreRuns s = true → s.time.fresh = false → s.dev.inbox = [] →
    s.dev.bcasts = [] → i.copyB = none → s.safe.misses < 15 → thermalDue s = false → srcReserved n = false →
    s.col.pulse.getLsbD n = true → s.col.dyn.getLsbD n = false → s.col.cnt.length = 128 → s.col.order.Nodup →
    ∃ t, exec (.stitchBoundary i) s = .next t ∧ t.col.dyn.getLsbD n = true ∧
      t.col.cnt.getD n 0 = min (s.col.cnt.getD n 0 + 1) 255 ∧
      (enabled s.cfgW n = false → s.col.lat.getLsbD n = false → t.col.lat.getLsbD n = false) ∧
      (enabled s.cfgW n = true → t.col.lat.getLsbD n = true ∧ t.col.latOcc.getLsbD n = true) ∧
      (enabled s.cfgW n = true → assigned s.cfgW n = 3 → 32 ≤ n ∨ n = 5 →
        tripped t = true ∧ t.safe.pins = 0 ∧ t.safe.a.other = true ∧ t.safe.b.other = true)) ∧
  (∀ (i : BoundaryIn) (x : CopyB) (s : State), hwslOn s = true → coreRuns s = true → s.time.fresh = false → s.dev.inbox = [] →
    s.safe.misses < 15 → thermalDue s = false → s.sys.mode.isSome = true → i.copyB = some x → x.parityErr = true →
    ∃ t, exec (.stitchBoundary i) s = .next t ∧ tripped t = true ∧ t.safe.pins = 0 ∧ t.safe.a.other = true ∧
      t.safe.b.other = true ∧ t.col.integ = true)

/-- R421: the first row of the table that applies judges `SAFE.SEAL_CONFIRM`; the rule judges the values written, and an
accepted unseal and an accepted change of mode count (R539).
Programming starts at the boundary of the accepted write. -/
def Obligations.SealConfirmFollowsItsTable : Prop :=
  (∀ (q : OtpJob) (s : State), s.otp.req = some q → q.block = 3 → s.thrm.otpInh = false → s.time.fresh = true →
    q.start ≤ stitches s →
    ∃ t, exec .otpProgramStart s = .next t ∧ t.otp.req = none ∧ (t.otp.job.map OtpJob.block) = some 3 ∧ t.otp.result = 0) ∧
  ∀ (v : Word) (s : State), coreRuns s = true →
    let refused (code : Nat) : State :=
      { s with pgErr := s.pgErr.modify 0x10 (fun e => ⟨code, min (e.cnt + 1) 0xFF, 0x84⟩) }
    let comes (m : Mode) : Prop := s.sys.modeNext = some m ∨ (s.sys.modeNext = none ∧ inMode s m = true)
    let busy : Prop := s.otp.req.isSome = true ∨ s.otp.job.isSome = true ∨ s.thrm.otpInh = true
    let held : Prop := s.safe.sealed = true ∧ s.safe.unsealPend = false ∧ v = sealGen s
    exec (.sealConfirm v) s = .next (settle (
      if ¬ comes .commission then refused 3
      else if busy then refused 5
      else if v ≠ sealOf s.cfgW then refused 0xA
      else if held then { s with safe := { s.safe with sres := 2 } }
      else if gensLeft s.otp.usedS = 0 then refused 0xA
      else { s with safe := { s.safe with sres := 1 }, otp := { s.otp with req := some { block := 3, start := stitches s + 1 } } }))

/-- R424: the first row of the table that applies judges `SAFE.PACK_CONFIRM`. The content that the generation in force
already holds is `packContent`: the staged key, the map check word, the address, the pack seal. An accepted change of mode
counts (R539). R509: the first row of the table that applies judges `OTP.CMD`, after its reserved bits (R536); an accepted
change of mode counts (R539). Programming starts at the boundary of the accepted write. That TRIM and IDENT with no
generation left are refused with SAFE_LOCK is the model's choice, no row of the table (log 29). -/
def Obligations.PackConfirmAndOtpCommandFollowTheirTables : Prop :=
  (∀ (v : Word) (s : State), coreRuns s = true →
    let refused (code : Nat) : State :=
      { s with pgErr := s.pgErr.modify 0x10 (fun e => ⟨code, min (e.cnt + 1) 0xFF, 0xA0⟩) }
    let comes (m : Mode) : Prop := s.sys.modeNext = some m ∨ (s.sys.modeNext = none ∧ inMode s m = true)
    let busy : Prop := s.safe.sealed = false ∨ s.safe.unsealPend = true ∨ s.otp.req.isSome = true ∨ s.otp.job.isSome = true ∨ s.thrm.otpInh = true
    let held : Bool := match s.otp.genP, stagedKey s with
      | some g, some k => ((genWords s.otp 4 g).drop 1).take 14 ==
        k ++ [cfgGet s.cfgW .packMap, BitVec.ofNat 32 s.sys.addr.toNat, v, BitVec.ofNat 32 (kcvOf k).toNat, 0, 0, 0, 0, 0, 0]
      | _, _ => false
    exec (.packConfirm v) s = .next (settle (
      if ¬ comes .commission then refused 3
      else if busy then refused 5
      else if stagedKey s = none then refused 0xA
      else if isHead s = true ∧ (cfgGet s.cfgW .packMap ≠ s.enum.mapChk ∨ v ≠ s.safe.pseal) then refused 0xA
      else if isHead s = false ∧ ¬ (s.safe.psealOk = true ∧ v = s.safe.pseal) then refused 0xA
      else if held = true then { s with safe := { s.safe with pres := 2 } }
      else if gensLeft s.otp.usedP = 0 then refused 0xA
      else { s with safe := { s.safe with pres := 1 }, otp := { s.otp with req := some { block := 4, words := [v], start := stitches s + 1 } } }))) ∧
  ((∀ (q : OtpJob) (s : State), s.otp.req = some q → s.thrm.otpInh = false → s.pwr.buckFault = false → s.time.fresh = true →
    q.start ≤ stitches s → 3 ≤ q.block ∨ (inMode s .factory = true ∧ s.sys.modeDue = false) →
    ∃ t, exec .otpProgramStart s = .next t ∧ t.otp.req = none ∧ (t.otp.job.map OtpJob.block) = some q.block ∧
      t.otp.result = 0) ∧
  ∀ (v : Word) (s : State), coreRuns s = true →
    let b := v.toNat
    let comes (m : Mode) : Prop := s.sys.modeNext = some m ∨ (s.sys.modeNext = none ∧ inMode s m = true)
    let refused (code : Nat) : State :=
      { s with pgErr := s.pgErr.modify 0x18 (fun e => ⟨code, min (e.cnt + 1) 0xFF, 0x38⟩) }
    let held : Bool := match s.otp.genC with
      | some g => setWords configRegs s.cfgW == ((genWords s.otp 5 g).drop 1).take 32
      | none => false
    exec (.otpCmd v) s = .next (settle (
      if 8 ≤ b ∨ b = 0 ∨ b = 6 ∨ b = 7 then refused 1
      else if (b = 1 ∨ b = 2) ∧ ¬ comes .factory then refused 3
      else if b = 3 ∨ b = 4 then refused 0xA
      else if b = 5 ∧ (comes .run ∨ comes .sleep ∨ comes .ship) then refused 3
      else if s.otp.req.isSome = true ∨ s.otp.job.isSome = true ∨ s.thrm.otpInh = true ∨ s.pwr.buckFault = true then
        refused 5
      else if b = 5 ∧ held = true then { s with otp := { s.otp with result := 2 } }
      else if b = 5 ∧ gensLeft s.otp.usedC = 0 then refused 0xA
      else if b = 1 ∧ genUsed s.otp 1 1 = true then refused 0xA
      else if b = 2 ∧ genUsed s.otp 2 0 = true then refused 0xA
      else { s with otp := { s.otp with req := some { block := b, start := stitches s + 1 } } })))


/-! ### Modes, starts and holds -/

/-- R79, R80, R81, R96, R537: a mode request with zero reserved bits on a running core. Codes 5 and 6 are refused with
BAD_VALUE; a broadcast RUN, SLEEP or SHIP changes nothing at address 63 (R96); any other is refused with BUSY while an accepted
change or an OTP request waits; RUN, SLEEP and SHIP by unicast with WRONG_MODE; the transitions of the table are
accepted, and wait, FACTORY with the factory lock open; the mode in force changes nothing; a transition that the table does
not list is refused with WRONG_MODE. R82: RUN asks for a valid SAFETY generation, an address that is not 63, NORMAL or DEGRADED and
START_DONE, at the head on every device of the safety set, whose map and seal match too; where only START_DONE fails the answer is
BUSY, else SAFE_LOCK. The model's readings: a member judges only what is its own (log 28), and one outside the safety set answers
SAFE_LOCK (log 55). -/
def Obligations.ModeRequestsFollowTheTable : Prop :=
  ∀ (v : Word) (b : Bool) (s : State), coreRuns s = true → v.toNat < 8 →
    let refused (code : Nat) : State :=
      { s with pgErr := s.pgErr.modify 0 (fun e => ⟨code, min (e.cnt + 1) 0xFF, 0x24⟩) }
    let accepted (m : Mode) : State :=
      { s with sys := { s.sys with modeNext := some m, modeDue := b && s.time.fresh } }
    let idle : Prop := s.sys.modeNext = none ∧ s.otp.req = none ∧ s.otp.job = none
    let members : List Nat := (List.range 63).filter (fun a => decide (2 ≤ a) && s.enum.set.getLsbD a)
    let mem (a : Nat) : Member := s.link.members.getD a {}
    let copies (a : Nat) : List Copy := (mem a).wired.toList ++ (mem a).radio.toList
    let fit : Prop := s.otp.genS ≠ none ∧ s.sys.addr ≠ 63 ∧ s.safe.state ≠ .tripped ∧ s.safe.state ≠ .lockout
    let fitAll : Prop := s.enum.inForce = true ∧ s.otp.genP ≠ none ∧ s.enum.mapChk = packWord s 5 ∧
      (∀ e ∈ s.enum.map, s.enum.set.getLsbD e.addr.toNat = true) ∧ s.safe.psealOk = true ∧ s.safe.pseal = packWord s 7 ∧
      (∀ a ∈ members, ∀ x ∈ copies a, x.safety ≠ .tripped ∧ x.safety ≠ .lockout)
    let belongs : Prop := s.otp.genP ≠ none ∧ commAddr s = s.sys.addr ∧
      s.link.thrd.any (fun m => threadWord m 2 == packWord s 5) = true
    let started : Prop := s.sys.startDone = true ∧
      (isHead s = true → ∀ a ∈ members, (mem a).thread.any (fun m => m.getLsbD 22) = true)
    let run : Nat := if fit ∧ (if isHead s = true then fitAll else belongs) then (if started then 0 else 5) else 0xA
    (v = 5 ∨ v = 6 → exec (.modeReq v b) s = .next (settle (refused 1))) ∧
    (b = true → s.sys.addr = 63 → (v = 0 ∨ v = 1 ∨ v = 4) → exec (.modeReq v b) s = .next (settle s)) ∧
    (v ≠ 5 → v ≠ 6 → ¬ (b = true ∧ s.sys.addr = 63 ∧ (v = 0 ∨ v = 1 ∨ v = 4)) → ¬ idle →
      exec (.modeReq v b) s = .next (settle (refused 5))) ∧
    (idle → b = false → (v = 0 ∨ v = 1 ∨ v = 4) → exec (.modeReq v b) s = .next (settle (refused 3))) ∧
    (idle → inMode s .standby = true → v = 3 → exec (.modeReq v b) s = .next (settle (accepted .commission))) ∧
    (idle → inMode s .commission = true → v = 2 → exec (.modeReq v b) s = .next (settle (
      if s.otp.genS.isSome = true then accepted .standby else refused 0xA))) ∧
    (idle → b = true → s.sys.addr ≠ 63 → inMode s .standby = true → v = 4 → exec (.modeReq v b) s = .next (settle (
      if run = 0 then accepted .run else refused run))) ∧
    (idle → b = true → inMode s .run = true → v = 2 → exec (.modeReq v b) s = .next (settle (accepted .standby))) ∧
    (idle → b = true → s.sys.addr ≠ 63 → inMode s .standby = true → v = 1 → exec (.modeReq v b) s = .next (settle (
      if s.sys.wakePend = false then accepted .sleep else refused 5))) ∧
    (idle → b = true → s.sys.addr ≠ 63 → (inMode s .standby = true ∨ inMode s .commission = true) → v = 0 →
      exec (.modeReq v b) s = .next (settle (accepted .ship))) ∧
    (idle → inMode s .factory = false → v = 7 → exec (.modeReq v b) s = .next (settle (
      if s.sys.lockOpen = true then accepted .factory else refused 3))) ∧
    (idle → inMode s .factory = true → b = false → v = 2 → exec (.modeReq v b) s = .next (settle (accepted .standby))) ∧
    (idle → s.sys.lockOpen = true → inMode s .factory = true → v = 7 → exec (.modeReq v b) s = .next (settle s)) ∧
    (idle → (v = 2 ∧ inMode s .standby = true ∨ v = 3 ∧ inMode s .commission = true ∨
        v = 4 ∧ b = true ∧ s.sys.addr ≠ 63 ∧ inMode s .run = true) →
      exec (.modeReq v b) s = .next (settle s)) ∧
    (idle → ¬ (b = true ∧ s.sys.addr = 63 ∧ (v = 0 ∨ v = 1 ∨ v = 4)) →
      (inMode s .run = true ∧ (v = 0 ∨ v = 1 ∨ v = 3 ∨ (v = 2 ∧ b = false)) ∨
       inMode s .commission = true ∧ (v = 1 ∨ v = 4) ∨
       inMode s .factory = true ∧ (v = 0 ∨ v = 1 ∨ v = 3 ∨ v = 4 ∨ (v = 2 ∧ b = true) ∨ (v = 7 ∧ s.sys.lockOpen = false))) →
      exec (.modeReq v b) s = .next (settle (refused 3)))

/-- R79, R84, R220, R86, R102, R420: an accepted change at its boundary. A change out of RUN drives the four pins low, opens
the switches and clears the balance timers; entry to SLEEP or SHIP stops the core, ends DEGRADED and drives the test-pulse
outputs low; STANDBY out of FACTORY runs the start-up path from step 4 with START_CAUSE 6. FACTORY is entered only with the
lock open: a request that finds it closed lapses (R54 read so, log 59). A device that leaves COMMISSION unsealed takes its
sealed fields from the generation in force and seals them. R83, R79: the head in RUN tells a member that meets its
conditions; a member in STANDBY that is told, and meets those it judges itself, awaits RUN. The factory lock closes, which
in FACTORY runs the start-up path (START_CAUSE 6); outside it an accepted FACTORY request stays until its boundary, where it
lapses (the model's choice, log 59). R111: in SLEEP and SHIP the HOST page holds its reset values. That a thermal shutdown's steps
let no change end the running core before the held reset is the model's choice (log 82), and so is the flag that shows a member's
admission. -/
def Obligations.ModeChangesTakeEffectAndMembersAreAdmitted : Prop :=
  (∀ (m : Mode) (s : State), coreRuns s = true → s.sys.modeNext = some m → s.sys.modeDue = true →
    ∃ t, exec .modeChange s = .next t ∧
      ((m = .commission ∨ m = .run ∨ (m = .factory ∧ s.sys.lockOpen = true) ∨ (m = .standby ∧ inMode s .factory = false)) →
        t.sys.mode = some m ∧ t.sys.modeNext = none ∧ t.sys.phase = .coreOn ∧
        (m ≠ .run → t.safe.pins = 0) ∧
        (inMode s .run = true → t.bal.sw = 0 ∧ t.bal.tmr = List.replicate 32 0)) ∧
      (s.thrm.sdWait = true → (m = .sleep ∨ m = .ship ∨ (m = .standby ∧ inMode s .factory = true)) → t = settle s) ∧
      (s.thrm.sdWait = false → (m = .sleep ∨ m = .ship) →
        t.host = {} ∧ cfgGet t.cfg .hostCfg = 1 ∧ cfgGet t.cfgW .hostCfg = 1 ∧ t.sys.phase = .lowPower ∧ t.sys.mode = some m ∧ t.sys.modeNext = none ∧ t.safe.pins = 0 ∧ t.bal.sw = 0 ∧
        t.sio.tpa = false ∧ t.sio.tpb = false ∧ t.otp.job = none ∧
        t.safe.state = (if s.safe.state = .degraded then .normal else s.safe.state)) ∧
      (s.thrm.sdWait = false → m = .standby → inMode s .factory = true →
        t.sys.phase = .filled ∧ t.sys.startCause = 6 ∧ t.sys.mode = none ∧ t.safe.pins = 0 ∧
        t.cfgW = t.cfg ∧ t.otp = otpJudge (otpKept (otpCut s).otp) ∧ t.otp.job = none ∧ t.otp.req = none) ∧
      (m = .factory → s.sys.lockOpen = false →
        t = settle { s with sys := { s.sys with modeNext := none, modeDue := false } }) ∧
      (∀ g, inMode s .commission = true → s.safe.sealed = false → s.otp.genS = some g →
        (m = .standby ∨ (m = .ship ∧ s.thrm.sdWait = false) ∨ (m = .factory ∧ s.sys.lockOpen = true)) →
        let held := (((genWords s.otp 3 g).drop 1).zip sealRegs).map (fun e => e.1 &&& e.2.2)
        t.safe.sealed = true ∧ setWords sealRegs t.cfg = held ∧ setWords sealRegs t.cfgW = held ∧
        t.safe.sealNow = sealOf t.cfg ∧
        (∀ r : CReg, (∀ e ∈ sealRegs, e.1 ≠ r) → r ≠ .hostCfg ∨ m ≠ .ship → cfgGet t.cfgW r = cfgGet s.cfgW r ∧ cfgGet t.cfg r = cfgGet s.cfg r)) ∧
      (inMode s .commission = false ∨ s.safe.sealed = true → m ≠ .standby ∨ inMode s .factory = false →
        t.safe.sealed = s.safe.sealed ∧ (m ≠ .sleep → m ≠ .ship → t.cfg = s.cfg ∧ t.cfgW = s.cfgW) ∧
        (∀ r : CReg, r ≠ .hostCfg → cfgGet t.cfg r = cfgGet s.cfg r ∧ cfgGet t.cfgW r = cfgGet s.cfgW r))) ∧
  (∀ s : State, coreRuns s = true →
    (∀ (a : BitVec 6) (m : BitVec 128), isHead s = true → inMode s .run = true → 2 ≤ a.toNat →
      s.enum.set.getLsbD a.toNat = true → mapOk s = true → psealMatch s = true →
      (copiesOf s a.toNat).any copyTripped = false → (member s a.toNat).thread = some m → m.getLsbD 22 = true →
      bits (threadWord m 3) 31 29 = 2 →
      exec (.memberRunAdmit a) s = .next (settle { s with link := { s.link with admitTx := some a } })) ∧
    (isHead s = false → inMode s .standby = true → s.sys.modeNext = none → runOwn s = 0 →
      exec (.memberRunAdmit s.sys.addr) s = .next (settle { s with sys := { s.sys with modeNext := some .run } })) ∧
    (inMode s .factory = false →
      exec .factoryLockClose s = .next (settle { s with sys := { s.sys with lockOpen := false } })) ∧
    (inMode s .factory = true → s.thrm.sdWait = true →
      exec .factoryLockClose s = .next (settle { s with sys := { s.sys with lockOpen := false } })) ∧
    (inMode s .factory = true → s.thrm.sdWait = false → ∃ t, exec .factoryLockClose s = .next t ∧ t.sys.lockOpen = false ∧
      t.sys.phase = .filled ∧ t.sys.startCause = 6 ∧ t.safe.pins = 0))


/-- R102, R86, R98, R220, R491, R106, R292, R325, R481: what begins the start-up path from a hold or from low power, with
its START_CAUSE. A start has no mode in force, all pins low, balance timers cleared and switches open; pack time, the
OTP array, the bobbin's bytes, and TRIPPED or LOCKOUT are kept. Where VREG is present at the release of RST_N, step 4
runs at once; a release in a start that RST_N held records the hold, and one in a hand-over is noted for the hand-back, which
records it. R499: the hand-back sets `KA.BAKTIME` from the time on VBAK. The model's readings: WAKE_OUT rises at a release in
step 1, and a rail fault met in the held reset of thermal shutdown holds its start until the rail is back (log 60); START_CAUSE
4 and the wake after a shutdown that a breath check decided (log 71). -/
def Obligations.StartsRunTheStartPath : Prop :=
  ∀ s : State,
    let begunIn (ph : Phase) (cause : Nat) (t : State) : Prop :=
      t.sys.phase = ph ∧ t.sys.startCause = cause ∧ t.sys.mode = none ∧ t.safe.pins = 0 ∧
      t.bal.tmr = List.replicate 32 0 ∧ t.bal.sw = 0 ∧ t.time.pt = s.time.pt ∧ t.otp = otpKept s.otp ∧
      { t.bob with refresh := s.bob.refresh } = s.bob ∧ (s.pwr.src ≠ 1 → t.bob = s.bob) ∧
      t.jrnl.slots = s.jrnl.slots ∧ t.pending = s.pending ∧
      t.safe.state = (if s.safe.state = .degraded then .normal else s.safe.state)
    let begun := begunIn .softStart
    let recorded (ms : Word) (t : State) : Prop := ∃ r, t.jrnl.mand.getLast? = some r ∧ r.code = 5 ∧ r.data0 = ms ∧
      (s.pwr.src ≠ 1 → t.jrnl.mand = s.jrnl.mand ++ [r])
    let asleepNow : Prop := s.sys.phase = .lowPower ∧ s.sys.mode = some .sleep
    (s.sys.phase = .unpowered → ∃ t, exec .stackPowerUp s = .next t ∧ begun 0 t) ∧
    (∀ ms, s.sys.phase = .thermalHeld → 100 ≤ s.thrm.cool → s.pwr.railOut = true → ∃ r,
      exec (.thermalRestart ms) s = .next (settle { s with
        sys := { s.sys with phase := .railHeld }, jrnl := { s.jrnl with mand := s.jrnl.mand ++ [r] } }) ∧
      r.code = 3 ∧ r.data0 = ms) ∧
    (∀ ms, s.sys.phase = .thermalHeld → 100 ≤ s.thrm.cool → s.pwr.railOut = false → ∃ t r, exec (.thermalRestart ms) s = .next t ∧
      begun (if s.pwr.breathWake then 4 else 2) t ∧ t.pwr.rail = s.pwr.rail ∧
      (s.pwr.breathWake = true → t.sys.wake = s.sys.wake ||| 8 ∧ t.link.toneTx = !s.sys.rstLow) ∧
      t.jrnl.mand.getLast? = some r ∧ (s.pwr.src ≠ 1 → t.jrnl.mand = s.jrnl.mand ++ [r]) ∧ r.code = 3 ∧ r.data0 = ms) ∧
    (s.sys.phase = .railHeld → ∃ t, exec .railFaultRecover s = .next t ∧ begun 0 t ∧ t.pwr.rail = s.pwr.rail ∧
      (s.pwr.breathWake = true → t.link.toneTx = !s.sys.rstLow ∧ t.link.toneUntil = s.time.pt + 10000)) ∧
    (s.sys.phase = .thermalHeld → exec .railFaultRecover s = .next (settle { s with pwr := { s.pwr with railOut := false } })) ∧
    (s.sys.phase = .handedOver → s.pwr.src ≠ 0 → ∃ t rs, exec .handBack s = .next t ∧
      begunIn (if s.sys.rstLow then .resetHeld else .softStart) (if s.sys.rstAfter then 1 else 0) t ∧ t.pwr.src = 0 ∧
      t.pwr.handback = min (s.pwr.handback + 1) 0xFFFF ∧ t.jrnl.mand = s.jrnl.mand ++ rs ∧
      rs.map (fun r => (r.code, r.data0)) = s.sys.rstMs.map (fun m => (5, m)) ∧ t.sys.rstMs = [] ∧
      t.sys.holdMs = s.sys.rstMs.getLast?.getD s.sys.holdMs ∧
      t.pwr.bakTime = match s.pwr.bakSum with
        | some n =>
          let spent : Nat := match s.pwr.bakFrom with | some b => (s.time.pt - b).toNat | none => 0
          BitVec.ofNat 32 (min ((n + spent) / 1000000) 0xFFFFFFFF)
        | none => s.pwr.bakTime) ∧
    (∀ ms, s.sys.phase = .lowPower → s.sys.rstLow = true → ∃ t, exec (.rstRelease ms) s = .next t ∧ begun 5 t ∧
      t.sys.wake = s.sys.wake ||| 32 ∧ (s.pwr.src ≠ 1 → t.jrnl.mand = s.jrnl.mand)) ∧
    (∀ ms, s.sys.phase = .resetHeld → s.sys.rstLow = true → s.sys.vregOk = false →
      ∃ t, exec (.rstRelease ms) s = .next t ∧ begun 1 t ∧ t.sys.holdMs = ms ∧ t.sys.rstLow = false ∧ recorded ms t) ∧
    (∀ ms, s.sys.phase = .resetHeld → s.sys.rstLow = true → s.sys.vregOk = true →
      ∃ t, exec (.rstRelease ms) s = .next t ∧ t.sys.phase = .filled ∧ t.sys.startCause = 1 ∧ t.sys.mode = none ∧
        t.safe.pins = 0 ∧ t.otp = otpJudge (otpKept s.otp) ∧ t.cfgW = t.cfg ∧ t.sys.holdMs = ms ∧ t.sys.rstLow = false ∧
        t.time.pt = s.time.pt ∧ recorded ms t) ∧
    (∀ ms, s.sys.phase = .softStart → s.sys.rstLow = true →
      ∃ t, exec (.rstRelease ms) s = .next t ∧ t.sys.startCause = s.sys.startCause ∧ t.sys.holdMs = ms ∧
        t.sys.rstLow = false ∧ t.sys.phase = (if s.sys.vregOk then .filled else .softStart) ∧ recorded ms t ∧
        t.pwr.wakeOut = headEn s) ∧
    (∀ ms, s.sys.phase = .handedOver → s.sys.rstLow = true →
      exec (.rstRelease ms) s = .next (settle { s with sys := { s.sys with
        rstLow := false, rstAfter := true, rstMs := s.sys.rstMs ++ [ms] } })) ∧
    (∀ ms, s.sys.rstLow = false → exec (.rstRelease ms) s = .next (settle s)) ∧
    (∀ us, asleepNow → isHead s = true → 100 ≤ us → ∃ t, exec (.csnWake us) s = .next t ∧ begun 4 t ∧
      t.sys.wake = s.sys.wake ||| 16 ∧ t.link.toneTx = !s.sys.rstLow) ∧
    (∀ p, s.sys.phase = .lowPower → (s.sys.mode = some .sleep ∨ s.sys.mode = some .ship) →
      s.link.toneUntil.toNat ≤ s.time.pt.toNat → ∃ t, exec (.wakeToneReceive p) s = .next t ∧
        begun (if s.sys.mode = some .sleep then 4 else 5) t ∧ t.link.toneTx = !s.sys.rstLow ∧
        t.sys.wake = s.sys.wake ||| (match p with | .l => 1 | .u => 2)) ∧
    (∀ us f, asleepNow → s.mirr.sniff = true → us.toNat ≤ 250 → s.otp.genP.isSome = true → wakeFrameOk f s = true →
      ∃ t, exec (.wakeFrameReceive us f) s = .next t ∧ begun 4 t ∧ t.sys.wake = s.sys.wake ||| 4 ∧
        t.mirr.lastWake = BitVec.ofNat 64 (bytesNat ((f.drop 2).take 8)))

/-- R105, R461, R490, R481, R290, R97, R503: what holds everything outside the keep-alive domain in reset. The pins and the
test-pulse outputs are low, the bobbin is frozen with its bytes kept, programming is cut short, pack time and TRIPPED or
LOCKOUT are kept; with retention enabled and unbroken, the bobbin of a running core goes to self-refresh. R513: the record
THERMAL_SD has the pack time and T_D of the boundary that decided. The model's readings (log 60): WAKE_OUT is low while RST_N
holds the part with VREG present, a rail fault in the held reset of thermal shutdown waits there, and every other hold ends a
breath check's wake. -/
def Obligations.HoldsKeepTheKeepAliveDomain : Prop :=
  ∀ s : State,
    let held1 (ph : Phase) (t : State) : Prop :=
      t.sys.phase = ph ∧ t.sys.mode = none ∧ t.safe.pins = 0 ∧ t.sio.tpa = false ∧ t.sio.tpb = false ∧
      t.bob.st = 3 ∧ t.bob.mem = s.bob.mem ∧ t.otp.job = none ∧ t.otp.req = none ∧ t.time.pt = s.time.pt ∧
      t.bal.tmr = List.replicate 32 0 ∧ (ph ≠ .thermalHeld → t.pwr.breathWake = false)
    let held (ph : Phase) (t : State) : Prop := held1 ph t ∧ t.jrnl.slots = s.jrnl.slots ∧
      t.safe.state = (if s.safe.state = .degraded then .normal else s.safe.state)
    let up : Prop := s.sys.phase = .coreOn ∨ s.sys.phase = .coreRestart ∨ s.sys.phase = .filled
    let retained : Bool := fbit s .kaCfg 0 && s.pwr.retOk
    (∀ lowNs taken, rstAccepts lowNs taken = true → s.sys.rstLow = false →
      (up ∨ s.sys.phase = .softStart ∨ (s.sys.phase = .lowPower ∧ s.sys.mode ≠ some .ship)) →
      ∃ t, exec (.rstLow lowNs taken) s = .next t ∧ held .resetHeld t ∧ t.sys.rstLow = true ∧
        t.link.toneTx = false ∧ t.mirr.wakeTx = false ∧ t.pwr.wakeOut = false ∧
        (s.sys.phase = .coreOn → t.bob.refresh = retained)) ∧
    (∀ lowNs taken, rstAccepts lowNs taken = false → exec (.rstLow lowNs taken) s = .next (settle s)) ∧
    (s.sys.phase ≠ .unpowered → s.sys.phase ≠ .handedOver → s.sys.mode ≠ some .ship →
      ∃ t, exec .stackPowerDown s = .next t ∧ held .unpowered t) ∧
    (∀ k : Fin 3, (up ∨ s.sys.phase = .softStart ∨ s.sys.phase = .resetHeld ∨
        (s.sys.phase = .lowPower ∧ s.sys.mode ≠ some .ship)) → s.sys.mode ≠ some .ship →
      ∃ t, exec (.railFault k) s = .next t ∧ held .railHeld t ∧ t.pwr.rail = BitVec.ofNat 3 (2 ^ k.val)) ∧
    (∀ k : Fin 3, (s.sys.phase = .railHeld ∨ s.sys.phase = .thermalHeld) →
      exec (.railFault k) s = .next (settle { s with pwr := { s.pwr with
        rail := s.pwr.rail ||| BitVec.ofNat 3 (2 ^ k.val)
        railOut := s.pwr.railOut || s.sys.phase == .thermalHeld } })) ∧
    (s.sys.mode ≠ some .ship → s.sys.phase ≠ .handedOver → s.pwr.src = 0 →
      ∃ t, exec .handOver s = .next t ∧ held .handedOver t ∧ t.pwr.lostPt = s.time.pt ∧
        t.pwr.src = (if bakUsable s then 1 else 2) ∧ t.pwr.handover = min (s.pwr.handover + 1) 0xFFFF) ∧
    (s.thrm.sdWait = true → ∃ t r n, exec .thermalSdRecord s = .next t ∧ held1 .thermalHeld t ∧
      t.thrm.sdWait = false ∧
      t.safe.state = (if s.safe.state = .degraded then .normal else s.safe.state) ∧ r.code = 2 ∧
      r.pt = s.thrm.sdPt ∧ r.td = s.thrm.sdTd ∧ t.pwr.rail = 0 ∧
      (s.pwr.src ≠ 2 → t.jrnl.mand = [] ∧ (n % 512, jrnlWords (BitVec.ofNat 32 n) r) ∈ t.jrnl.slots) ∧
      (s.pwr.src = 2 → s.jrnl.busy ≠ some true → t.jrnl.mand.getLast? = some r))

/-- R97 steps 4 to 7, R99, R466, R102, R36, R100, R101: the steps of a start. R22: a core restart leaves the slots of its
stitch as they come. R491, R499: VREG qualified under a hold ends the time on VBAK. A core restart ends a ramp (log 19) and a
trim verification (log 61): the model's readings. -/
def Obligations.StartStepsFollowThePath : Prop :=
  ∀ s : State,
    (s.sys.phase = .softStart → s.sys.rstLow = false → ∃ t, exec .vregQualified s = .next t ∧ t.sys.phase = .filled ∧
      t.otp = otpJudge s.otp ∧ t.cal = { trimSelect t.otp with result := s.cal.result, tvSt := s.cal.tvSt } ∧ t.cfgW = t.cfg ∧
      t.cfg = bootCfg t.otp s.sys.headEnKept s.sys.xtalKept ∧ t.safe.sealed = t.otp.genS.isSome ∧
      t.sys.role = (if bit (cfgGet t.cfg .roleCfg) 0 then .head else .member) ∧
      t.sys.addr = (if bit (cfgGet t.cfg .roleCfg) 0 then 1 else 63) ∧ t.sio.tpa = true ∧ t.sio.tpb = true) ∧
    ((s.sys.phase = .softStart ∧ s.sys.rstLow = true) ∨ s.sys.phase = .resetHeld →
      let spent : Nat := match s.pwr.src, s.pwr.bakFrom with | 0, _ => 0 | _, some b => (s.time.pt - b).toNat | _, none => 0
      exec .vregQualified s = .next (settle { s with
        sys := { s.sys with vregOk := true }
        pwr := { s.pwr with src := 0, bakSum := none, bakFrom := none
                            bakTime := match s.pwr.bakSum with
                              | some n => BitVec.ofNat 32 (min ((n + spent) / 1000000) 0xFFFFFFFF)
                              | none => s.pwr.bakTime } })) ∧
    (s.sys.phase = .filled → ∃ t, exec .coreRelease s = .next t ∧ t.sys.phase = .coreOn ∧ t.sys.mode = none ∧
      t.safe.pins = 0 ∧ t.sys.listen = isHead s ∧ t.sys.recKept = (s.bob.refresh && s.pwr.retOk) ∧
      t.bob.mem = (if s.bob.refresh && s.pwr.retOk then s.bob.mem else []) ∧ t.cfg = s.cfg ∧ t.otp.mem = s.otp.mem) ∧
    (s.sys.phase = .coreRestart → ∃ t, exec .coreRelease s = .next t ∧ t.sys.phase = .coreOn ∧
      t.sys.mode = s.sys.modeKept ∧ t.sys.startCause = 3 ∧ t.safe.state = s.safe.state ∧ t.cal.ofs = s.cal.ofs ∧
      t.cal.gain = s.cal.gain ∧ t.cal.cOfs = s.cal.cOfs ∧ t.cal.cGain = s.cal.cGain ∧ t.cal.refA = s.cal.refA ∧
      t.cal.refB = s.cal.refB ∧ t.cal.ramp = false ∧ t.diag.tvLeft = none ∧
      (isHead s = true → t.enum.map = [] ∧ t.mirr.session = 0) ∧
      t.bob = s.bob ∧ t.bal = s.bal ∧ t.cfg = s.cfg ∧ t.safe.misses = 0 ∧ t.time.fresh = s.time.fresh ∧
      t.time.slot = s.time.slot) ∧
    (coreRuns s = true → isHead s = true → s.sys.listen = true →
      s.sys.listenFrom.toNat + 5000 + 1000 * (s.otp.uid.toNat % 16) ≤ s.time.pt.toNat → exec .headListenEnd s = .next (settle { s with
      sys := { s.sys with listen := false, sendDue := 1 } })) ∧
    (coreRuns s = true → s.time.fresh = false → s.sys.passRun = true → s.sys.rampDone = true → s.sys.owDone = true →
      exec .startPassComplete s = .next (settle { s with sys := { s.sys with startDone := true, passRun := false } })) ∧
    (coreRuns s = true → 16 ≤ s.safe.misses → exec .coreReset s = .next (settle { s with
      sys := { s.sys with phase := .coreRestart, modeKept := s.sys.mode }, col := colRaise 1 0 s.col }))

/-- R493, R494, R371: the part asleep. A breath check without a violation counts and sleeps on; a violation of a cell or of a
thermistor wakes the part with its kind and index; a die at its limit goes to thermal shutdown, and the wake follows it. The
sniff opens the receiver at the next multiple of 1 048 576 µs. The model's readings: both commands move pack time to their
next raster instant (log 18), and a check's thermal shutdown owes the wake that follows it (log 71). -/
def Obligations.SleepingPartBreathesAndSniffs : Prop :=
  ∀ s : State, s.sys.phase = .lowPower → s.sys.mode = some .sleep →
    (∀ i : BreathIn, fbit s .brCfg 16 = true →
      let due := nextMultiple (1000000 * fld s .brCfg 11 0) s.time.pt.toNat
      let n := min (s.pwr.brCount + 1) 0xFFFF
      let th := breathDies (i.dies.map (fun d => dieTemps d s.thrm)) s.thrm
      let found := breathJudge i { s with thrm := th }
      ∃ t, exec (.breathCheck i) s = .next t ∧ t.safe.pins &&& ~~~ s.safe.pins = 0 ∧ t.pwr.brCount = n ∧
        match found with
        | none => t = settle { s with
            time := { s.time with pt := BitVec.ofNat 64 due, ptB := BitVec.ofNat 64 (due / 1000 * 1000), slot := 0, fresh := false }
            pwr := { s.pwr with brCount := n }, thrm := th }
        | some (k, x) => t.sys.wake = s.sys.wake ||| 8 ∧ t.pwr.brKind = k ∧ t.pwr.brIdx = x ∧ t.safe.pins = 0 ∧
            (k ≠ 3 → t.sys.phase = .softStart ∧ t.sys.startCause = 4) ∧
            (k = 3 → t.sys.phase = .thermalHeld ∧ t.pwr.breathWake = true ∧
              (t.safe.state = .tripped ∨ t.safe.state = .lockout))) ∧
    (fbit s .mirrCfg 4 = true → s.otp.genP.isSome = true →
      let due := nextMultiple 1048576 s.time.pt.toNat
      exec .wakeSniff s = .next (settle { s with
        time := { s.time with pt := BitVec.ofNat 64 due, ptB := BitVec.ofNat 64 (due / 1000 * 1000), slot := 0, fresh := false }
        mirr := { s.mirr with sniff := true }, pwr := { s.pwr with burst := false } }))

/-- R480, R483, R485 to R488: the supply and the charger. A charger event acts only while the charger may run. The model's
readings: the charger's phases are judged on the reading of the command, and the loss of the content clears and keeps what log
18 lists; a presence probe ends with its command, and a cell below 1.0 V is absence while BAK_EN is set (log 73); in SHIP the
keeper that no longer carries VKA gives way to VBAK (log 18). -/
def Obligations.PowerEventsAct : Prop :=
  ∀ s : State,
    let pwr (p : PwrSt) : State := { s with pwr := p }
    (awake s = true → 8 ≤ s.pwr.buckRun → s.pwr.buckFault = false → exec .buckFault s = .next (settle { s with
      pwr := { s.pwr with buckFault := true }, col := colStand 120 true 0 s.col })) ∧
    (s.pwr.xtalClk = true → exec .xtalFail s = .next (settle (pwr { s.pwr with xtalClk := false, xtalFail := true }))) ∧
    (∀ v, chargerOk s = true → s.pwr.chg = 1 → vcvMv s ≤ v →
      exec (.chargerCv v) s = .next (settle (pwr { s.pwr with chg := 2 }))) ∧
    (∀ i, chargerOk s = true → s.pwr.chg = 2 → i < 10 * fld s .kaCfg 11 8 →
      exec (.chargerFull i) s = .next (settle (pwr { s.pwr with chg := 3 }))) ∧
    (∀ v, chargerOk s = true → (fbit s .kaCfg 2 = true ∨ 1000 ≤ v) →
      ((s.pwr.chg = 3 ∧ v + 100 < vcvMv s) ∨ s.pwr.chg = 0) →
      exec (.chargerRecharge v) s = .next (settle (pwr { s.pwr with chg := 1 }))) ∧
    (∀ v, fbit s .kaCfg 2 = false → v < 1000 → exec (.chargerRecharge v) s = .next (settle s)) ∧
    (∀ v, 3350 ≤ v → s.pwr.bakOv = false → s.pwr.src ≠ 1 → exec (.bakOv v) s = .next (settle { s with
      pwr := { s.pwr with bakOv := true, chg := 0, probing := false }, col := colStand 122 true 0 s.col })) ∧
    (∀ v, 3350 ≤ v → s.pwr.bakOv = false → s.pwr.src = 1 → ∃ t, exec (.bakOv v) s = .next t ∧ t.pwr.bakOv = true ∧
      t.pwr.src = 2 ∧ t.bob.refresh = false ∧ t.col = colStand 122 true 0 s.col) ∧
    (∀ v below since, s.pwr.bakOv = true → v + 100 < vcvMv s → 1000 ≤ below →
      (s.pwr.cutForGood = true ∨ (s.pwr.restarted = true ∧ since ≤ 60000) →
        exec (.bakOvRestart v below since) s = .next (settle (pwr { s.pwr with cutForGood := true }))) ∧
      (s.pwr.cutForGood = false → (s.pwr.restarted = false ∨ 60000 < since) → s.pwr.src = 0 →
        exec (.bakOvRestart v below since) s = .next (settle { s with
          pwr := { s.pwr with bakOv := false, restarted := true
                              chg := if chargerMay s && !s.pwr.bakAbsent && (fbit s .kaCfg 2 || decide (1000 ≤ v)) then 1 else 0 }
          col := colStand 122 false 0 s.col }))) ∧
    (∀ v rise, s.pwr.bakAbsent = false → s.pwr.src ≠ 1 →
      ((chargerMay s = true ∧ s.pwr.chg = 1 ∧ 150 ≤ rise) ∨
        (fbit s .kaCfg 1 = true ∧ fbit s .kaCfg 2 = false ∧ v < 1000)) →
      exec (.bakAbsent v rise) s = .next (settle { s with
        pwr := { s.pwr with bakAbsent := true, chg := 0, probing := false, probeIn := 0 }, col := colStand 121 true 0 s.col })) ∧
    (∀ v rise, chargerMay s = true → s.pwr.bakAbsent = true → rise < 150 → v < 3350 →
      (fbit s .kaCfg 2 = true ∨ 1000 ≤ v) → exec (.presenceProbe v rise) s = .next (settle { s with
        pwr := { s.pwr with bakAbsent := false, probing := false, probeIn := 0
                            chg := if !s.pwr.bakOv && !s.pwr.cutForGood then 1 else 0 }
        col := colStand 121 false 0 s.col })) ∧
    (∀ v rise, (chargerMay s = false ∨ (s.pwr.bakAbsent = false ∧ s.pwr.chg ≠ 3)) →
      exec (.presenceProbe v rise) s = .next (settle s)) ∧
    (∀ v, v < 2600 → (s.pwr.src = 0 ∨ (s.pwr.src ≠ 1 ∧ bakUsable s = false)) → exec (.retentionBreak v) s = .next (settle { s with
      pwr := { s.pwr with retOk := false, keeperOut := s.pwr.keeperOut || (s.sys.mode == some .ship && s.pwr.src == 2) }
      bob := { s.bob with refresh := false } })) ∧
    (∀ v, v < 2600 → s.sys.mode = some .ship → s.pwr.src = 2 → bakUsable s = true → ∃ t,
      exec (.retentionBreak v) s = .next t ∧ t.pwr.src = 1 ∧ t.pwr.keeperOut = true ∧ t.pwr.bakFrom = some s.time.pt) ∧
    (s.sys.mode = some .ship → s.sys.phase ≠ .unpowered → s.pwr.keeperOut = true → s.pwr.src = 1 →
      ∃ t, exec .stackPowerUp s = .next t ∧ t.pwr.src = 2 ∧ t.pwr.keeperOut = false ∧ t.sys = s.sys) ∧
    (∀ v, v < 2370 → s.pwr.src = 1 → ∃ t, exec (.retentionBreak v) s = .next t ∧ t.pwr.retOk = false ∧
      t.bob.refresh = false ∧ t.pwr.vbak = v + 30 ∧ t.pwr.src = 2) ∧
    (∀ v, v < 1800 → ∃ t, exec (.kaContentLoss v) s = .next t ∧ t.sys.phase = .unpowered ∧ t.safe.state = .normal ∧
      t.safe.pins = 0 ∧ t.bob.retired = [] ∧ t.enum.epochCtr = 1 ∧ t.safe.degEntries = 0 ∧ t.time.pt = 0 ∧
      t.sys.headEnKept = none ∧ t.sys.xtalKept = none ∧ t.otp.job = none ∧ t.jrnl.slots = s.jrnl.slots)

/-! ### Trips, inhibits, acknowledge -/

/-- R33, R378, R382, R383, R386, R289, R290, R34 to R37, R400: what trips, at once: an over-temperature violation of 32
stitches, the SDI time, a thermal shutdown, a missed deadline, the end of the DEG timer. Every pin falls; the state becomes
TRIPPED (LOCKOUT for SDI, and LOCKOUT stays); a trip that changes the state records its flags and channels; one that is news,
as it changes the state or brings a channel or flag not yet told, or is a thermal shutdown (log 70), puts its TRIP word on the
ports. A valid token at the deadline's check is counted, and ends a run of misses. -/
def Obligations.TripsActAtOnce : Prop :=
  (∀ s : State,
     let trips (tgt : Safety) (flags : BitVec 8) (a b : Bool) (u t : State) : Prop :=
       t.safe.pins = 0 ∧ t.safe.tripNow = true ∧
       t.safe.state = (if s.safe.state = .lockout then .lockout else tgt) ∧
       (tripRises s.safe.state tgt = true → t.safe.causeFlags = flags ∧ t.safe.causeA = a ∧ t.safe.causeB = b ∧
         t.safe.causeOrigin = s.sys.addr ∧ t.safe.causeStitch = stitch s) ∧
       (tripRises s.safe.state tgt = false → t.safe.causeFlags = s.safe.causeFlags) ∧
       t.link.tripTx = (if tripNews tgt flags a b s.safe = true then
         s.link.tripTx ++ tripInserts (tripWord s.sys.addr a b flags) u else s.link.tripTx)
     let ofCh (ch : Chan) : ChanSt := match ch with | .a => s.safe.a | .b => s.safe.b
     (∀ (ch : Chan) (k : Fin 16), sltViolates s ch k.val false = true → (ofCh ch).slt = false →
       ∃ t, exec (.sltViolation ch k false) s = .next t ∧ trips .tripped 16 (ch == .a) (ch == .b) s t ∧
         (match ch with | .a => t.safe.a.slt | .b => t.safe.b.slt) = true) ∧
     (∀ ch : Chan, sdiNeed s ch ≤ (ofCh ch).sdiRun → 0 < (ofCh ch).sdiRun → (ofCh ch).sdi = false →
       ∃ t, exec (.sdiLockout ch) s = .next t ∧ trips .lockout 4 (ch == .a) (ch == .b) s t ∧
         (match ch with | .a => t.safe.a.sdi | .b => t.safe.b.sdi) = true) ∧
     (2 ≤ s.thrm.sdRun → s.thrm.sdWait = false → awake s = true → (s.sys.phase = .coreOn ∨ s.sys.phase = .coreRestart) →
       ∃ t, exec .thermalShutdown s = .next t ∧ trips .tripped 1 false true s t ∧ t.sys = s.sys ∧ t.thrm.sdWait = true ∧
         t.link.tripTx = s.link.tripTx ++ tripInserts (tripWord s.sys.addr false true 1) s ∧
         t.thrm.sdPt = s.time.ptB ∧ t.thrm.sdTd = signedSat 16 s.thrm.td ∧ t.bal.sw = 0 ∧ t.bob.st = 3 ∧ t.thrm.sdCnt = min (s.thrm.sdCnt + 1) 0xFFFF ∧
         t.thrm.sdCause = s.thrm.sdNowCause ∧ t.thrm.sdIdx = s.thrm.sdNowIdx) ∧
     (checkOpen s = true → s.time.slot = 7 → s.time.fresh = false →
       (s.safe.token ≠ some ((stitch s).setWidth 8, ~~~ (stitch s).setWidth 8) ∨
         ¬ ∃ us, s.time.safeNow = some us ∧ us ≤ 900) →
       ∃ t, exec .deadlineCheck s = .next t ∧ trips .tripped 1 false true (atNs 900000 s) t ∧ t.safe.gate = true ∧
         t.safe.misses = s.safe.misses + 1 ∧ t.safe.tokens = 0 ∧ t.safe.checked = true ∧
         t.safe.byDeadline = (s.safe.byDeadline || tripRises s.safe.state .tripped)) ∧
     (s.safe.state = .degraded → s.safe.degLeft = 0 → ∃ t, exec .degExpire s = .next t ∧ trips .tripped 1 true true s t)) ∧
  (∀ s : State, checkOpen s = true → s.time.slot = 7 → s.time.fresh = false →
     s.safe.token = some ((stitch s).setWidth 8, ~~~ (stitch s).setWidth 8) →
     (∃ us, s.time.safeNow = some us ∧ us ≤ 900) →
     exec .deadlineCheck s = .next (settle { atNs 900000 s with safe := { s.safe with
       token := none, tokens := min (s.safe.tokens + 1) 100, misses := 0, checked := true } }))

/-- R380, R383, R385: the inhibits of one channel latch and release without a trip. A latched current inhibit and a
low-charge inhibit end the permission of their direction at once. -/
def Obligations.InhibitsLatchAndRelease : Prop :=
  ∀ (ch : Chan) (s : State),
    let of_ (x : State) : ChanSt := match ch with | .a => x.safe.a | .b => x.safe.b
    let other (x : State) : ChanSt := match ch with | .a => x.safe.b | .b => x.safe.a
    let kept (t : State) : Prop := t.safe.state = s.safe.state ∧ other t = other s ∧ t.safe.acks = s.safe.acks ∧
      t.link = s.link ∧ t.cfgW = s.cfgW ∧ t.sys = s.sys
    let chgPin : BitVec 4 := match ch with | .a => 8 | .b => 4
    let dsgPin : BitVec 4 := match ch with | .a => 2 | .b => 1
    (∀ k : Fin 16, sltViolates s ch k.val true = true → (of_ s).lowChg = false →
      ∃ t, exec (.sltViolation ch k true) s = .next t ∧ kept t ∧ of_ t = { of_ s with lowChg := true, loRel := 0 } ∧
        t.safe.pins &&& chgPin = 0) ∧
    (sliNeed s ch ≤ (of_ s).sliRunChg → (of_ s).sliChg = false →
      ∃ t, exec (.sliLatch ch false) s = .next t ∧ kept t ∧ of_ t = { of_ s with sliChg := true } ∧
        t.safe.pins &&& chgPin = 0) ∧
    (sliNeed s ch ≤ (of_ s).sliRunDsg → (of_ s).sliDsg = false →
      ∃ t, exec (.sliLatch ch true) s = .next t ∧ kept t ∧ of_ t = { of_ s with sliDsg := true } ∧
        t.safe.pins &&& dsgPin = 0) ∧
    ((of_ s).ov = true → 8 ≤ (of_ s).ovRel →
      ∃ t, exec (.inhibitRelease ch true) s = .next t ∧ kept t ∧ of_ t = { of_ s with ov := false } ∧ pinsAllowed t) ∧
    ((of_ s).uv = true → 8 ≤ (of_ s).uvRel →
      ∃ t, exec (.inhibitRelease ch false) s = .next t ∧ kept t ∧ of_ t = { of_ s with uv := false } ∧ pinsAllowed t)

/-- R107 to R109, R395, R396: the ACK_N pin. A low of 50 to 2000 stitches is an acknowledge, at the head of the pack (log 35),
whose frame takes its SEQ when it first goes out (log 63), at a member its own; one of another length is none; a low beyond 5000 stitches is
stuck, and 1000 stitches high re-arm the pin. -/
def Obligations.AckPinIsJudgedByItsLength : Prop :=
  ∀ s : State,
    let y := s.sys
    (∀ d, y.ackEnded = some d → (y.ackStuck = true ∨ d < 50 ∨ 2000 < d) →
      exec .ackNPulse s = .next (settle { s with sys := { y with ackEnded := none } })) ∧
    (∀ d, y.ackEnded = some d → y.ackStuck = false → 50 ≤ d → d ≤ 2000 →
      exec .ackNPulse s = .next (settle { s with
        sys := { y with ackEnded := none, ackCnt := min (y.ackCnt + 1) 0xFF }

        safe := { s.safe with
          packAckAt := if isHead s then stitches s + 2 else s.safe.packAckAt
          packAckPt := if isHead s then s.time.pt else s.safe.packAckPt
          packAckSeq := if isHead s then none else s.safe.packAckSeq
          acks := s.safe.acks ++ [if isHead s then ⟨some (stitches s + 3), true, true⟩
                                  else ⟨some (stitches s + 1), true, false⟩] } })) ∧
    (ackSampled s = true → y.ackLow = true → y.ackStuck = false → 5002 ≤ y.ackBounds →
      exec .ackStuck s = .next (settle { s with
        sys := { y with ackStuck := true }, col := colStand 97 true 0 s.col })) ∧
    (ackSampled s = true → y.ackLow = false → y.ackStuck = true → 1001 ≤ y.ackBounds →
      exec .ackRearm s = .next (settle { s with
        sys := { y with ackStuck := false }, col := colStand 97 false 0 s.col }))

/-- R395, R398, R399, R401: one acknowledge due at a boundary, judged after every trip of that boundary (`u`), in STANDBY,
COMMISSION or RUN. It clears a trip when nothing stands and no trip was decided at this boundary, with every latched
current inhibit: to NORMAL when no cause of DEGRADED stands, else to DEGRADED, the fourth entry to TRIPPED again. Nothing stands
where neither channel holds a trip condition, no source of effective level L3 has its dynamic bit set, a missed deadline has been
followed by 100 valid tokens (R37) and, at the head, no copy carries a trip. At the head in NORMAL or DEGRADED it clears the current
inhibits alone, raises no pin and leaves the pack permits to the next boundary (a safety input found inactive trips again), if one is
latched and the current of the last evaluated stitch lies within the limit of each, on the channel that latched it or, with that
channel's source lost, on the other. A member ignores a pack acknowledge outside a trip. Every other one is
refused, counted and changes nothing. The model's readings: the head refuses while a copy of a member carries a trip condition
(log 12), and the trip by a safety input at an acknowledge that NORMAL takes is the model's inference from R388, beside R395. -/
def Obligations.AcknowledgeIsJudgedAtItsBoundary : Prop :=
  ∀ (r : AckReq) (s : State), s.time.fresh = true → coreRuns s = true →
    let u := shutdownDue (newTrips s)
    (u.safe.acks = [r] → ackDue u r = true →
      let may : Prop := (inMode u .standby = true ∨ inMode u .commission = true ∨ inMode u .run = true) ∧
        u.safe.tripNow = false
      let holds (c : ChanSt) : Prop := c.crit = true ∨ c.slt = true ∨ (c.sltOwed = true ∧ c.sltBack = false) ∨ c.ssi = true
      let copies (a : Nat) : List Copy := (u.link.members.getD a {}).wired.toList ++ (u.link.members.getD a {}).radio.toList
      let stands : Prop := holds u.safe.a ∨ holds u.safe.b ∨
        (∃ n ∈ List.range 128, u.col.dyn.getLsbD n = true ∧ srcReserved n = false ∧
          max (u.col.effMin.getD n 0) (effLevel n (assigned u.cfg n) (u.col.steps.getD n 0)) = 3) ∨
        (u.safe.byDeadline = true ∧ u.safe.tokens < 100) ∨
        (isHead u = true ∧ ∃ a ∈ List.range 63, 2 ≤ a ∧ u.enum.set.getLsbD a = true ∧ ∃ x ∈ copies a,
          x.safety = .tripped ∨ x.safety = .lockout ∨ (x.tripA ||| x.tripB) &&& 0x37 ≠ 0)
      let within (lost lostOther out outOther : Bool) : Prop :=
        (lost = false ∧ out = false) ∨ (lost = true ∧ lostOther = false ∧ outOther = false)
      let a := u.safe.a
      let b := u.safe.b
      let sliOk : Prop := (a.sliChg = true ∨ a.sliDsg = true ∨ b.sliChg = true ∨ b.sliDsg = true) ∧
        (a.sliChg = true → within u.cur.isnsLost u.cur.iauxLost a.outChg b.outChg) ∧
        (a.sliDsg = true → within u.cur.isnsLost u.cur.iauxLost a.outDsg b.outDsg) ∧
        (b.sliChg = true → within u.cur.iauxLost u.cur.isnsLost b.outChg a.outChg) ∧
        (b.sliDsg = true → within u.cur.iauxLost u.cur.isnsLost b.outDsg a.outDsg)
      let calm : Prop := u.safe.state = .normal ∨ u.safe.state = .degraded
      let refused : State := { u with safe := { u.safe with acks := [], ackRef := min (u.safe.ackRef + 1) 0xFF } }
      let counted (t : State) : Prop := t.safe.acks = [] ∧ t.safe.ackOk = min (u.safe.ackOk + 1) 0xFF ∧
        t.safe.ackRef = u.safe.ackRef ∧ t.safe.a.sliChg = false ∧ t.safe.a.sliDsg = false ∧
        t.safe.b.sliChg = false ∧ t.safe.b.sliDsg = false
      (may → u.safe.state = .tripped → ¬ stands → degCause u = false →
        ∃ t, exec .ackApply s = .next t ∧ counted t ∧ t.safe.state = .normal ∧ t.safe.gate = false ∧
          t.safe.a.other = false ∧ t.safe.b.other = false) ∧
      (may → u.safe.state = .tripped → ¬ stands → degCause u = true →
        ∃ t, exec .ackApply s = .next t ∧ counted t ∧ t.safe.degEntries = min (u.safe.degEntries + 1) 4 ∧
          (u.safe.degEntries < 3 → t.safe.state = .degraded ∧ t.safe.degLeft = 1000 * fld u .safeDeg 26 16) ∧
          (3 ≤ u.safe.degEntries → t.safe.state = .tripped ∧ t.safe.pins = 0)) ∧
      (may → u.safe.state = .tripped → stands → exec .ackApply s = .next (settle refused)) ∧
      (u.safe.state = .tripped → ¬ may → exec .ackApply s = .next (settle refused)) ∧
      (u.safe.state = .lockout → exec .ackApply s = .next (settle refused)) ∧
      (calm → r.pack = true → isHead u = false →
        exec .ackApply s = .next (settle { u with safe := { u.safe with acks := [] } })) ∧
      (calm → r.pack = false → isHead u = false → exec .ackApply s = .next (settle refused)) ∧
      (calm → isHead u = true → (¬ may ∨ ¬ sliOk) → exec .ackApply s = .next (settle refused)) ∧
      (calm → may → isHead u = true → sliOk →
        ∃ t, exec .ackApply s = .next t ∧ counted t ∧ t.safe.pins &&& ~~~ u.safe.pins = 0 ∧
          (t.safe.state = u.safe.state ∨ (t.safe.state = .tripped ∧ (t.safe.a.ssi = true ∨ t.safe.b.ssi = true))) ∧
          t.safe.sliBackChg = (u.safe.sliBackChg || u.safe.a.sliChg || u.safe.b.sliChg) ∧
          t.safe.sliBackDsg = (u.safe.sliBackDsg || u.safe.a.sliDsg || u.safe.b.sliDsg) ∧
          t.safe.chgA = u.safe.chgA ∧ t.safe.chgB = u.safe.chgB ∧ t.safe.dsgA = u.safe.dsgA ∧ t.safe.dsgB = u.safe.dsgB))

/-- R389, R390, R399, R401: the pack at a boundary. A head whose core runs is in LOCKOUT where a copy of a member of the safety set
reports LOCKOUT, and trips where one reports TRIPPED or carries one of bits [21], [20], [18], [17], [16], with bit [16] and the
member as origin; MEMBER_TRIP stands while a copy reports either state. Each channel's pack permit of a direction is that of
R390. A cause of DEGRADED, of the device's own or, at the head, a copy that reports DEGRADED or DEG and in RUN a mirror fault,
takes a device in NORMAL to DEGRADED with DEG_ENTER, counted, its timer loaded; the fourth entry trips in its place with
DEG_LIMIT. -/
def Obligations.PackIsJudgedAtTheBoundary : Prop :=
  (∀ (i : BoundaryIn) (s : State), hwslOn s = true → coreRuns s = true → awake s = true → isHead s = true →
    s.time.fresh = false → s.dev.inbox = [] → s.dev.bcasts = [] → s.safe.misses < 15 → thermalDue s = false →
    let copies (x : State) (a : Nat) : List Copy :=
      (x.link.members.getD a {}).wired.toList ++ (x.link.members.getD a {}).radio.toList
    let some_ (x : State) (p : Copy → Bool) : Bool :=
      ((List.range 61).map (· + 2)).any (fun a => x.enum.set.getLsbD a && (copies x a).any p)
    let flags (c : Copy) : BitVec 8 := c.tripA ||| c.tripB
    ∃ t, exec (.stitchBoundary i) s = .next t ∧
      (s.safe.unlockPend = false → some_ s (fun c => c.safety == .lockout) = true →
        t.safe.state = .lockout ∧ t.safe.pins = 0) ∧
      (some_ s (fun c => c.safety == .tripped || flags c &&& 0x37 != 0) = true → tripped t = true ∧ t.safe.pins = 0) ∧
      (some_ s (fun c => c.safety == .degraded || c.deg) = true → s.safe.state = .normal → inMode s .run = true →
        t.safe.state ≠ .normal ∧ (tripped t = false → t.safe.state = .degraded ∧ s.safe.degEntries < 3 ∧
          t.safe.degEntries = min (s.safe.degEntries + 1) 4 ∧ t.safe.degLeft = 1000 * fld s .safeDeg 26 16)) ∧
      t.col.stand.getLsbD 24 = some_ t (fun c => c.safety == .tripped || c.safety == .lockout) ∧
      (let up := inMode t .run && coreRuns t && !tripped t
       let charge := up && !some_ t (fun c => (flags c).getLsbD 7)
       let discharge := up && !some_ t (fun c => (flags c).getLsbD 6)
       t.safe.chgA = (charge && !t.safe.a.ov && !t.safe.a.lowChg && !t.safe.a.sliChg) ∧
       t.safe.chgB = (charge && !t.safe.b.ov && !t.safe.b.lowChg && !t.safe.b.sliChg) ∧
       t.safe.dsgA = (discharge && !t.safe.a.uv && !t.safe.a.sliDsg) ∧
       t.safe.dsgB = (discharge && !t.safe.b.uv && !t.safe.b.sliDsg))) ∧
  (∀ s : State,
    let copies (a : Nat) : List Copy := (s.link.members.getD a {}).wired.toList ++ (s.link.members.getD a {}).radio.toList
    let has (a : Nat) (p : Copy → Bool) : Bool := s.enum.set.getLsbD a && (copies a).any p
    let down (c : Copy) : Bool := c.safety == .tripped || c.safety == .lockout
    let trips (c : Copy) : Bool := down c || (c.tripA ||| c.tripB) &&& 0x37 != 0
    let all : List Nat := (List.range 61).map (· + 2)
    let t := packJudge s
    ((isHead s = false ∨ coreRuns s = false ∨ awake s = false) → t = s) ∧
    (isHead s = true → coreRuns s = true → awake s = true →
      t.col.stand.getLsbD 24 = all.any (fun a => has a down) ∧
      (all.any (fun a => has a trips) = false → t.safe = s.safe ∧ t.link = s.link) ∧
      (∀ a, all.find? (fun a => has a trips) = some a → all.any (fun a => has a (fun c => c.safety == .lockout)) = false →
        s.safe.state = .normal ∨ s.safe.state = .degraded →
        t.safe.state = .tripped ∧ t.safe.causeFlags = 1 ∧ t.safe.causeA = true ∧ t.safe.causeB = true ∧
        t.safe.causeOrigin = BitVec.ofNat 6 a ∧ t.safe.causeStitch = stitch s) ∧
      (∀ a, all.find? (fun a => has a (fun c => c.safety == .lockout)) = some a → s.safe.state ≠ .lockout →
        t.safe.state = .lockout ∧ t.safe.causeFlags = 1 ∧ t.safe.causeOrigin = BitVec.ofNat 6 a))) ∧
  (∀ s : State,
    let own : Bool := s.cur.disagree || s.cur.isnsLost || s.cur.iauxLost ||
      s.meas.cells.zipIdx.any (fun e => e.1.xdis && populated s e.2)
    let pack : Bool := ((List.range 61).map (· + 2)).any (fun a => s.enum.set.getLsbD a &&
      ((inMode s .run && (s.link.members.getD a {}).fault) ||
        ((s.link.members.getD a {}).wired.toList ++ (s.link.members.getD a {}).radio.toList).any
          (fun c => c.safety == .degraded || c.deg)))
    let cause : Bool := own || (isHead s && pack)
    let runs : Bool := coreRuns s && (inMode s .standby || inMode s .commission || inMode s .run)
    let n := min (s.safe.degEntries + 1) 4
    s.safe.state = .normal →
    ((cause = false ∨ runs = false) → degStep s = s) ∧
    (cause = true → runs = true → n < 4 → degStep s = { s with
      safe := { s.safe with degEntries := n, state := .degraded, degLeft := 1000 * fld s .safeDeg 26 16 }
      col := colRaise 17 0 s.col }) ∧
    (cause = true → runs = true → n = 4 → (degStep s).safe.state = .tripped ∧ (degStep s).safe.pins = 0 ∧
      (degStep s).safe.degEntries = 4 ∧ (degStep s).safe.causeFlags = 1 ∧ (degStep s).col = colRaise 19 0 s.col)) ∧
  (∀ (i : BoundaryIn) (s : State), hwslOn s = true → coreRuns s = true → inMode s .run = true → s.time.fresh = false →
    s.dev.inbox = [] → s.dev.bcasts = [] → s.safe.misses < 15 → thermalDue s = false → s.safe.state = .normal →
    s.cur.disagree = true → s.cur.disOk < 8 → currentPresent s = true →
    ∃ t, exec (.stitchBoundary i) s = .next t ∧ t.safe.state ≠ .normal ∧
      (tripped t = false → t.safe.state = .degraded ∧ t.safe.degEntries = min (s.safe.degEntries + 1) 4 ∧
        s.safe.degEntries < 3 ∧ t.safe.degLeft = 1000 * fld s .safeDeg 26 16 ∧ t.col.dyn.getLsbD 17 = true) ∧
      (3 ≤ s.safe.degEntries → tripped t = true ∧ t.safe.pins = 0))

/-! ### The stitch -/

/-- R21, R22, R24, R29, R16: the boundaries. SLOT_BOUNDARY begins the next slot, with its sub-samples; a permit pin that
reads back wrong takes every pin low, and trips. STITCH_BOUNDARY moves pack time by 1000 µs, begins slot 0 and brings the
written settings into force, which change only where the HWSL's copy differs (R440); with the HWSL off pack time moves, a
wake's tone and frames end in time, and the sniff receiver closes (R371, R479), and, while VREG does not feed VKA, the
source follows the measured VBAK (R484; that the stitch boundary measures it, and that in SHIP the keeper keeps the domain until it
no longer carries VKA, is the model's reading, log 18). R38 to R40: the load. Above 850 per mille one further task is shed, at most three;
a quiet stitch is one at or below 700, and 16 of them in a row let SHED_RESUME end all shedding; with the impedance tracker
shed no cell is IMP_VALID, and it restarts on resumption. R50: that a safety task which did not complete enters ST_PEAK with 1000
is the model's choice (log 78). -/
def Obligations.BoundariesAdvanceTheStitchAndShedLoad : Prop :=
  ((∀ (i : SlotIn) (s : State), hwslOn s = true → i.slot.val = nextSlot s →
    ∃ t, exec (.slotBoundary i) s = .next t ∧ t.time.slot = i.slot ∧ t.time.fresh = false ∧ t.time.ptB = s.time.ptB ∧
      t.time.pt = s.time.ptB + BitVec.ofNat 64 (125 * i.slot.val) ∧ t.meas.subs.getLast? = some i.cells ∧
      t.meas.stackSubs.getLast? = some i.stack ∧ t.meas.shuntSubs.getLast? = some i.shunt ∧
      (s.sys.mode.isSome = true → i.permitRb ≠ s.safe.pins →
        t.safe.pins = 0 ∧ (s.time.fresh = false → tripped t = true))) ∧
  (∀ (i : SlotIn) (s : State), (hwslOn s = false ∨ i.slot.val ≠ nextSlot s) →
    exec (.slotBoundary i) s = .next (settle s)) ∧
  (∀ (i : BoundaryIn) (s : State), hwslOn s = true →
    ∃ t, exec (.stitchBoundary i) s = .next t ∧ t.time.ptB = s.time.ptB + 1000 ∧ t.time.pt = s.time.ptB + 1000 ∧
      t.time.slot = 0 ∧ t.time.fresh = true ∧ t.cfg = t.cfgW ∧
      (s.time.fresh = false → s.dev.inbox = [] → s.dev.bcasts = [] → i.copyB = none → t.cfgW = s.cfgW) ∧
      (s.time.fresh = false → t.meas.prevSubs = s.meas.subs ∧ t.meas.prevCoarse = s.meas.coarse ∧
        t.meas.prevAux = s.meas.aux) ∧ t.meas.subs = [] ∧ t.meas.coarse = [] ∧ t.meas.aux = []) ∧
  (∀ (i : BoundaryIn) (s : State), hwslOn s = false → s.sys.phase ≠ .thermalHeld → s.pwr.src = 0 →
    exec (.stitchBoundary i) s = .next (settle (wakeEnds { s with
      mirr := { s.mirr with sniff := false }
      pwr := { s.pwr with burst := asleep s, vbak := i.vbak.toNat }
      time := { s.time with pt := s.time.ptB + 1000, ptB := s.time.ptB + 1000 } }))) ∧
  (∀ (i : BoundaryIn) (s : State), hwslOn s = false → s.pwr.src ≠ 0 →
    let usable := bakUsable { s with pwr := { s.pwr with vbak := i.vbak.toNat } }
    let ship := s.sys.mode == some .ship
    ∃ t, exec (.stitchBoundary i) s = .next t ∧ t.time.ptB = s.time.ptB + 1000 ∧ t.pwr.vbak = i.vbak.toNat ∧
      t.pwr.src = (if usable && (!ship || s.pwr.keeperOut) then 1 else if s.pwr.src = 1 then 2 else s.pwr.src) ∧
      (t.pwr.src = s.pwr.src → t.bob = s.bob ∧ t.jrnl = s.jrnl) ∧ t.bob.mem = s.bob.mem ∧ t.sys = s.sys) ∧
  (∀ (i : BoundaryIn) (s : State), s.sys.phase = .thermalHeld → s.pwr.src = 0 →
    ∃ t, exec (.stitchBoundary i) s = .next t ∧ t.time.ptB = s.time.ptB + 1000 ∧ t.time.pt = s.time.ptB + 1000 ∧
      t.cfgW = s.cfgW ∧ t.cfg = s.cfg ∧ t.otp = s.otp ∧ t.bob = s.bob ∧ t.sys = s.sys ∧ t.safe.state = s.safe.state ∧
      t.pwr.src = 0 ∧ t.pwr.vbak = i.vbak.toNat)) ∧
  ((∀ (i : BoundaryIn) (s : State), coreRuns s = true → s.sys.mode.isSome = true → hwslOn s = true → s.time.fresh = false →
    s.dev.inbox = [] → s.safe.misses < 15 → thermalDue s = false →
    ∃ t, exec (.stitchBoundary i) s = .next t ∧ t.time.loadLast = i.load.toNat ∧
      t.time.loadPeak = max s.time.loadPeak i.load.toNat ∧ t.time.safeLast = s.time.safeNow.getD 1000 ∧
      t.time.safePeak = max s.time.safePeak (s.time.safeNow.getD 1000) ∧ t.time.safeNow = none ∧
      t.time.shed = (if 850 < i.load.toNat then min 3 (s.time.shed + 1) else s.time.shed) ∧
      t.time.quiet = (if i.load.toNat ≤ 700 then s.time.quiet + 1 else 0) ∧
      (850 < i.load.toNat → s.time.shed = 1 → t.imp.valid = 0 ∧ t.imp.fill = 0)) ∧
  (∀ s : State, coreRuns s = true → s.time.fresh = true → 0 < s.time.shed → 16 ≤ s.time.quiet →
    exec .shedResume s = .next (settle { s with
      time := { s.time with shed := 0, quiet := 0 }
      imp := if 2 ≤ s.time.shed then impRestart s.imp else s.imp
      col := { s.col with stand := s.col.stand &&& ~~~ (srcBit 96) } })) ∧
  (∀ s : State, (s.time.fresh = false ∨ s.time.shed = 0 ∨ s.time.quiet < 16) →
    exec .shedResume s = .next (settle s)))


/-- R24, R28, R155, R156, R380, R385, R386: a coarse conversion of a cell counts against channel B's limits when the HWSL accepts it:
in KELVIN wiring always, in SHARED wiring in the slots of the window, but for conversion 0 of its first. The code lies beyond a limit
of the sealed set when its voltage is above VOV + CMARG or below VUV − CMARG; the run that reaches 4 codes in KELVIN wiring, 2 in
SHARED, inhibits its direction, or trips at a critical limit. The conversion of IAUX is evaluated by SLI and SDI of channel B. -/
def Obligations.CoarseConversionsFeedChannelB : Prop :=
  ∀ (sar : Fin 4) (conv : Fin 9) (code : BitVec 12) (s : State), hwslOn s = true →
    let kelvin : Bool := fbit s .safeHarness 8
    let accepted : Bool := kelvin || (decide (s.meas.mwFirst ≤ s.time.slot.val) &&
      decide (s.time.slot.val < s.meas.mwFirst + s.meas.mwLen) && !(s.time.slot.val == s.meas.mwFirst && conv.val == 0))
    let mv : Int := 2 * code.toNat - 500
    let margin : Int := (bits (hwslWord s .safeVcfg 13) 23 16 : Nat)
    let above (msb lsb : Nat) : Bool := decide ((bits (hwslWord s .safeVov 11) msb lsb : Nat) + margin < mv)
    let below (msb lsb : Nat) : Bool := decide (mv < (bits (hwslWord s .safeVuv 12) msb lsb : Nat) - margin)
    let run (beyond : Bool) (r : Nat) : Nat := if beyond then r + 1 else 0
    let need : Nat := if kelvin then 4 else 2
    ∃ t, exec (.coarseSample sar conv code) s = .next t ∧ t.cfgW = s.cfgW ∧ t.otp = s.otp ∧ { t.time with ns := s.time.ns } = s.time ∧
      (∀ n : Fin 32, conv.val < 8 → n.val = 8 * sar.val + conv.val →
        t.meas.coarse = s.meas.coarse ++ [(s.time.slot, n, code.toNat, accepted)] ∧ t.meas.aux = s.meas.aux ∧
        (∀ k < s.safe.runs.length, k ≠ n.val → t.safe.runs.getD k {} = s.safe.runs.getD k {}) ∧
        ((accepted = false ∨ populated s n.val = false) → t.safe.runs = s.safe.runs) ∧
        (accepted = true → populated s n.val = true → s.meas.cttCell = none → n.val < s.safe.runs.length →
          let r := s.safe.runs.getD n.val {}
          let r' := t.safe.runs.getD n.val {}
          r'.ov = run (above 12 0) r.ov ∧ r'.uv = run (below 12 0) r.uv ∧
          r'.ovc = run (above 28 16) r.ovc ∧ r'.uvc = run (below 28 16) r.uvc ∧
          (need ≤ r'.ov → t.safe.b.ov = true ∧ t.safe.pins &&& 4 = 0) ∧
          (need ≤ r'.uv → t.safe.b.uv = true ∧ t.safe.pins &&& 1 = 0) ∧
          ((need ≤ r'.ovc ∨ need ≤ r'.uvc) → s.safe.b.crit = false →
            t.safe.b.crit = true ∧ tripped t = true ∧ t.safe.pins = 0) ∧
          (r'.ovc < need → r'.uvc < need → t.safe.state = s.safe.state))) ∧
      (conv.val = 8 →
        t.meas.aux = s.meas.aux ++ [(s.time.slot, sar, code.toNat)] ∧ t.meas.coarse = s.meas.coarse ∧
        t.safe.runs = s.safe.runs ∧ t.safe.state = s.safe.state ∧ (sar ≠ 0 → t.safe.b = s.safe.b ∧ t.cur = s.cur) ∧
        (sar = 0 → currentPresent s = true → t.cur.iauxOut = (if iauxIn s code.toNat then 0 else s.cur.iauxOut + 1)) ∧
        (sar = 0 → currentRuns s .b = true →
          let tol := fld s .safeIdir 11 0
          t.safe.b.sliRunChg = run (ibBeyond s code.toNat true (fld s .safeIlim 31 16)) s.safe.b.sliRunChg ∧
          t.safe.b.sliRunDsg = run (ibBeyond s code.toNat false (fld s .safeIlim 15 0)) s.safe.b.sliRunDsg ∧
          t.safe.b.sdiRun = run ((ibBeyond s code.toNat true tol && !packChg s) ||
            (ibBeyond s code.toNat false tol && !packDsg s)) s.safe.b.sdiRun))

/-- R27, R31, R32, R34, R42, R177, R196, R199, R274, R277, R380: the work of a stitch. MW_RESULT_COMPLETE completes the
results of the stitch that ended; SAFETY_TASK evaluates channel A, reports it, drives PCA and PDA and leaves the token of
the stitch; POST_PROCESSING publishes the cells, the stack, the thermistors and the current; PP_OVERRUN leaves them
unpublished. R380, R382: on channel A a cell lies beyond a limit when its average over the window does in one evaluated stitch, or its
coarse mean while XDIS stands; where no average can be used the coarse mean is taken against channel B's limits. The model's choices: the mean IAUX code to the nearest code, half up, from which SYNC.IB is taken, and VSTK limited to
its field (log 78); IA and IB to the nearest 10 mA, exact halves away from zero (log 75); the rounding of the stack mean before and
after its correction (log 50). -/
def Obligations.StitchWorkCompletes : Prop :=
  ∀ s : State,
    let margin : Int := (bits (hwslWord s .safeVcfg 13) 23 16 : Nat)
    let past (up : Bool) (lim x : Int) : Bool := if up then decide (lim < x) else decide (x < lim)
    let limitA (msb lsb : Nat) (up : Bool) : Int := (fld s (if up then .safeVov else .safeVuv) msb lsb : Nat)
    let limitB (msb lsb : Nat) (up : Bool) : Int :=
      if up then (bits (hwslWord s .safeVov 11) msb lsb : Nat) + margin else (bits (hwslWord s .safeVuv 12) msb lsb : Nat) - margin
    let mean (lim : Int) (up : Bool) (m : Nat × Nat) : Bool :=
      decide (0 < m.2) && past up (lim * 1000 * m.2) (2000 * (m.1 : Int) - 500000 * m.2)
    let coarse (n : Nat) : Nat × Nat := s.meas.res.coarse.getD n (0, 0)
    let average (n : Nat) : Option Int := match s.meas.res.cells.getD n none with
      | some a => if a.ovl = 0 ∧ s.meas.prevSettling = false ∧ bit s.meas.heldPrev n = false ∧ s.meas.donePrev = true then some a.v else none
      | none => none
    let beyond (msb lsb : Nat) (up : Bool) (n : Nat) : Bool := match average n with
      | some v => past up (limitA msb lsb up * 1000) v || ((s.meas.cells.getD n {}).xdis &&
          !(s.meas.cttPrev.any (fun c => c.val == n)) && mean (limitA msb lsb up) up (coarse n))
      | none => mean (limitB msb lsb up) up (coarse n)
    (s.meas.complete = false → exec .mwResultComplete s = .next (settle { s with
      meas := { s.meas with complete := true, res := prevRes s.meas } })) ∧
    (s.meas.complete = true → s.meas.nextDone = false → s.meas.mwFirst + s.meas.mwLen ≤ s.time.slot.val →
      exec .mwResultComplete s = .next (settle { s with meas := { s.meas with nextDone := true, next := nowRes s.meas } })) ∧
    (∀ i : TaskIn, taskDue s = true →
      ∃ t, exec (.safetyTask i) s = .next t ∧ t.time.safeNow = some i.doneUs.toNat ∧
        t.safe.token = some ((stitch s).setWidth 8, ~~~ (stitch s).setWidth 8) ∧ t.safe.sumA = chanFlags t.safe.a ∧
        t.meas.decided = true ∧ t.meas.complete = true ∧ t.cfgW = s.cfgW ∧ t.otp = s.otp ∧ t.sys = s.sys ∧
        t.safe.pins &&& 10 = permitAllowed t &&& 10 ∧ (tripped s = true → tripped t = true) ∧
        (s.meas.complete = true → ∀ n : Fin 32, populated s n.val = true →
          (beyond 12 0 true n.val = true → t.safe.a.ov = true ∧ t.safe.pins &&& 8 = 0) ∧
          (beyond 12 0 false n.val = true → t.safe.a.uv = true ∧ t.safe.pins &&& 2 = 0) ∧
          ((beyond 28 16 true n.val = true ∨ beyond 28 16 false n.val = true) →
            t.safe.a.crit = true ∧ tripped t = true ∧ t.safe.pins = 0))) ∧
    (∀ i : TaskIn, taskDue s = false → exec (.safetyTask i) s = .next (settle s)) ∧
    (postDue s = true → s.meas.complete = true →
      ∃ t, exec (.postProcessing false) s = .next t ∧ t.meas.published = true ∧ t.meas.measSt = s.meas.prevStitch ∧
        t.safe.state = s.safe.state ∧ t.cfgW = s.cfgW ∧ t.otp = s.otp ∧ t.sys = s.sys ∧ t.time = s.time ∧
        (∀ n : Fin 32,
          let c := s.meas.cells.getD n.val {}
          let d := t.meas.cells.getD n.val {}
          (populated s n.val = false → d.code = 0xFFF1 ∧ d.stale = true ∧ d.value = 0) ∧
          (populated s n.val = true → owStands s n.val = true → d.code = 0xFFF2 ∧ d.stale = true) ∧
          (∀ a, cellPub s n.val = true → s.meas.res.cells.getD n.val none = some a →
            let y := if c.prime then a.v * 256 else c.y + divRound (a.v * 256 - c.y) (2 ^ fld s .measFilt 3 0)
            d.y = y ∧ d.value = divRound y 256 ∧ d.stale = false ∧ d.oor = !avgOk a ∧ d.unpub = 0 ∧
            d.code = (if avgOk a then chainCode (divRound y 256) else 0xFFF3)) ∧
          (populated s n.val = true → owStands s n.val = false → cellPub s n.val = false →
            d.code = 0xFFF0 ∧ d.stale = true)) ∧
        (match s.meas.res.stack with
          | some a => if streamGate s = true ∧ s.meas.auxHeldPrev.getLsbD 0 = false then
              t.meas.vstk = field100 (stackUv s a) ∧ t.meas.vstkStale = false
            else t.meas.vstk = s.meas.vstk ∧ t.meas.vstkStale = true
          | none => t.meas.vstk = s.meas.vstk ∧ t.meas.vstkStale = true) ∧
        (∀ n : Fin 16,
          let q := s.temp.qPrev.getD n.val 0
          let d := t.temp.ts.getD n.val {}
          let deg := ntcTemp (fld s .tempNtc 12 0) q
          (tsPop s n.val = false → d.t = -32768 ∧ d.stale = false ∧ d.broken = false) ∧
          (tsPop s n.val = true → s.diag.path.stand = true → d.t = 0x7FFF ∧ d.broken = true ∧ d.path = true) ∧
          (tsPop s n.val = true → s.diag.path.stand = false → s.temp.havePrev = false → d.t = 0 ∧ d.stale = true) ∧
          (tsPop s n.val = true → s.diag.path.stand = false → s.temp.havePrev = true → d.q = q ∧ d.stale = false ∧
            (if q ≤ 1966 ∨ 63570 ≤ q then d.t = 0x7FFF ∧ d.broken = true
             else d.t = max (-4000) (min 12500 deg) ∧ d.broken = false ∧ (d.clamp = true ↔ deg < -4000 ∨ 12500 < deg)))) ∧
        (∀ a, currentPresent s = true → streamGate s = true → s.meas.auxHeldPrev.getLsbD 1 = false → s.meas.res.shunt = some a →
          t.cur.isns = a.v ∧ t.cur.isnsStale = false ∧ t.cur.ia = iaSteps (fld s .syncRshunt 23 0) a.v ∧
          t.cur.iaStale = s.cur.isnsLost) ∧
        ((currentPresent s = false ∨ streamGate s = false ∨ s.meas.auxHeldPrev.getLsbD 1 = true ∨ s.meas.res.shunt = none) →
          t.cur.isnsStale = true ∧ t.cur.iaStale = true) ∧
        (∀ k, iauxMean s = some k → currentPresent s = true → t.cur.iaux = k ∧ t.cur.iauxStale = false ∧
          t.cur.ib = ibSteps s k ∧ t.cur.ibStale = s.cur.iauxLost) ∧
        ((iauxMean s = none ∨ currentPresent s = false) → t.cur.iauxStale = true ∧ t.cur.ibStale = true)) ∧
    (postDue s = false → exec (.postProcessing false) s = .next (settle s)) ∧
    (∀ t, exec (.postProcessing false) s = .next (settle t) →
      s.dev.inbox = [] → (isHead s = true → ∀ y ∈ s.host.trans, y.addr ≠ 1) → exec (.postProcessing true) s = .next (settle t)) ∧
    (coreRuns s = true → awake s = true → s.meas.published = false → s.time.slot = 7 → s.time.fresh = false →
      ∃ t, exec .ppOverrun s = .next t ∧ t.meas.published = true ∧ t.col.pulse.getLsbD 36 = true ∧
        (∀ n : Fin 32, (t.meas.cells.getD n.val {}).stale = true ∧
          ((t.meas.cells.getD n.val {}).prime = false →
            (t.meas.cells.getD n.val {}).y = (s.meas.cells.getD n.val {}).y)) ∧
        t.cur.isnsStale = true ∧ t.cur.iaStale = true ∧ t.safe.state = s.safe.state ∧ t.cfgW = s.cfgW ∧ t.otp = s.otp)
/-! ### Measurement checks and the carrier -/

/-- R173, R174, R63, R64, R278, R200 to R202, R387: the measurement sources follow the counts of their evaluations: XDIS of
a cell (set by 3, cleared by 8), SUM_MISMATCH (2 and 8), HARNESS_MISMATCH (3 and 3; a mean shift of more than 50 mV, 25
codes, over 8), TS_BROKEN (32 and 32), ISNS_LOST (3 and 8), IAUX_LOST (8 slots and 8 stitches), I_DISAGREE (3 and 8). At the
head, with both channels' sources lost, the part trips with flag [16]. Without the current inputs nothing is lost. The model's
readings: HARNESS_MISMATCH stands while a shift stands, however long the cells have been inside (log 36); the mean is that of all
samples of 8 bleeding stitches, and the count that of all unpopulated cells (log 50). -/
def Obligations.MeasurementSourcesFollowTheirCounts : Prop :=
  (∀ s : State,
     let m := s.meas
     (∀ n : Fin 32, n.val < m.cells.length →
       let c := m.cells.getD n.val {}
       let up : Bool := !c.xdis && decide (3 ≤ c.dis)
       let cells := m.cells.set n.val { c with xdis := up || (c.xdis && decide (c.noDis < 8)) }
       exec (.xdis n) s = .next (settle (snapXdis { s with
         meas := { m with cells := cells }
         col := if up = true then colStand 32 true (place 1 n.val) s.col
                else if (cells.take 32).all (fun x => !x.xdis) then colStand 32 false 0 s.col else s.col }))) ∧
     (m.sumBad = false → 2 ≤ m.sumFail → exec .sumMismatch s = .next (settle { s with
       meas := { m with sumBad := true }, col := colStand 33 true 0 s.col })) ∧
     (m.sumBad = true → 8 ≤ m.sumOk → exec .sumMismatch s = .next (settle { s with
       meas := { m with sumBad := false }, col := colStand 33 false 0 s.col })) ∧
     ((m.sumBad = false ∧ m.sumFail < 2 ∨ m.sumBad = true ∧ m.sumOk < 8) → exec .sumMismatch s = .next (settle s)) ∧
     (∀ n : Fin 32, bit (shiftedCells m) n.val = true ↔
       let l := m.shift.getD n.val []
       let so := (l.map (fun e => e.1.1)).sum
       let ko := (l.map (fun e => e.1.2)).sum
       let si := (l.map (fun e => e.2.1)).sum
       let ki := (l.map (fun e => e.2.2)).sum
       l.length = 8 ∧ 0 < ko ∧ 0 < ki ∧ (so * ki + 25 * ko * ki < si * ko ∨ si * ko + 25 * ko * ki < so * ki)) ∧
     (m.harnessBad = false → (3 ≤ m.harnessOut ∨ shiftedCells m ≠ 0) →
       exec .harnessMismatch s = .next (settle { s with
         meas := { m with harnessBad := true }
         col := colStand 37 true ((if 3 ≤ m.harnessOut then m.harnessCells else 0) ||| shiftedCells m) s.col })) ∧
     (m.harnessBad = true → 3 ≤ m.harnessOk → shiftedCells m = 0 →
       exec .harnessMismatch s = .next (settle { s with
         meas := { m with harnessBad := false }, col := colStand 37 false 0 s.col })) ∧
     (m.harnessBad = false → m.harnessOut < 3 → shiftedCells m = 0 →
       exec .harnessMismatch s = .next (settle s)) ∧
     (m.harnessBad = true → (m.harnessOk < 3 ∨ shiftedCells m ≠ 0) → exec .harnessMismatch s = .next (settle s)) ∧
     (∃ ts b e, exec .tsBroken s = .next (settle { s with temp := { s.temp with ts := ts, broken := b }, col := e }) ∧
       ts.length = s.temp.ts.length ∧
       (∀ k < ts.length,
         let o := s.temp.ts.getD k {}
         ts.getD k {} = { o with isBroken := decide (32 ≤ o.brk) || (o.isBroken && decide (o.ok < 32)) }) ∧
       (s.temp.broken = false → (b = true ↔ ∃ k < ts.length, tsPop s k = true ∧ 32 ≤ (s.temp.ts.getD k {}).brk)) ∧
       (s.temp.broken = true → (b = false ↔ ∀ k < ts.length, tsPop s k = true → 32 ≤ (s.temp.ts.getD k {}).ok)) ∧
       (b = true → s.temp.broken = false → e = colStand 48 true 0 s.col) ∧
       (b = false → s.temp.broken = true → e = colStand 48 false 0 s.col) ∧
       (b = s.temp.broken → e = s.col))) ∧
  (∀ s : State,
     let u := s.cur
     let both (t : State) : Prop := tripped t = true ∧ t.safe.pins = 0 ∧ t.safe.a.other = true ∧ t.safe.b.other = true ∧
       (s.safe.state = .normal ∨ s.safe.state = .degraded → t.safe.causeFlags = 1 ∧ t.safe.causeOrigin = s.sys.addr ∧
         t.link.tripTx = s.link.tripTx ++ tripInserts (tripWord s.sys.addr true true 1) s)
     (currentPresent s = false →
       exec .isnsLost s = .next (settle { s with cur := { u with isnsLost := false }, col := colStand 39 false 0 s.col }) ∧
       exec .iauxLost s = .next (settle { s with cur := { u with iauxLost := false }, col := colStand 41 false 0 s.col }) ∧
       exec .iDisagree s = .next (settle { s with cur := { u with disagree := false }, col := colStand 42 false 0 s.col })) ∧
     (currentPresent s = true →
       (u.isnsLost = false → 3 ≤ u.isnsOut → (isHead s = false ∨ u.iauxLost = false) →
         exec .isnsLost s = .next (settle { s with cur := { u with isnsLost := true }, col := colStand 39 true 0 s.col })) ∧
       (u.isnsLost = false → 3 ≤ u.isnsOut → isHead s = true → u.iauxLost = true →
         ∃ t, exec .isnsLost s = .next t ∧ t.cur = { u with isnsLost := true } ∧ t.col = colStand 39 true 0 s.col ∧ both t) ∧
       (u.isnsLost = true → 8 ≤ u.isnsOk →
         exec .isnsLost s = .next (settle { s with cur := { u with isnsLost := false }, col := colStand 39 false 0 s.col })) ∧
       (u.iauxLost = false → 8 ≤ u.iauxOut → (isHead s = false ∨ u.isnsLost = false) →
         exec .iauxLost s = .next (settle { s with cur := { u with iauxLost := true }, col := colStand 41 true 0 s.col })) ∧
       (u.iauxLost = false → 8 ≤ u.iauxOut → isHead s = true → u.isnsLost = true →
         ∃ t, exec .iauxLost s = .next t ∧ t.cur = { u with iauxLost := true } ∧ t.col = colStand 41 true 0 s.col ∧ both t) ∧
       (u.iauxLost = true → 8 ≤ u.iauxOk →
         exec .iauxLost s = .next (settle { s with cur := { u with iauxLost := false }, col := colStand 41 false 0 s.col })) ∧
       (u.disagree = false → 3 ≤ u.disRun →
         exec .iDisagree s = .next (settle { s with cur := { u with disagree := true }, col := colStand 42 true 0 s.col })) ∧
       (u.disagree = true → 8 ≤ u.disOk →
         exec .iDisagree s = .next (settle { s with cur := { u with disagree := false }, col := colStand 42 false 0 s.col }))))

/-- R184, R186, R187, R70: the carrier. A qualifying edge at the head of a running core is taken with its interval; 8
intervals of 50 µs to 1000 µs, each within ±10 % of their mean, qualify the carrier, and an interval that breaks this
loses it, and 8 new intervals are needed; so does the absence of an edge for two periods. The last 8 intervals are kept
for P, valid or not. A member ignores the pin, and falls back
after 16 stitches without a record. -/
def Obligations.CarrierIsQualifiedAndLost : Prop :=
  ∀ (t : Nat) (s : State),
    let u := s.cur
    let taken (rising : Bool) (ns : Nat) : Prop :=
      isHead s = true ∧ coreRuns s = true ∧ 200 ≤ ns ∧ rising ≠ fbit s .syncCfg 1
    (∀ (rising : Bool) (ns : Nat), ¬ taken rising ns → exec (.syncEdge t rising ns) s = .next (settle s)) ∧
    (∀ (rising : Bool) (ns : Nat), taken rising ns → u.edge = none →
      exec (.syncEdge t rising ns) s = .next (settle { s with cur := { u with edge := some t } })) ∧
    (∀ (rising : Bool) (ns e : Nat), taken rising ns → u.edge = some e →
      let d := t - e
      let l := (d :: u.intervals).take 8
      let n := min 8 (u.since + 1)
      let ok : Prop := l.length = 8 ∧ ∀ x ∈ l, 2000 ≤ x ∧ x ≤ 40000 ∧ 9 * l.sum ≤ 80 * x ∧ 80 * x ≤ 11 * l.sum
      (¬ ok → u.qual = true → exec (.syncEdge t rising ns) s = .next (settle { s with
        cur := { u with edge := some t, intervals := l, since := 0, qual := false }, col := colStand 38 true 0 s.col })) ∧
      ((ok ∧ u.qual = true ∨ u.qual = false ∧ (¬ ok ∨ n < 8)) → exec (.syncEdge t rising ns) s = .next (settle { s with
        cur := { u with edge := some t, intervals := l, since := n } })) ∧
      (u.qual = false → ok → n = 8 → exec (.syncEdge t rising ns) s = .next (settle { s with
        cur := { u with edge := some t, intervals := l, since := n, qual := true }, col := colStand 38 false 0 s.col }))) ∧
    (∀ e, u.edge = some e → isHead s = true → u.qual = true → e + 2 * carrierP u.intervals ≤ t →
      exec (.syncLost t) s = .next (settle { s with
        cur := { u with qual := false, since := 0 }, col := colStand 38 true 0 s.col })) ∧
    ((u.edge = none ∨ isHead s = false ∨ u.qual = false) → exec (.syncLost t) s = .next (settle s)) ∧
    (isHead s = false → fbit s .syncCfg 0 = true → 16 ≤ u.recMiss → exec .fallback s = .next (settle { s with
      cur := { u with tc := 40 * fld s .syncCfg 25 16, carrier := false, fallback := true } })) ∧
    ((isHead s = true ∨ fbit s .syncCfg 0 = false ∨ u.recMiss < 16) → exec .fallback s = .next (settle s))
/-! ### Balancing and diagnostics -/

/-- R218, R226 to R229, R231, R232, R223: balancing. Its four commands complete in every state. A timer decrements after 10
000 counted stitches and sets DONE at 0. A rotation point re-evaluates the budget and moves the pointer to the first eligible
cell, in walking order, that was not granted; the grant formed again is that of R227: the first floor(B_EFF / P) eligible
cells in walking order from the pointer. BAL_ROTATE and BAL_THERMAL follow their bits. A cell held by VMIN for 1000 stitches
raises BAL_VMIN, an event of the one stitch in which its run reaches 1000 (the model's choice, log 80). The open-wire pause of a group
whose unit is 1000 stitches past due starts at its boundary; from the next boundary it holds the group's cells and their neighbours
open, for 16 stitches, and a unit that starts later begins it when it runs (the model's choice, log 78). R57, R94, R222: the plan
that a boundary forms requests no cell outside RUN, in TRIPPED or LOCKOUT, under HALT, with a window of 8 slots, with PMAX 0 or SPLIT
without the radio; else every populated cell with a timer. It grants eligible cells only, of which those of a run of three or more
whose offset in it is the stitch number, both modulo 3, stay open, so that of three adjacent cells one is always open. In a slot
only such a cell's switch, or that of a switch test, under HALT too (log 80), is closed, in RUN, outside the window, with no trip. -/
def Obligations.BalancingActsAtItsPoints : Prop :=
  ∀ s : State,
    let b := s.bal
    let frame (t : State) : Prop := { t with bal := b, col := s.col, safe := s.safe } = s
    let planned (t : State) : Prop :=
      let granted (k : Nat) : Prop := k < 32 ∧ bit t.bal.grant k = true
      (∀ n : Fin 32, (bit t.bal.eligible n.val = true → bit t.bal.requested n.val = true) ∧
        (granted n.val → bit t.bal.eligible n.val = true) ∧
        (bit t.bal.closed n.val = true ↔ granted n.val ∧ ¬ ∃ lo hi : Fin 32, lo ≤ n ∧ n ≤ hi ∧
          (∀ k : Fin 32, lo ≤ k → k ≤ hi → granted k.val) ∧ (lo.val = 0 ∨ ¬ granted (lo.val - 1)) ∧ ¬ granted (hi.val + 1) ∧
          3 ≤ hi.val + 1 - lo.val ∧ (n.val - lo.val) % 3 = (stitch t).toNat % 3)) ∧
      (∀ n : Fin 30, ¬ (bit t.bal.closed n.val = true ∧ bit t.bal.closed (n.val + 1) = true ∧ bit t.bal.closed (n.val + 2) = true))
    ((∀ n : Fin 32, ∃ t, exec (.balTimerDecrement n) s = .next t) ∧ (∃ t, exec .rotationPoint s = .next t) ∧
      (∀ n : Fin 32, ∃ t, exec (.balVmin n) s = .next t) ∧ (∃ t, exec .owPause s = .next t)) ∧
    (∀ n : Fin 32, 10000 ≤ b.presc.getD n.val 0 →
      let v := b.tmr.getD n.val 0
      exec (.balTimerDecrement n) s = .next (settle { s with bal := { b with
        presc := b.presc.set n.val 0, tmr := b.tmr.set n.val (v - 1)
        done := if v = 1 then b.done ||| place 1 n.val else b.done } })) ∧
    (∀ n : Fin 32, b.presc.getD n.val 0 < 10000 → exec (.balTimerDecrement n) s = .next (settle s)) ∧
    (s.time.fresh = true → b.rotated = false → s.time.ptB.toNat % 1000000 = 0 →
      let wait := b.eligPrev &&& ~~~ b.grantPrev
      let pmax := fld s .balCfg 23 16
      let hot : Prop := s.thrm.impl = true ∨ 460 ≤ s.thrm.td
      let p := balP (planView s)
      ∃ t, exec .rotationPoint s = .next t ∧ frame t ∧ t.bal.rotated = true ∧
        (hot → t.bal.budget = 0) ∧ (¬ hot → s.thrm.td ≤ 420 → t.bal.budget = pmax) ∧
        (¬ hot → 420 < s.thrm.td → t.bal.budget = pmax * (460 - s.thrm.td).toNat / 40) ∧
        t.bal.thermal = decide (t.bal.budget < pmax) ∧ t.bal.tmr = b.tmr ∧ t.bal.presc = b.presc ∧
        (wait = 0 → t.bal.ptr = b.ptr ∧ t.bal.rotate = false) ∧
        (∀ k : Fin 32, bit wait ((b.ptr + k.val) % 32) = true → (∀ j < k, bit wait ((b.ptr + j.val) % 32) = false) →
          t.bal.ptr = (b.ptr + k.val) % 32 ∧ t.bal.rotate = true) ∧
        (let walk := (List.range 32).map (fun j => (t.bal.ptr + j) % 32)
         let m := if p = 0 then 32 else t.bal.budget * 100 / p
         ∀ n : Fin 32, bit t.bal.grant n.val = true ↔ n.val ∈ (walk.filter (fun k => bit t.bal.eligible k)).take m) ∧
        (let th := if t.bal.thermal = b.thermal then s.col else colStand 100 t.bal.thermal 0 s.col
         t.col = if t.bal.rotate = b.rotate then th else colStand 99 t.bal.rotate 0 th) ∧
        planned t) ∧
    (∀ i : BoundaryIn, hwslOn s = true → ∃ t, exec (.stitchBoundary i) s = .next t ∧ planned t ∧
      (let stops : Prop := inMode t .run = false ∨ t.safe.state = .tripped ∨ t.safe.state = .lockout ∨ fbit t .balCtrl 16 = true ∨
         t.meas.mwLen = 8 ∨ fld t .balCfg 23 16 = 0 ∨ (isHead t = false ∧ t.mirr.lost = true ∧ t.link.state = .split)
       (stops → t.bal.requested = 0) ∧
       (¬ stops → ∀ n : Fin 32, bit t.bal.requested n.val = true ↔ n.val < ncell t ∧ 0 < t.bal.tmr.getD n.val 0))) ∧
    (∀ i : SlotIn, hwslOn s = true → i.slot.val = nextSlot s → ∃ t, exec (.slotBoundary i) s = .next t ∧
      ∀ n : Fin 32, bit t.bal.sw n.val = true →
        inMode t .run = true ∧ (t.safe.state = .normal ∨ t.safe.state = .degraded) ∧
        (i.slot.val < t.meas.mwFirst ∨ t.meas.mwFirst + t.meas.mwLen ≤ i.slot.val) ∧
        (bit t.bal.closed n.val = true ∨
          t.diag.unit.any (fun u => u.test == 4 && u.bstClose && n.val == 8 * u.group + u.count) = true)) ∧
    ((s.time.fresh = false ∨ b.rotated = true ∨ s.time.ptB.toNat % 1000000 ≠ 0) →
      exec .rotationPoint s = .next (settle s)) ∧
    (∀ n : Fin 32, b.vminRun.getD n.val 0 = 1000 →
      exec (.balVmin n) s = .next (settle { s with col := colRaise 101 (place 1 n.val) s.col })) ∧
    (∀ n : Fin 32, b.vminRun.getD n.val 0 ≠ 1000 → exec (.balVmin n) s = .next (settle s)) ∧
    (∀ u, s.time.fresh = true → s.diag.unit = some u → u.test = 1 → u.pass = false → u.paused = false →
      u.dueAt + 1000 ≤ stitches s → u.count < 16 →
      ∃ t, exec .owPause s = .next t ∧ { t with bal := b, diag := s.diag, meas := s.meas, safe := s.safe } = s ∧
        t.bal.pause = some u.group ∧ t.bal.pauseLeft = 17 ∧ t.bal.tmr = b.tmr ∧ t.bal.presc = b.presc ∧
        (t.diag.unit.map DUnit.paused) = some true) ∧
    (s.time.fresh = false → exec .owPause s = .next (settle s)) ∧
    (∀ (i : BoundaryIn) (g : Nat), hwslOn s = true → s.time.fresh = false → s.dev.inbox = [] → b.pause = some g →
      (∃ u, s.diag.unit = some u ∧ u.test = 1 ∧ u.group = g) → b.pauseLeft ≤ 17 →
      ∃ t, exec (.stitchBoundary i) s = .next t ∧
        (2 ≤ b.pauseLeft → t.bal.pause = some g ∧ t.bal.pauseLeft = b.pauseLeft - 1 ∧
          (∀ n : Fin 32, 8 * g ≤ n.val + 1 → n.val ≤ 8 * g + 8 → bit t.bal.closed n.val = false)) ∧
        (b.pauseLeft ≤ 1 → t.bal.pause = none))

/-- R235, R246 to R248: foreground units. A period starts where none runs, or where its seconds have passed and its last
unit has ended. A unit due joins the waiting ones, or counts as complete when skipped; the next starts when none runs, a
requested one first; at its counted stitches it ends, sets its DONE bit and, for an open-wire unit, ends the pause. A
unit 1000 stitches past due sets LATE, and any but an open-wire unit is abandoned. A switch test is complete with the populated
cells of its group, whatever window length its stitches had (R245). That a requested unit sets its DONE bit too, and that the
instants of the 16 units are rounded down, is the model's reading (log 8). -/
def Obligations.ForegroundUnitsRunInTheirPeriod : Prop :=
  ∀ s : State, s.time.fresh = true →
    let d := s.diag
    let full (u : DUnit) : Prop :=
      (if u.test = 1 ∨ u.test = 2 then 16 else min 8 (ncell s - 8 * u.group)) ≤ u.count
    let frame (t : State) : Prop := { t with diag := d, bal := s.bal, meas := s.meas, safe := s.safe } = s
    (periodDue s = true → exec .diagPeriodStart s = .next (settle { s with diag := { d with
      period := some (stitches s), nextUnit := 0, periodS := fld s .diagCfg 21 16, done := 0, late := 0, due := [] } })) ∧
    (periodDue s = false → exec .diagPeriodStart s = .next (settle s)) ∧
    (∀ p, d.period = some p → streaming s = true → d.nextUnit < 16 → p + d.nextUnit * d.periodS * 1000 / 16 ≤ stitches s →
      let u : DUnit := { test := d.nextUnit % 4 + 1, group := d.nextUnit / 4,
                         dueAt := p + d.nextUnit * d.periodS * 1000 / 16 }
      let skip := unitSkipped s u.test u.group
      exec .unitDue s = .next (settle { s with diag := { d with
        nextUnit := d.nextUnit + 1, done := if skip = true then d.done ||| unitBit u else d.done
        due := if skip = true then d.due else d.due ++ [u] } })) ∧
    ((d.period = none ∨ streaming s = false ∨ 16 ≤ d.nextUnit) → exec .unitDue s = .next (settle s)) ∧
    (∀ u r, d.unit = none → (d.hostQ = u :: r ∨ (d.hostQ = [] ∧ d.due = u :: r ∧ s.sys.startDone = true)) →
      ∃ t x, exec .unitStart s = .next t ∧ frame t ∧ t.diag.unit = some x ∧ x.test = u.test ∧ x.group = u.group ∧
        x.host = u.host ∧ x.pass = u.pass ∧ x.count = u.count ∧ x.dueAt = u.dueAt ∧ t.diag.done = d.done ∧
        (d.hostQ = u :: r → t.diag.hostQ = r ∧ t.diag.due = d.due) ∧
        (d.hostQ = [] → t.diag.hostQ = [] ∧ t.diag.due = r)) ∧
    (∀ u, d.unit = some u → full u → u.pass = false →
      ∃ t, exec .unitComplete s = .next t ∧ frame t ∧ t.diag.unit = none ∧ t.diag.done = d.done ||| unitBit u ∧
        t.diag.due = d.due ∧ t.diag.hostQ = d.hostQ ∧ t.meas.cttCell = none ∧
        t.meas.heldNow = s.cal.holdCells ∧ (u.test = 1 → t.bal.pause = none)) ∧
    (∀ u, d.unit = some u → full u → u.pass = true → u.group < 3 →
      ∃ t x, exec .unitComplete s = .next t ∧ frame t ∧ t.diag.unit = some x ∧ x.test = 1 ∧ x.group = u.group + 1 ∧
        x.pass = true ∧ x.count = 0 ∧ t.diag.done = d.done) ∧
    (∀ u, d.unit = some u → full u → u.pass = true → 3 ≤ u.group →
      ∃ t, exec .unitComplete s = .next t ∧ t.diag.unit = none ∧ t.diag.done = d.done ∧ t.sys = { s.sys with owDone := true } ∧
        { t with diag := d, bal := s.bal, meas := s.meas, safe := s.safe, sys := s.sys } = s) ∧
    (∀ u, d.unit = some u → u.pass = false → u.late = false → u.dueAt + 1000 ≤ stitches s → ¬ full u →
      ∃ t, exec .fgLate s = .next t ∧ { t with diag := d, bal := s.bal, meas := s.meas, safe := s.safe, col := s.col } = s ∧
        t.diag.late &&& unitBit u = unitBit u ∧ t.diag.done = d.done ∧ t.col.pulse.getLsbD 105 = true ∧
        (u.test = 1 → ∃ x, t.diag.unit = some x ∧ x.test = 1 ∧ x.group = u.group ∧ x.count = u.count ∧ x.late = true) ∧
        (u.test ≠ 1 → t.diag.unit = none)) ∧
    (∀ u ∈ d.due, u.pass = false → u.late = false → u.dueAt + 1000 ≤ stitches s →
      ∃ t, exec .fgLate s = .next t ∧ t.diag.late &&& unitBit u = unitBit u ∧ t.col.pulse.getLsbD 105 = true ∧
        (u.test ≠ 1 → u ∉ t.diag.due) ∧ (u.test = 1 → { u with late := true } ∈ t.diag.due))

/-- R238, R239: an open-wire unit whose averages are all there is judged pin by pin; a pin judged open raises OPEN_WIRE
and stands; one judged not open clears. R265, R266: the end of a trim verification: what it reports, which DACs it
restores, and its sources; UNTRIMMED, the image and DAC checks fail. With no evaluated stitch the stack-sum result is
open (log 23), and nothing is said of it. -/
def Obligations.TestsAreJudgedAsTheirRulesSay : Prop :=
  (∀ (g : Nat) (host : Bool) (vd vu : Nat → Int) (s : State), g < 4 → s.diag.owEval = some (g, host) → 2 ≤ ncell s →
     (∀ n < 32, s.diag.vDn.getD n none = some (vd n) ∧ s.diag.vUp.getD n none = some (vu n)) →
     let t : Int := 10000 * (fld s .diagCfg 31 24 : Nat)
     let dv (n : Nat) : Int := vu n - vd n
     let nc := min (ncell s) 32
     let open_ (p : Nat) : Prop :=
       if p = 0 then dv 0 < -t ∧ 2 * ((dv 1).natAbs : Int) < t
       else if p < nc then t < dv (p - 1) ∧ dv p < -t
       else t < dv (nc - 1) ∧ 2 * ((dv (nc - 2)).natAbs : Int) < t
     ncell s ≤ 32 → s.diag.ctt = 0 →
     ∃ u, exec .owEvaluate s = .next u ∧ { u with diag := s.diag, col := s.col, safe := s.safe } = s ∧
       { u.diag with owEval := s.diag.owEval, owPin := s.diag.owPin, dvMax := s.diag.dvMax } = s.diag ∧
       u.diag.owEval = none ∧ u.safe.state = s.safe.state ∧
       (∀ p : Nat, 8 * g ≤ p → p ≤ 8 * g + 8 → p ≤ nc → (u.diag.owPin.getLsbD p = true ↔ open_ p)) ∧
       (∀ p : Nat, p < 33 → (p < 8 * g ∨ 8 * g + 8 < p ∨ nc < p) → u.diag.owPin.getLsbD p = s.diag.owPin.getLsbD p) ∧
       (∀ p : Nat, 8 * g ≤ p → p ≤ 8 * g + 8 → p ≤ nc → open_ p → s.diag.owPin.getLsbD p = false →
         u.col.stand.getLsbD 43 = true ∧ u.col.pulse.getLsbD 43 = true) ∧
       (u.diag.owPin = 0 → s.diag.owPin ≠ 0 → u.col.stand.getLsbD 43 = false)) ∧
  (∀ (dacs : List (Nat × Nat)) (means : List Int) (good : Bool) (s : State),
     (s.diag.tvLeft = some 0 → (s.meas.published = true ∨ s.diag.tvOver = true) → s.diag.tvN ≠ 0 →
       let s1 := { s with cal := dacs.foldl (fun c e => dacSet c e.1 e.2) s.cal }
       let otpOk := otpImageOk good s1
       let dacOk := s.cal.status != 2 && (dacWrong s1).isEmpty
       let bad := fun n : Nat => populated s n && decide (896 ≤ s.diag.tvCellN.getD n 0) && decide (150 < (means.getD n 0).natAbs)
       let ofsOk := (List.range 32).all (fun n => !bad n)
       let sumOk := decide (1000 * s.diag.tvSum.natAbs ≤ s.diag.tvVstk + 10000000 * s.diag.tvN)
       ∃ t, exec (.trimVerifyEnd dacs means good) s = .next t ∧
         { t with cal := s.cal, diag := s.diag, col := s.col, safe := s.safe } = s ∧
         t.diag = { s.diag with tvLeft := none } ∧ t.cal.tvSt = stitch s ∧ t.cal.otpOk = otpOk ∧ t.cal.dacOk = dacOk ∧
         t.cal.ofsOk = ofsOk ∧ t.cal.sumOk = sumOk ∧
         t.cal.result = (if (otpOk && dacOk && ofsOk && sumOk) = true then 1 else 2) ∧
         (s.cal.status = 2 → t.cal.otpOk = false ∧ t.cal.dacOk = false ∧ t.cal.result = 2) ∧
         (otpOk = false → t.cal.repair = s.cal.repair ∧ t.cal.reload = s.cal.reload ∧ t.col.pulse.getLsbD 51 = true) ∧
         (otpOk = true → s.cal.status ≠ 2 → ∀ i ∈ dacWrong s1,
           (∀ n, dacCell i = some n → n ∈ t.cal.repair) ∧ (dacCell i = none → i ∈ t.cal.reload)) ∧
         (dacOk = false → t.col.pulse.getLsbD 51 = true) ∧
         ((ofsOk = false ∨ sumOk = false) → t.col.pulse.getLsbD 52 = true)) ∧
     (¬ (s.diag.tvLeft = some 0 ∧ (s.meas.published = true ∨ s.diag.tvOver = true)) →
       exec (.trimVerifyEnd dacs means good) s = .next (settle s)))

/-! ### Safety inputs -/

/-- R388, R410, R412, R414, R415, R417, R540: the safety inputs. A filtered edge of a channel that runs sets its level, when
its samples hold the new level but for those that a dropout which came excludes (R411), one before a step of pack time by the
numbers of its stitch then; an input in use that is inactive, once
the channel has settled or has seen it active, trips that channel at once with flag [17]; so does a second failure in a row at
a test point of its output, both of them in use, until 8 passes of each; a discrepancy fault trips both channels and begins its reset
sequence. The model's readings (log 15): a change of USE starts the counts of failures afresh, and a sample before a step of pack
time is judged by the stitch numbers of the time before it. -/
def Obligations.SafetyInputsTripTheirChannels : Prop :=
  ∀ s : State,
    let frame (t : State) : Prop :=
      { t with sio := s.sio, safe := s.safe, col := s.col, link := s.link, bob := s.bob } = s ∧
      (tripped s = true → t.safe.state = s.safe.state)
    let ssi (x : State) (ch : Chan) : Bool := match ch with | .a => x.safe.a.ssi | .b => x.safe.b.ssi
    let filt (x : State) (ch : Chan) (n : Nat) : Bool := match ch with | .a => (siGet x.sio n).filtA | .b => (siGet x.sio n).filtB
    let seen (x : State) (ch : Chan) (n : Nat) : Bool := match ch with | .a => (siGet x.sio n).seenA | .b => (siGet x.sio n).seenB
    let trips (ch : Chan) (t : State) : Prop := ssi t ch = true ∧ t.col.stand.getLsbD 13 = true ∧
      (ssi s ch = false → tripped t = true ∧ t.safe.pins = 0 ∧ (tripped s = false →
        t.safe.causeFlags = 2 ∧ (match ch with | .a => t.safe.causeA | .b => t.safe.causeB) = true ∧
        t.safe.causeOrigin = s.sys.addr ∧ t.safe.causeStitch = stitch s))
    (∀ (ch : Chan) (x : Fin 2) (active : Bool) (us : BitVec 10) (l : List Bool), siRuns s ch = true →
      siHolds s active (1000 * stitches s + us.toNat) l = true →
      ∃ t, exec (.siFilterEdge ch x active us l) s = .next t ∧ frame t ∧ filt t ch x.val = active ∧
        t.sio.raw.getLsbD (siBit ch x.val) = l.getLastD active ∧
        (∀ j < 4, j ≠ siBit ch x.val → t.sio.raw.getLsbD j = s.sio.raw.getLsbD j) ∧
        (∀ c n, n < 2 → (c ≠ ch ∨ n ≠ x.val) → filt t c n = filt s c n) ∧
        (active = false → siUse s x.val = true → (siSettled s.sio ch = true ∨ seen s ch x.val = true) → trips ch t)) ∧
    (∀ (ch : Chan) (x : Fin 2) (active : Bool) (us : BitVec 10) (l : List Bool),
      (siRuns s ch = false ∨ siHolds s active (1000 * stitches s + us.toNat) l = false) →
      exec (.siFilterEdge ch x active us l) s = .next (settle s)) ∧
    (∀ (active : Bool) (t : Nat) (l : List Bool),
      let at_ (k : Nat) : Int := t - 10 * (l.length - 1 - k : Nat)
      let came (k : Int) : Prop := stitches s ≤ k + s.sio.tpRun ∧
        (k < stitches s ∨ (s.sys.mode.isSome = true ∧ s.sio.tpOn = true))
      let inside (t m k lo len : Int) : Prop := ∃ i : Nat, i ≤ s.sio.steps.length ∧
        let ahead : Int := if i = 0 then 0 else (s.sio.steps.getD (i - 1) (0, 0)).2
        let begun := 1000 * (m * ((t + 1000 * ahead) / (1000 * m)) + k - ahead)
        begun + lo ≤ t ∧ t ≤ begun + lo + len ∧ (0 < i → begun + lo < (s.sio.steps.getD (i - 1) (0, 0)).1) ∧
        (i < s.sio.steps.length → (s.sio.steps.getD i (0, 0)).1 ≤ begun + lo) ∧ came (begun / 1000)
      let excluded (t : Int) : Prop := inside t 4 1 250 150 ∨ inside t 8 3 625 150 ∨ inside t 8 3 875 150
      siHolds s active t l = true ↔ 201 ≤ l.length ∧ l.head? = some active ∧
        ∀ k < l.length, l.getD k active = active ∨ excluded (at_ k)) ∧
    (∀ ch : Chan, siRuns s ch = true → siSettled s.sio ch = true →
      ∃ t, exec (.siSettled ch) s = .next t ∧ frame t ∧
        (∀ x : Fin 2, siUse s x.val = true → siLevel s.sio ch x.val = false → trips ch t) ∧
        (ssiCond s .a = false → ssiCond s .b = false →
          t.safe.state = s.safe.state ∧ t.safe.a = { s.safe.a with ssi := false } ∧ t.safe.b = { s.safe.b with ssi := false })) ∧
    (∀ ch : Chan, (siRuns s ch = false ∨ siSettled s.sio ch = false) → exec (.siSettled ch) s = .next (settle s)) ∧
    (∀ (b : Bool) (lv : BitVec 4), siRuns s .a = true → siRuns s .b = true → s.sys.mode.isSome = true → pointHere s b = true →
      ∃ t, exec (.testPoint b lv) s = .next t ∧ frame t ∧ t.sio.raw = lv ∧ t.sio.points = min (s.sio.points + 1) 0xFFFF ∧
        ∀ x : Fin 2,
          let i := siGet s.sio x.val
          let j := siGet t.sio x.val
          let count (n : Nat) : Nat := if i.wasUse == siUse s x.val then n else 0
          let both : Bool := siLevel s.sio .a x.val && siLevel s.sio .b x.val
          let bad : Bool := (lv.getLsbD (2 * x.val) != b) || (lv.getLsbD (2 * x.val + 1) == b)
          (siUse s x.val = true → both = false → j = { i with unusedErr := false, wasUse := true, failA := count i.failA, failB := count i.failB }) ∧
          ((siUse s x.val = false ∨ both = true) → bad = true →
            (b = false → j.failA = count i.failA + 1 ∧ j.passA = 0 ∧ j.failB = count i.failB) ∧
            (b = true → j.failB = count i.failB + 1 ∧ j.passB = 0 ∧ j.failA = count i.failA)) ∧
          (siUse s x.val = true → both = true → bad = true → b = false → 1 ≤ count i.failA →
            j.pulseA = true ∧ t.col.stand.getLsbD 15 = true ∧ t.safe.a.ssi = true ∧
            (s.safe.a.ssi = false → tripped t = true ∧ t.safe.pins = 0)) ∧
          (siUse s x.val = true → both = true → bad = true → b = true → 1 ≤ count i.failB →
            j.pulseB = true ∧ t.col.stand.getLsbD 15 = true ∧ t.safe.b.ssi = true ∧
            (s.safe.b.ssi = false → tripped t = true ∧ t.safe.pins = 0)) ∧
          (siUse s x.val = true → both = true → bad = false → b = false → 7 ≤ i.passA → 8 ≤ i.passB →
            j.pulseA = false ∧ j.pulseB = false) ∧
          (siUse s x.val = true → both = true → bad = false → b = true → 7 ≤ i.passB → 8 ≤ i.passA →
            j.pulseA = false ∧ j.pulseB = false)) ∧
    (∀ (b : Bool) (lv : BitVec 4), pointHere s b = false → exec (.testPoint b lv) s = .next (settle s)) ∧
    (∀ x : Fin 2, (siGet s.sio x.val).due = true →
      ∃ t, exec (.siDisc x) s = .next t ∧ frame t ∧ (siGet t.sio x.val).disc = true ∧ (siGet t.sio x.val).rst = 1 ∧
        (siGet t.sio x.val).due = false ∧ tripped t = true ∧ t.safe.pins = 0 ∧
        (siUse s x.val = true → t.safe.a.ssi = true ∧ t.safe.b.ssi = true ∧ t.col.stand.getLsbD 14 = true)) ∧
    (∀ x : Fin 2, (siGet s.sio x.val).due = false → exec (.siDisc x) s = .next (settle s))

/-- R283 to R286, R289: at a boundary the readings of the eight oscillators of the stitch that ended, an implausible one read as
135.00 °C, give T_D and the inhibits and warnings of the thresholds; a shutdown condition counts, and so do the boundaries with every oscillator
plausible. R262, R263: the trims of the
first boundary, which compare the targets, and one LSB of the ramp at each boundary after, until RAMP_DONE. R252: the background
tests of the safety task, outside for 3 stitches and inside for 8, the patrols and the oscillators. R146, R111: IRQ_N after a
boundary, which nothing drives in SLEEP and SHIP. The characteristic of an oscillator is open (log 51). -/
def Obligations.DieTrimsTestsAndIrqFollowTheStitch : Prop :=
  (∀ (i : BoundaryIn) (s : State), hwslOn s = true → s.time.fresh = false → thermalDue s = false →
    let temp (k : Nat) : Int := Config.roTemp (s.thrm.roChar.getD k none) (i.dies.getD k 0)
    let plaus (k : Nat) : Bool := decide (-220 ≤ temp k) && decide (temp k ≤ 700)
    let read (k : Nat) : Int := if plaus k then temp k else 540
    let impl : Bool := (List.range 8).any (fun k => !plaus k)
    let shut : Bool := (List.range 8).any (fun k => plaus k && decide (600 ≤ temp k)) ||
      (List.range 4).any (fun d => !plaus (2 * d) && !plaus (2 * d + 1))
    ∃ t, exec (.stitchBoundary i) s = .next t ∧
      (let h := t.thrm
       (∀ k : Fin 8, h.dies.getD k.val {} = ⟨read k.val, plaus k.val⟩ ∧ read k.val ≤ h.td ∧
         (k.val < h.hotIdx → read k.val < h.td)) ∧ h.hotIdx < 8 ∧ read h.hotIdx = h.td ∧
       h.otpInh = (decide (440 < h.td) || impl) ∧ h.throttle = decide (420 < h.td) ∧ h.impl = impl ∧
       h.implOk = (if impl then 0 else s.thrm.implOk + 1) ∧
       h.warn = (if s.thrm.warn then decide (440 < h.td) else decide (460 ≤ h.td)) ∧
       h.nvmInh = (if s.thrm.nvmInh then decide (520 < h.td) else decide (540 ≤ h.td)) ∧
       h.sdRun = (if shut then s.thrm.sdRun + 1 else 0) ∧
       t.col.stand.getLsbD 110 = h.warn ∧ t.col.stand.getLsbD 111 = h.nvmInh)) ∧
  (∀ (i : BoundaryIn) (s : State), hwslOn s = true → coreRuns s = true → s.time.fresh = false → s.dev.inbox = [] →
    s.dev.bcasts = [] → i.copyB = none → s.safe.misses < 15 → thermalDue s = false → s.cal.repair = [] → s.cal.reload = [] →
    s.otp.job = none →
    let c := s.cal
    let nearer (a b : Nat) : Nat := if a < b then a + 1 else if b < a then a - 1 else a
    let there (x : CalSt) : Bool := (List.range 34).all (fun k =>
      x.ofs.getD k 512 == x.ofsT.getD k 512 && x.gain.getD k 2048 == x.gainT.getD k 2048)
    let ws := genWords s.otp 1 c.gen
    let held : Bool := c.status == 2 || (c.ofsT == (List.range 34).map (trimOfs ws) && c.gainT == (List.range 34).map (trimGain ws))
    ∃ t, exec (.stitchBoundary i) s = .next t ∧
      (c.checkDue = false → c.ramp = false → t.cal.ofs = c.ofs ∧ t.cal.gain = c.gain ∧ t.sys.rampDone = s.sys.rampDone) ∧
      (c.checkDue = false → c.ramp = true →
        (∀ k : Fin 34, t.cal.ofs.getD k.val 512 = nearer (c.ofs.getD k.val 512) (c.ofsT.getD k.val 512) ∧
          t.cal.gain.getD k.val 2048 = nearer (c.gain.getD k.val 2048) (c.gainT.getD k.val 2048)) ∧
        t.cal.ofsT = c.ofsT ∧ t.cal.gainT = c.gainT ∧ t.cal.ramp = !there t.cal ∧
        t.sys.rampDone = (s.sys.rampDone || there t.cal)) ∧
      (c.checkDue = true →
        t.cal.checkDue = false ∧ t.sys.rampDone = (s.sys.rampDone || there t.cal) ∧ (there t.cal = false → t.cal.ramp = true) ∧
        (i.trimDiff.val < 2 ∨ c.status = 2 → t.cal.ofs = c.ofs ∧ t.cal.gain = c.gain ∧ t.cal.status = c.status) ∧
        (i.trimDiff.val = 0 → held = true → t.cal.ofsT = c.ofsT ∧ t.cal.gainT = c.gainT) ∧
        ((i.trimDiff.val = 1 ∨ i.trimDiff.val = 0 ∧ held = false) → c.status ≠ 2 →
          t.cal.ofsT = (List.range 34).map (trimOfs ws) ∧ t.cal.gainT = (List.range 34).map (trimGain ws)) ∧
        (i.trimDiff.val = 2 → c.status ≠ 2 → t.cal.status = 2 ∧ (∀ k : Fin 34, t.cal.ofs.getD k.val 0 = 512 ∧
          t.cal.gain.getD k.val 0 = 2048) ∧ there t.cal = true ∧ t.col.stand.getLsbD 49 = true))) ∧
  (∀ (i : TaskIn) (s : State), taskDue s = true → (inMode s .standby = true ∨ streaming s = true) → s.meas.complete = true →
    let last (k : Nat) : Option Nat := (s.meas.prevAux.filter (fun e => e.2.1.val == k)).getLast?.map (fun e => e.2.2)
    let next (out : Bool) (p : Persist) : Persist :=
      if out then { out := p.out + 1, ok := 0, stand := p.stand || decide (3 ≤ p.out + 1) }
      else { out := 0, ok := p.ok + 1, stand := p.stand && decide (p.ok + 1 < 8) }
    let d := s.diag

    ∃ t, exec (.safetyTask i) s = .next t ∧
      (last 1 = none → t.diag.ref = d.ref) ∧ (∀ c, last 1 = some c → t.diag.ref = next (decide (c < 2475 ∨ 2525 < c)) d.ref) ∧
      (last 3 = none → t.diag.path = d.path) ∧
      (∀ c, last 3 = some c → t.diag.path = next (decide (c < 2970 ∨ 3030 < c ∨ (s.temp.havePrev = true ∧
        (10000 * s.temp.tapPrev < 4980 * 65536 ∨ 5020 * 65536 < 10000 * s.temp.tapPrev)))) d.path) ∧
      (inMode s .standby = true → t.diag.stk = d.stk) ∧
      (∀ (c : Nat) (a : Avg), streaming s = true → last 2 = some c → s.meas.res.stack = some a → s.meas.auxHeldPrev.getLsbD 0 = false →
        streamGate s = true →
        let v : Int := (100 * field100 (stackUv s a) : Nat)
        t.diag.stk = next (decide (v + 50000000 < 100 * ((50000 * (c : Int) - v).natAbs : Int))) d.stk) ∧
      t.thrm.implStand = (s.thrm.impl || (s.thrm.implStand && decide (s.thrm.implOk < 8))) ∧ t.thrm.implOk = s.thrm.implOk ∧
      (t.diag.ref.stand ≠ d.ref.stand → t.col.stand.getLsbD 45 = t.diag.ref.stand) ∧
      (t.diag.stk.stand ≠ d.stk.stand → t.col.stand.getLsbD 46 = t.diag.stk.stand) ∧
      (t.diag.path.stand ≠ d.path.stand → t.col.stand.getLsbD 47 = t.diag.path.stand) ∧
      t.col.stand.getLsbD 109 = t.thrm.implStand ∧
      t.diag.romPos = (d.romPos + 1) % 384 ∧ t.diag.sramPos = (d.sramPos + 1) % 256 ∧
      t.diag.romPass = (d.romPass + (d.romPos + 1) / 384) % 256 ∧ t.diag.sramPass = (d.sramPass + (d.sramPos + 1) / 256) % 256 ∧
      ((i.romErr.isSome = true ∨ i.romFetch.isSome = true) → t.diag.rom = true ∧
        (d.rom = false → t.col.stand.getLsbD 106 = true ∧ t.col.pulse.getLsbD 106 = true)) ∧
      ((i.sramUe ≠ [] ∨ i.coreUe ≠ []) → t.diag.ramUe = true ∧
        (d.ramUe = false → t.col.stand.getLsbD 108 = true ∧ t.col.pulse.getLsbD 108 = true)) ∧
      t.diag.sramCe = min (d.sramCe + i.sramCe.length + i.coreCe.length) 0xFFFF ∧
      ((i.sramCe ≠ [] ∨ i.coreCe ≠ []) → t.col.stand.getLsbD 107 = true ∧ t.diag.ce = next true { d.ce with stand := true }) ∧
      (i.sramCe = [] → i.coreCe = [] → t.diag.ce = next false d.ce)) ∧
  (∀ (i : BoundaryIn) (s : State), hwslOn s = true → ∃ t, exec (.stitchBoundary i) s = .next t ∧
    (t.host.irq = true ↔ isHead t = true ∧ linkUp t = true ∧ ((∃ r ∈ t.col.queue, fld t .hostCfg 1 0 ≤ r.level) ∨
      (fbit t .hostCfg 8 = true ∧ t.host.doneQ ≠ []))))

/-! ### OTP and the journal -/

/-- R503, R421, R422, R424, R507, R539, R514: programming. At its boundary an accepted request starts, unless programming
is inhibited: then it ends with result 3 in its own register; programming that thermal shutdown has stopped does not finish (R290).
TRIM and IDENT start in FACTORY alone, after a change of mode that is due (R3; the lapse is the model's reading, log 59). A
generation that reads back right is burned whole, takes force, seals the set
(SAFETY) or clears the kept values (CONFIG); one that does not counts as used only, its check word unprogrammed (log 33).
Every byte outside the words burned reads as before, and every byte inside has only bits added. R504, R507, R517: a hold ends
programming; a generation whose words were all complete and that is valid shows result 1 and, of CONFIG, clears the kept values; any
other shows result 3. -/
def Obligations.OtpProgramsItsGeneration : Prop :=
  ∀ s : State,
    let o := s.otp
    let shown (b code : Nat) (t : State) : Prop :=
      (b = 3 → t.safe.sres = (if code = 1 then 2 else code) ∧ t.safe.pres = s.safe.pres) ∧
      (b = 4 → t.safe.pres = (if code = 1 then 2 else code) ∧ t.safe.sres = s.safe.sres) ∧
      (b ≠ 3 → b ≠ 4 → t.safe.sres = s.safe.sres ∧ t.safe.pres = s.safe.pres) ∧
      ((b = 3 ∨ b = 4) → code = 3 → t.col.pulse.getLsbD 114 = true)
    let due (j : OtpJob) : Prop := o.req = some j ∧ s.time.fresh = true ∧ j.start ≤ stitches s ∧
      ¬ (j.block < 3 ∧ s.sys.modeDue = true)
    let barred (j : OtpJob) : Prop := s.thrm.otpInh = true ∨ (j.block ≠ 3 ∧ j.block ≠ 4 ∧ s.pwr.buckFault = true) ∨
      (j.block < 3 ∧ inMode s .factory = false)
    ((∀ j, ¬ due j) → exec .otpProgramStart s = .next (settle s)) ∧
    (∀ j, due j → barred j →
      ∃ t, exec .otpProgramStart s = .next t ∧ { t with otp := o, safe := s.safe, col := s.col } = s ∧
        t.otp = { o with req := none, result := if j.block = 3 ∨ j.block = 4 then o.result else 3 } ∧ shown j.block 3 t) ∧
    (∀ j, due j → ¬ barred j →
      ∃ c f, exec .otpProgramStart s = .next (settle { s with
          free := f
          otp := { o with
            req := none, block := j.block, gen := jobGen j.block o, words := 0, result := 0
            job := some { block := j.block, gen := jobGen j.block o, words := genForm j.block (jobGen j.block o) c
                          done := 0, start := stitches s } } }) ∧
        (j.block = 3 → f = s.free ∧ c.take 20 = setWords sealRegs s.cfg ∧ c.getD 20 0 = sealOf s.cfg) ∧
        (j.block = 4 → f = s.free ∧ c = packContent s.cfg ((stagedKey s).getD []) (j.words.getD 0 0) s) ∧
        (j.block = 5 → f = s.free ∧ c = setWords configRegs s.cfg ++ [0, 0]) ∧
        (j.block = 2 → c.drop 3 = [0, 0, 0]) ∧ (j.block = 1 → c.drop 47 = [0, 0, 0])) ∧
    (∀ good : Bool, o.job = none → exec (.otpProgramComplete good) s = .next (settle s)) ∧
    (∀ (good : Bool) (j : OtpJob), o.job = some j → j.stop ≠ none →
      exec (.otpProgramComplete good) s = .next (settle s)) ∧
    (∀ (k : Fin 3) (j : OtpJob), o.job = some j → s.sys.phase = .coreOn → s.sys.mode ≠ some .ship →
      ∃ t, exec (.railFault k) s = .next t ∧ t.otp.job = none ∧
        (let whole : Prop := j.words.length ≤ j.stop.getD j.done ∧ genValid t.otp j.block j.gen = true
         (whole → (j.block = 3 → t.safe.sres = 2) ∧ (j.block = 4 → t.safe.pres = 2) ∧ (j.block ≠ 3 → j.block ≠ 4 → t.otp.result = 1) ∧
           (j.block = 5 → t.sys.headEnKept = none ∧ t.sys.xtalKept = none)) ∧
         (¬ whole → (j.block = 3 → t.safe.sres = 3) ∧ (j.block = 4 → t.safe.pres = 3) ∧ (j.block ≠ 3 → j.block ≠ 4 → t.otp.result = 3)) ∧
         (¬ whole ∨ j.block ≠ 5 → t.sys.headEnKept = s.sys.headEnKept ∧ t.sys.xtalKept = s.sys.xtalKept))) ∧
    (∀ (good : Bool) (j : OtpJob), o.job = some j → j.stop = none → memWf o.mem = true →
      let n := if good then j.words.length else j.words.length - 1
      let base := blockBase j.block j.gen
      let bytes := (j.words.take n).flatMap wordBytes
      ∃ t, exec (.otpProgramComplete good) s = .next t ∧
        { t with otp := o, safe := s.safe, col := s.col, jrnl := s.jrnl, sys := s.sys } = s ∧
        t.otp.job = none ∧ t.otp.req = o.req ∧ t.otp.words = j.words.length ∧
        t.otp.result = (if good then 1 else 3) ∧ shown j.block (if good then 1 else 3) t ∧
        memWf t.otp.mem = true ∧
        (∀ a, a < base ∨ base + bytes.length ≤ a → memGet t.otp.mem a = memGet o.mem a) ∧
        (∀ k < bytes.length, memGet t.otp.mem (base + k) = memGet o.mem (base + k) ||| bytes.getD k 0) ∧
        (j.block = 3 → t.otp.usedS = o.usedS ||| BitVec.ofNat 4 (2 ^ j.gen) ∧
          (good = true → t.otp.genS = some j.gen ∧ t.otp.validS = o.validS ||| BitVec.ofNat 4 (2 ^ j.gen) ∧ t.safe.sealed = true) ∧
          (good = false → t.otp.genS = o.genS ∧ t.otp.validS = o.validS ∧ t.safe.sealed = s.safe.sealed)) ∧
        (j.block = 4 → t.otp.usedP = o.usedP ||| BitVec.ofNat 4 (2 ^ j.gen) ∧ t.otp.genP = (if good then some j.gen else o.genP)) ∧
        (j.block = 5 → t.otp.usedC = o.usedC ||| BitVec.ofNat 4 (2 ^ j.gen) ∧ t.otp.genC = (if good then some j.gen else o.genC) ∧
          (good = true → t.sys = { s.sys with headEnKept := none, xtalKept := none })) ∧
        ((j.block ≠ 5 ∨ good = false) → t.sys = s.sys) ∧
        (∃ r, t.jrnl = { s.jrnl with queue := s.jrnl.queue ++ [r] } ∧ r.code = 7 ∧ r.source = 0x7F ∧
          r.mand = false ∧ r.data0 = place j.block 16 ||| place j.gen 8 ||| (if good then 1 else 3) ∧
          r.data1 = (if good then j.words.getLastD 0 else 0)))

/-- R512, R513, R515, R516, R288, R41: JOURNAL_RECORD_WRITE writes the record in progress, else the oldest mandatory record,
or, when none waits and writes are not inhibited or shed, the oldest of the core's queue, under the next number into its slot;
a record in progress completes through an inhibit, and on the keeper, which carries no write (R484). A record that fails its
readback stays first, is counted, and raises JRNL_WEAR; so does number 46 080 000. In a thermal shutdown with no record to write a failed
write is that of the THERMAL_SD record to come (the model's choice, log 81). -/
def Obligations.JournalWritesInNumberOrder : Prop :=
  ∀ (good : Bool) (s : State),
    let j := s.jrnl
    let held : Bool := s.thrm.nvmInh || decide (3 ≤ s.time.shed)
    let idle : Prop := j.mand = [] ∧ (j.queue = [] ∨ (held = true ∧ j.busy = none))
    let shuts : Prop := s.thrm.sdWait = true ∧ good = false ∧ s.pwr.src ≠ 2
    ((idle ∧ ¬ shuts) ∨ (s.pwr.src = 2 ∧ j.busy = none) →
      exec (.journalRecordWrite good) s = .next (settle s)) ∧
    (idle → shuts → ∃ t, exec (.journalRecordWrite good) s = .next t ∧ { t with jrnl := j, col := s.col, safe := s.safe } = s ∧
      t.jrnl = { j with
        slots := slotSet j.slots (j.next.toNat % 512) none, next := j.next + 1
        badSlot := min (j.badSlot + 1) 0xFFFF, wear := true } ∧
      t.col = if j.wear = true then s.col else colStand 125 true 0 s.col) ∧
    (∀ r rest,
      let fromMand : Prop := j.mand = r :: rest ∧ (j.busy = some true ∨ (j.busy = none ∧ s.pwr.src ≠ 2))
      let fromQueue : Prop := j.queue = r :: rest ∧ (j.busy = some false ∨ (j.busy = none ∧ j.mand = [] ∧ held = false ∧ s.pwr.src ≠ 2))
      fromMand ∨ fromQueue →
      ∃ t, exec (.journalRecordWrite good) s = .next t ∧ { t with jrnl := j, col := s.col, safe := s.safe } = s ∧
        t.jrnl.next = j.next + 1 ∧ t.jrnl.dropped = j.dropped ∧
        t.jrnl.slots = slotSet j.slots (j.next.toNat % 512) (if good = true then some (jrnlWords j.next r) else none) ∧
        t.jrnl.badSlot = (if good = true then j.badSlot else min (j.badSlot + 1) 0xFFFF) ∧
        t.jrnl.wear = (j.wear || !good || decide (46080000 ≤ (j.next + 1).toNat)) ∧
        (j.wear = false → t.jrnl.wear = true → t.col = colStand 125 true 0 s.col) ∧
        ((j.wear = true ∨ t.jrnl.wear = false) → t.col = s.col) ∧
        (good = false → t.jrnl.mand = j.mand ∧ t.jrnl.queue = j.queue ∧ t.jrnl.dropSince = j.dropSince ∧
          (fromMand → t.jrnl.busy = some true) ∧ (fromQueue → t.jrnl.busy = some false)) ∧
        (good = true → (fromMand → t.jrnl.mand = rest) ∧ (fromQueue → t.jrnl.mand = j.mand) ∧
          (t.jrnl.mand ≠ [] → s.pwr.src ≠ 2 → t.jrnl.busy = some true) ∧ (s.pwr.src = 2 → t.jrnl.busy = none) ∧
          (t.jrnl.mand = [] → held = true → t.jrnl.busy = none) ∧
          (∀ q, (fromMand → q = j.queue) → (fromQueue → q = rest) →
           ((j.dropSince = 0 ∨ 16 ≤ q.length) → t.jrnl.queue = q ∧ t.jrnl.dropSince = j.dropSince) ∧
           (0 < j.dropSince → q.length < 16 → t.jrnl.dropSince = 0 ∧
             ∃ d, t.jrnl.queue = q ++ [d] ∧ d.code = 9 ∧ d.data0 = BitVec.ofNat 32 j.dropSince)))) ∧
    (∀ (num : Word) (r : JPend),
      let w := jrnlWords num r
      w.length = 8 ∧ w.getD 0 0 = num ∧ w.getD 2 0 = r.pt.setWidth 32 ∧ w.getD 5 0 = r.data0 ∧ w.getD 6 0 = r.data1 ∧
        w.getD 7 0 = crc32Words (w.take 7))

/-! ### The link -/

/-- R44 to R46, R89, R298, R305, R307, R311, R313, R316, R320, R321, R324, R459: STARTs, the burst and TRIP words. What
arrives at a member on a port that is not folded goes out on its other port, or on the same one when the other is folded;
the head, and a member that no START has reached (R101), send nothing on. A folded port takes no START (R320). The model's
readings: UPSTREAM_LOST only after a stream has served, and address 63 locks without a delay (log 10); a later pass is told by
its time (log 56); no START is expected before a member's first (log 68). -/
def Obligations.StartsBurstsAndTripWordsAreTaken : Prop :=
  ∀ s : State, linkUp s = true →
    let l := s.link
    let outOf (p : Port) : Option Port :=
      if (portGet l p).folded = true then none
      else if (portGet l (match p with | .l => .u | .u => .l)).folded = true then some p
      else some (match p with | .l => .u | .u => .l)
    let onward (p : Port) (x : List Sym) : List (Port × Sym) :=
      match outOf p with | none => l.fwdTx | some o => l.fwdTx ++ x.map (fun y => (o, y))
    let passed (p : Port) (x : List Sym) : List (Port × Sym) := if l.started = true then onward p x else l.fwdTx
    (∀ (p : Port) (w : Word) (late : Int), (bits w 14 0 ≠ 0 ∨ (portGet l p).folded = true) →
      exec (.startReceive p w late) s = .next (settle s)) ∧
    (∀ (p : Port) (w : Word) (late : Int), bits w 14 0 = 0 → (portGet l p).folded = false → isHead s = true → s.sys.listen = false →
      exec (.startReceive p w late) s = .next (settle { s with
        link := portPut l p { portGet l p with start := true, startNs := late } })) ∧
    (∀ (p : Port) (w : Word) (late : Int), bits w 14 0 = 0 → (portGet l p).folded = false → isHead s = true → s.sys.listen = true →
      ∃ t, exec (.startReceive p w late) s = .next t ∧ t.col.pulse.getLsbD 82 = true ∧ t.link.started = true ∧
        t.sys = { s.sys with role := .member, roleConflict := true, listen := false, sending := false, addr := 63 } ∧
        t.enum.epoch = 0 ∧ t.pwr.wakeOut = false) ∧
    (∀ (p : Port) (w : Word) (late : Int), bits w 14 0 = 0 → (portGet l p).folded = false → isHead s = false →
      let k := serveNext s p late
      let own := k = portStream p
      let takes : Prop := own ∨ k ≠ l.serve
      ∃ t, exec (.startReceive p w late) s = .next t ∧
        { t with link := l, time := s.time, cur := s.cur, col := s.col, safe := s.safe } = s ∧
        t.link.serve = k ∧ t.link.started = true ∧ t.link.fwdTx = onward p [.start w] ∧
        portGet t.link p = { portGet l p with start := true, startNs := late, later := startLater s p late } ∧
        t.time.pt = s.time.pt ∧ t.time.ptB = s.time.ptB ∧
        (¬ takes → t.time = s.time ∧ t.cur = s.cur) ∧
        (takes → t.cur = { s.cur with skew := skewOf t } ∧ t.link.startRx = w ∧ t.time.radioSync = false) ∧
        (own → t.link.phaseNs = late) ∧
        (takes → s.time.locked = false → ringStitch t = BitVec.ofNat 16 (bits w 31 16)) ∧
        (takes → ∀ d, pathDelay s k = some d →
          t.time.hopDly = d ∧ t.time.flywheel = false ∧ t.time.flyRun = 0 ∧ t.link.startNow = 1) ∧
        (takes → pathDelay s k = none → t.time.hopDly = s.time.hopDly ∧ t.time.flywheel = (s.sys.addr != 63)) ∧
        (l.started = true → k ≠ l.serve → t.col = colRaise 65 0 s.col) ∧
        ((l.started = false ∨ k = l.serve) → t.col = s.col)) ∧
    (isHead s = false → l.started = true → l.startNow = 0 → ∃ k,
      exec .startMissed s = .next (settle { s with
        link := { l with startNow := 2, startMiss := min (l.startMiss + 1) 255 }
        time := { s.time with flywheel := true, missed := min (s.time.missed + 1) 0xFF, flyRun := s.time.flyRun + 1 }
        cur := { s.cur with skew := k } })) ∧
    ((isHead s = true ∨ l.started = false ∨ l.startNow ≠ 0) → exec .startMissed s = .next (settle s)) ∧
    (∀ (p : Port) (w : Word),
      let n : BitVec 16 := BitVec.ofNat 16 (bits w 15 0)
      let flags : BitVec 8 := BitVec.ofNat 8 (bits w 23 16)
      let l0 : LinkSt := { l with fwdTx := if isHead s = true then l.fwdTx else passed p [.trip w] }
      let tok : LinkSt := { l0 with tokOrigin := BitVec.ofNat 6 (bits w 31 26), tokCh := BitVec.ofNat 2 (bits w 25 24)
                                    tokFlags := flags, tokRx := min (l.tokRx + 1) 0xFF }
      let valid := n = ringStitch s ∨ n = ringStitch s - 1
      (¬ valid → exec (.tripWordReceive p w) s = .next (settle { s with
        link := { l0 with tokBad := min (l.tokBad + 1) 0xFF }, col := colRaise 70 0 s.col })) ∧
      (valid → isHead s = true →
        ∃ t, exec (.tripWordReceive p w) s = .next t ∧ { t with link := l, safe := s.safe, bob := s.bob } = s ∧ t.link = tok ∧
          tripped t = true ∧ t.safe.pins = 0 ∧
          (tripped s = false → t.safe.causeFlags = flags ∧ t.safe.causeOrigin = BitVec.ofNat 6 (bits w 31 26))) ∧
      (valid → isHead s = false →
        ∃ t, exec (.tripWordReceive p w) s = .next t ∧ { t with link := l, safe := s.safe, bob := s.bob } = s ∧
          t.safe = { s.safe with pins := 0 } ∧
          ∃ h, t.link = { tok with hold := some h } ∧ (l.hold = none → h = n + 2) ∧
            (∀ m, l.hold = some m → h = if (n + 2 - m).toNat < 32768 then n + 2 else m))) ∧
    (∀ (st : Stream) (ws : List LinkWord), (isHead s = true ∨ (portGet l (streamPort (streamCode st))).folded = true) →
      exec (.commandBurstReceive st ws) s = .next (settle s)) ∧
    (∀ (st : Stream) (ws : List LinkWord), isHead s = false → (portGet l (streamPort (streamCode st))).folded = false →
      (∀ w ∈ ws, wordErr w = false) → (l.serve ≠ streamCode st ∨ ws.length < 15) →
      exec (.commandBurstReceive st ws) s = .next (settle { s with
        link := { l with fwdTx := passed (streamPort (streamCode st)) (ws.map Sym.word) } })) ∧
    (∀ (st : Stream) (ws : List LinkWord), isHead s = false → (portGet l (streamPort (streamCode st))).folded = false →
      (∀ w ∈ ws, wordErr w = false) → l.serve = streamCode st → 15 ≤ ws.length → (∀ w ∈ ws.take 15, w.ty = 0xA) →
      let pw : List Word := ws.map (fun w => w.payload)
      let pt : BitVec 64 := (pw.getD 0 0) ++ (pw.getD 1 0)
      ∃ t, exec (.commandBurstReceive st ws) s = .next t ∧ t.cfgW = s.cfgW ∧ t.otp = s.otp ∧ t.sys = s.sys ∧
        t.safe.state = s.safe.state ∧ t.link.fwdTx = passed (streamPort (streamCode st)) (ws.map Sym.word) ∧
        t.time.ptB = (if s.sys.addr ≠ 63 ∧ (s.time.locked = false ∨ s.time.ptB.toNat ≤ pt.toNat) then pt else s.time.ptB) ∧
        t.time.locked = (s.time.locked || s.sys.addr != 63) ∧
        t.link.hs = headStateOf (pw.getD 2 0) (ringStitch t) (stitches t) ∧
        t.link.cont = bits (pw.getD 2 0) 23 18 ∧ t.link.hold = holdEnds l.hold (ringStitch t) ∧
        t.cur.recNow = true ∧ t.cur.recValid = bit (pw.getD 3 0) 31 ∧ t.cur.recP = bits (pw.getD 4 0) 15 0 ∧
        t.imp.curValid = bit (pw.getD 5 0) 31 ∧ (∀ g ∈ l.grants, g ∈ t.link.grants))

/-- R119, R122, R298, R302, R312, R314, R317, R318, R423: what the head reads, what a member sends on, and thread messages,
judged at the boundary that ends their period. On the first pass of a stream a member puts its own summary into its container
(R306, R311); the head notes what each container brought back: nothing, an empty one or a copy (log 65). A reply waits for the
earlier ones of its device. R119: ALT says that a fold returned it, at port L, from a device whose grant in force sent it on BACK. -/
def Obligations.SummariesRepliesAndMessagesAreTaken : Prop :=
  ∀ s : State, linkUp s = true →
    let l := s.link
    let box (a : BitVec 6) (k : Nat) : List Member := l.members.modify a.toNat (fun m => { m with box := max m.box k })
    let bad (a : BitVec 6) : State := { s with link := { l with sumCrc := min (l.sumCrc + 1) 0xFFFF, members := box a 2 } }
    let own (p : Port) (a : BitVec 6) : Prop := 2 ≤ s.sys.addr.toNat ∧ s.sys.addr.toNat ≤ 62 ∧ s.sys.addr.toNat ≤ l.cont + 1 ∧
      a = s.sys.addr ∧ portUsable l p = true ∧ (portGet l p).later = false
    let out (p : Port) (ws : List LinkWord) : List (Port × Sym) := if l.started = false then l.fwdTx else
      match outPort l p with | none => l.fwdTx | some o => l.fwdTx ++ ws.map (fun w => (o, Sym.word w))
    let reads : Prop := isHead s = true ∧ s.sys.sending = true
    let clean (ws : List LinkWord) : Prop := ∀ w ∈ ws, wordErr w = false
    (∀ (p : Port) (a : BitVec 6) (ws : List LinkWord), isHead s = true → s.sys.sending = false →
      exec (.summaryReceive p a ws) s = .next (settle s)) ∧
    (∀ (p : Port) (a : BitVec 6) (ws : List LinkWord), isHead s = false →
      (¬ own p a → exec (.summaryReceive p a ws) s = .next (settle (wordsThrough p ws s))) ∧
      (own p a → clean ws →
        let was := match p with | .l => l.sumOut | .u => l.sumBack
        let copy := if was = [] then summaryWords s else was
        exec (.summaryReceive p a ws) s = .next (settle { s with link := { l with
          sumOut := (match p with | .l => copy | .u => l.sumOut)
          sumBack := (match p with | .l => l.sumBack | .u => copy), fwdTx := out p copy } })) ∧
      (exec (.replyFrameReceive p ws) s = .next (settle (wordsThrough p ws s))) ∧
      (exec (.eventRecordReceive p ws) s = .next (settle (wordsThrough p ws s))) ∧
      ((portGet l p).folded = true → wordsThrough p ws s = s) ∧
      ((portGet l p).folded = false → clean ws → wordsThrough p ws s = { s with link := { l with fwdTx := out p ws } })) ∧
    (∀ (p : Port) (a : BitVec 6) (ws : List LinkWord), reads →
      ∃ t, exec (.summaryReceive p a ws) s = .next t ∧
        (portGet t.link p).errNow = (portGet l p).errNow + ws.countP wordErr) ∧
    (∀ (p : Port) (a : BitVec 6) (ws : List LinkWord), reads → clean ws → (∀ w ∈ ws, w.ty = 0xF) →
      exec (.summaryReceive p a ws) s = .next (settle { s with link := { l with
        members := box a (if ws.length = 4 then 1 else 0) } })) ∧
    (∀ (p : Port) (a : BitVec 6) (ws : List LinkWord), reads → clean ws → (∃ w ∈ ws, w.ty ≠ 0xF) →
      let pw := ws.map (fun w => w.payload)
      let known : Prop := (∃ e ∈ s.enum.map, e.addr = a) ∧ a ≠ 1
      ((∃ w ∈ ws, w.ty ≠ 9) ∨ copyOfWords (stitch s) a pw = none ∨ ¬ known →
        exec (.summaryReceive p a ws) s = .next (settle (bad a))) ∧
      (∀ c, (∀ w ∈ ws, w.ty = 9) → copyOfWords (stitch s) a pw = some c → known →
        a.toNat < l.members.length → (member s a.toNat).now = none →
        ∃ t, exec (.summaryReceive p a ws) s = .next t ∧ (member t a.toNat).now = some c ∧ (member t a.toNat).wired = some c ∧
          (member t a.toNat).box = 2 ∧ (member t a.toNat).at63 = false ∧ c.addr = a ∧ (member t a.toNat).wiredAt = stitches s ∧ t.link.sumCrc = l.sumCrc ∧ t.cfgW = s.cfgW ∧ t.otp = s.otp ∧
          t.safe.state = s.safe.state ∧ t.host = s.host ∧
          (∀ k, k ≠ a.toNat → member t k = member s k))) ∧
    (∀ (p : Port) (ws : List LinkWord), isHead s = true → clean ws → replyIntact ws = false →
      exec (.replyFrameReceive p ws) s = .next (settle s)) ∧
    (∀ (p : Port) (ws : List LinkWord) (x : Trans), isHead s = true → replyIntact ws = true → clean ws →
      let pw := ws.map (fun w => w.payload)
      let h := pw.getD 0 0
      let reads_ (r : Reply) : Prop := r.status = bits h 7 0 ∧ r.addr = x.addr ∧ r.op = x.op ∧
        r.data = (pw.drop 2).dropLast ∧ r.stitch.toNat = bits (pw.getD 1 0) 31 16 ∧
        (r.alt = true ↔ p = .l ∧ ∃ w ∈ (if s.time.fresh = false ∧ s.time.slot = 0 then l.grantWas else l.grantTx),
          bits w.payload 31 26 = x.addr.toNat ∧ bit w.payload 25 = true) ∧ r.uncert = (bits h 7 0 == 9 && opWrites x.op)
      x ∈ s.host.trans → x.reply = none → x.tag.toNat = bits h 27 22 → x.op = bits h 31 28 →
      x.addr ≠ 0 → x.addr ≠ 1 → x.addr.toNat = bits h 21 16 → x.seq.toNat = bits h 15 8 → x.sent = true →
      (∀ y ∈ s.host.trans, y.tag = x.tag → y = x) → x.tag.toNat < s.host.tags.length →
      ((∀ y ∈ s.host.trans, y.addr = x.addr → y = x) →
        ∃ t, exec (.replyFrameReceive p ws) s = .next t ∧ { t with host := s.host, safe := s.safe } = s ∧
          t.safe.state = s.safe.state ∧ t.host.trans = s.host.trans.filter (fun y => y.tag != x.tag) ∧
          t.host.doneQ = s.host.doneQ ++ [x.tag] ∧ (t.host.tags.getD x.tag.toNat {}).done = true ∧
          ∃ r, (t.host.tags.getD x.tag.toNat {}).reply = some r ∧ reads_ r) ∧
      (∀ l1 l2 : List Trans, s.host.trans = l1 ++ x :: l2 → (∃ y ∈ l1, y.addr = x.addr) →
        (∀ y ∈ l1 ++ l2, y.tag ≠ x.tag) →
        ∃ t r, exec (.replyFrameReceive p ws) s = .next t ∧ { t with host := s.host, safe := s.safe } = s ∧
          t.safe.state = s.safe.state ∧ t.host.doneQ = s.host.doneQ ∧ t.host.tags = s.host.tags ∧
          t.host.trans = l1 ++ { x with reply := some r } :: l2 ∧ reads_ r)) ∧
    (∀ src : BitVec 6, (s.time.fresh = false ∨ (isHead s = false ∧ (src ≠ 1 ∨ l.thrdRx.ended = none)) ∨
        (isHead s = true ∧ (member s src.toNat).threadRx.ended = none)) →
      exec (.threadMessageComplete src) s = .next (settle s)) ∧
    (∀ (msg : BitVec 128) (whole : Bool), s.time.fresh = true → isHead s = false → l.thrdRx.ended = some (msg, whole) →
      let ok := whole && threadOk msg
      let l0 : LinkSt := { l with thrdRx := { l.thrdRx with ended := none } }
      ∃ t, exec (.threadMessageComplete 1) s = .next t ∧
        { t with link := l, safe := s.safe, col := s.col } = s ∧ t.safe.state = s.safe.state ∧
        (ok = true → t.link = { l0 with thrd := some msg, thrdInval := 0
                                        epochBad := if threadWord msg 0 = s.enum.epoch then 0 else l.epochBad + 1 } ∧
          t.safe.pseal = threadWord msg 1 ∧ t.safe.psealOk = true ∧ t.col.stand.getLsbD 69 = false) ∧
        (ok = false → t.link = { l0 with thrdBad := min (l.thrdBad + 1) 0xFF, thrdInval := l.thrdInval + 1, epochBad := 0 } ∧
          t.safe.pseal = s.safe.pseal ∧ t.safe.psealOk = s.safe.psealOk ∧
          t.col.stand.getLsbD 69 = decide (2 ≤ l.thrdInval + 1))) ∧
    (∀ (src : BitVec 6) (msg : BitVec 128) (whole : Bool), s.time.fresh = true → isHead s = true →
      src.toNat < l.members.length → (member s src.toNat).threadRx.ended = some (msg, whole) →
      let ok := whole && threadOk msg
      let m := member s src.toNat
      let rx : ThreadRx := { m.threadRx with ended := none }
      ∃ t, exec (.threadMessageComplete src) s = .next t ∧
        { t with link := l, safe := s.safe, col := s.col } = s ∧ t.safe.state = s.safe.state ∧
        (ok = true → member t src.toNat = { m with threadRx := rx, thread := some msg, badThreads := 0 } ∧
          t.link.thrdBad = l.thrdBad) ∧
        (ok = false → member t src.toNat = { m with threadRx := rx, badThreads := m.badThreads + 1 } ∧
          t.link.thrdBad = min (l.thrdBad + 1) 0xFF) ∧
        (∀ k, k ≠ src.toNat → member t k = member s k) ∧ t.link.thrdTx = threadMessage t ∧
        (s.enum.inForce = true → t.safe.pseal = (packSealOf t).1 ∧ t.safe.psealOk = (packSealOf t).2))

/-- R319, R320, R323, R335, R341, R345, R347: the ports of a member fold at a loss of carrier and unfold after READY both
ways; carrier is lost by silence or by four word errors in eight words; at either device a change of carrier ends a search in
progress; an epoch that differs twice takes address 63, with the role kept (the model's reading, log 64); a parity error
clears VALID. -/
def Obligations.PortsFoldAndUnfold : Prop :=
  ∀ (p : Port) (s : State), linkUp s = true →
    let l := s.link
    let q := portGet l p
    let e := s.enum
    let down : PortSt := { q with carrier := false, clean := 0, cleanRun := 0, readyTx := false, readyRx := false
                                  readySent := false, changed := true, gap := true
                                  idle := idleWord }
    let up : PortSt := { q with carrier := true, clean := 0, cleanRun := 0, changed := true, gap := true }
    let lost : EnumSt := { e with tackOut := 0, tackBack := 0, aborted := e.aborted || (q.carrier && e.tackSearch.isSome) }
    (∀ errs : BitVec 8, popCount errs < 4 → exec (.carrierLoss p (some errs)) s = .next (settle s)) ∧
    (∀ errs : Option (BitVec 8), (∀ m, errs = some m → 4 ≤ popCount m) →
      (isHead s = false → q.folded = false → exec (.carrierLoss p errs) s = .next (settle { s with
        link := portPut { l with foldCnt := min (l.foldCnt + 1) 0xFFFF } p { down with folded := true }
        enum := lost, col := colRaise 64 0 s.col })) ∧
      (isHead s = false → q.folded = true → exec (.carrierLoss p errs) s = .next (settle { s with
        link := portPut l p down, enum := lost })) ∧
      (isHead s = true → e.phase = 0 → exec (.carrierLoss p errs) s = .next (settle { s with
        link := portPut l p down, enum := { e with quiet := 0 } })) ∧
      (isHead s = true → q.carrier = true → 1 ≤ e.phase → e.phase ≤ 3 → stitches s ≤ e.startAt + 17 →
        ∃ t, exec (.carrierLoss p errs) s = .next t ∧ { t with link := l, enum := e, col := s.col, safe := s.safe } = s ∧
          t.link = portPut l p down ∧ t.enum.commit = none ∧
          t.enum.frameTx = (if e.phase = 3 ∧ s.time.fresh = true then [] else e.frameTx) ∧
          (e.restarts < 4 → t.enum.phase = 4 ∧ t.enum.restarts = e.restarts + 1 ∧ t.col = colRaise 71 0 s.col) ∧
          (4 ≤ e.restarts → t.enum.phase = 0 ∧ t.enum.unstable = true ∧ t.enum.waitUntil = stitches s + 1001 ∧
            t.col = colRaise 72 0 s.col))) ∧
    (q.carrier = true → exec (.carrierGain p) s = .next (settle s)) ∧
    (q.carrier = false → isHead s = false → exec (.carrierGain p) s = .next (settle { s with
      link := portPut l p up
      enum := { e with tackOut := 0, tackBack := 0, aborted := e.aborted || e.tackSearch.isSome } })) ∧
    (q.carrier = false → isHead s = true → e.phase = 0 → exec (.carrierGain p) s = .next (settle { s with
      link := portPut l p up, enum := { e with quiet := 0 } })) ∧
    (s.time.fresh = true → isHead s = false → l.started = true → q.folded = true → q.carrier = true → q.readyTx = false →
      16 ≤ q.cleanRun →
      exec (.readyStart p) s = .next (settle { s with link := portPut l p { q with readyTx := true, idle := readyWord } })) ∧
    ((s.time.fresh = false ∨ isHead s = true ∨ l.started = false ∨ q.folded = false ∨ q.carrier = false ∨
        q.readyTx = true ∨ q.cleanRun < 16) →
      exec (.readyStart p) s = .next (settle s)) ∧
    (s.time.fresh = true → isHead s = false → q.folded = true → q.carrier = true → q.readySent = true → q.readyRx = true →
      exec (.unfold p) s = .next (settle { s with
        link := portPut { l with unfoldCnt := min (l.unfoldCnt + 1) 0xFFFF } p
          { q with folded := false, readyTx := false, readySent := false, changed := false, idle := idleWord } })) ∧
    ((s.time.fresh = false ∨ isHead s = true ∨ q.folded = false ∨ q.carrier = false ∨ q.readySent = false ∨ q.readyRx = false) →
      exec (.unfold p) s = .next (settle s)) ∧
    (s.time.fresh = true → isHead s = false → s.sys.addr ≠ 63 → 2 ≤ l.epochBad →
      ∃ t, exec .epochMismatch s = .next t ∧ t.sys.addr = 63 ∧ t.link.epochBad = 0 ∧ t.col.pulse.getLsbD 76 = true ∧
        t.dev.seqExp = 0 ∧ t.dev.seqValid = true ∧ t.dev.stored = [] ∧ t.dev.inbox = [] ∧ t.sys.role = s.sys.role ∧
        t.cfgW = s.cfgW ∧ t.otp = s.otp ∧
        t.sys.mode = (if s.sys.mode = some .run then some .standby else s.sys.mode)) ∧
    (s.time.fresh = false → exec .epochMismatch s = .next (settle s)) ∧
    (isHead s = false → exec .seqLost s = .next (settle { s with
      dev := { s.dev with seqValid := false }, col := colRaise 77 0 s.col })) ∧
    (isHead s = true → exec .seqLost s = .next (settle s))

/-! ### Transactions on the ring -/

/-- R43, R123, R298, R308, R346: a member's link service. A frame addressed to it whose SEQ is the one expected, or any that
is not a retry while VALID is 0, is executed, once, and its reply stored and made ready; a stored SEQ that is retried brings
its reply again; a SEQ that lies behind and is not stored, or a retry while VALID is 0, is answered SEQ and not executed;
others are dropped. Frames that waited are handled first. Without its core, or where link service does not run at once, the
member keeps the frame for it. A broadcast waits for its boundary, once. Every frame goes on. The model's readings: the sender
of the command says whether link service handles the frame, and waiting ones go first (log 47); an RD's reply carries the
stitch of its execution (log 66). -/
def Obligations.MembersServeTheirFrames : Prop :=
  ∀ (st : Stream) (us : BitVec 7) (ws : List LinkWord) (ups : List Upset) (handled : Bool) (s : State),
    linkUp s = true → isHead s = false →
    let c : Instr := .commandFrameReceive st us ws ups handled
    let x := transOf (ws.map (fun w => w.payload))
    let p := streamPort (streamCode st)
    let s0 := atUs us.toNat { s with bob := recUpset ups s.bob }
    let s1 := wordsPass p ws s0
    let s2 := inboxServe s1
    let d := s2.dev
    let intact : Prop := (portGet s.link p).folded = false ∧ frameIntact ws = true ∧ 1 ≤ x.op ∧ x.op ≤ 6
    let mine : Prop := x.addr = s.sys.addr ∧ s.sys.addr ≠ 63 ∧ x.addr ≠ 0
    let taken : Prop := intact ∧ mine ∧ coreRuns s = true ∧ handled = true
    let ahead := (x.seq - d.seqExp).toNat
    let runs : Prop := (d.seqValid = false ∧ x.retried = false) ∨ (d.seqValid = true ∧ x.seq = d.seqExp)
    let readied (r : Reply) (t : State) : Prop := (x.seq, r) ∈ t.dev.ready ∧ (∀ q ∈ d.ready, q ∈ t.dev.ready) ∧
      ∀ q ∈ t.dev.ready, q ∈ d.ready ∨ q = (x.seq, r)
    let only (t : State) : Prop := { t with dev := d, safe := s.safe } = { s2 with safe := s.safe } ∧
      t.safe.state = s.safe.state ∧ t.dev.seqExp = d.seqExp ∧ t.dev.seqValid = d.seqValid ∧ t.dev.stored = d.stored
    (intact → s1.dev = s.dev ∧ s1.link.fwdTx = (match outPort s.link p with
      | none => s.link.fwdTx
      | some o => s.link.fwdTx ++ (if s.link.started = true then ws.map (fun w => (o, Sym.word w)) else []))) ∧
    (s.dev.inbox = [] → coreRuns s = true → s2 = s1) ∧
    (taken → runs →
      let a := access x.op x.reg x.len x.data x.tag s2
      let r : Reply := { op := x.op, tag := x.tag, addr := s.sys.addr, status := a.1, stitch := stitch s, snap := x.snap
                         data := if a.1 = 0 then a.2.1 else [] }
      ∃ t, exec c s = .next t ∧ t.dev.seqValid = true ∧ t.dev.seqExp = x.seq + 1 ∧
        (x.seq, r) ∈ t.dev.stored ∧ t.dev.stored.length ≤ 64 ∧ (x.seq, r) ∈ t.dev.ready ∧
        t.cfgW = a.2.2.cfgW ∧ t.cfg = s.cfg ∧ t.otp.mem = s.otp.mem ∧ t.host = a.2.2.host) ∧
    (taken → d.seqValid = true → x.seq ≠ d.seqExp → x.retried = true → ∀ r, storedReply s2 x.seq = some r →
      ∃ t, exec c s = .next t ∧ only t ∧ readied r t) ∧
    (taken → ((d.seqValid = false ∧ x.retried = true) ∨
        (d.seqValid = true ∧ storedReply s2 x.seq = none ∧ 127 < ahead)) →
      ∃ t, exec c s = .next t ∧ only t ∧
        readied { op := x.op, tag := x.tag, addr := s.sys.addr, status := 9, stitch := stitch s, snap := x.snap } t) ∧
    (taken → d.seqValid = true → x.seq ≠ d.seqExp →
      ((storedReply s2 x.seq = none ∧ ahead ≤ 127) ∨ (storedReply s2 x.seq ≠ none ∧ x.retried = false)) →
      exec c s = .next (settle s2)) ∧
    (intact → mine → (coreRuns s = false ∨ handled = false) →
      exec c s = .next (settle { s1 with dev := { s.dev with inbox := s.dev.inbox ++ [(x, stitches s)] } })) ∧
    (intact → x.addr = 0 → x.op = 2 → s.sys.addr ≠ 63 → coreRuns s = true → 1 ≤ (x.named - stitch s).toNat →
      (x.named - stitch s).toNat ≤ 1000 → (∀ b ∈ s.dev.bcasts, b.stitch ≠ x.named) →
      exec c s = .next (settle { s1 with
        dev := { s.dev with bcasts := s.dev.bcasts ++ [{ stitch := x.named, tag := x.tag, seq := x.seq, reg := x.reg, data := x.data }] } })) ∧
    (intact → x.addr ≠ 0 → x.addr ≠ s.sys.addr → exec c s = .next (settle s1)) ∧
    ((portGet s.link p).folded = false → frameIntact ws = false → exec c s = .next (settle s1)) ∧
    ((portGet s.link p).folded = true → exec c s = .next (settle s))

/-- R124 to R126, R129, R314, R344, R348, R131, R190, R85: at the head a frame without a reply is sent again, and at the
fourth boundary after its acceptance its transaction ends: with the code of its case when it was sent, with BUSY and its
sequence number given back when not, also while the head's core restarts (R43). A broadcast write is judged and applied, in force at once, at its named boundary; a
SLEEP that a wake has cancelled is answered BUSY (R85 cancels it; the answer is the model's reading, log 28). A snapshot is captured in its stitch; when the stitch has ended it is held, with
the one before it, with the values of that stitch (R132, R190, R196). A frame abandoned after it was sent is kept to be repeated,
one for which no path existed gives its number back without UNCERT, and a broadcast's answer carries its SEQ: the model's
readings (log 63). The head's own transactions need no ring: none of their frames is sent again, and one that link service has not
handled ends with BUSY (log 47). While a held snapshot's stitch is judged it follows XDIS, DISAGREE and TS_PATH (R277). At a member the link hardware answers
BUSY for a frame that link service has not handled in time (R43, log 47). -/
def Obligations.TransactionsEndAtTheirBound : Prop :=
  ∀ s : State,
    let h := s.host
    let ended (x : Trans) (status : Nat) (uncert noreach : Bool) (t : State) : Prop :=
      { t with host := h, link := s.link, safe := s.safe, free := s.free } = s ∧ t.safe.state = s.safe.state ∧
      t.host.trans = h.trans.filter (fun y => y.tag != x.tag) ∧ t.host.doneQ = h.doneQ ++ [x.tag] ∧
      t.host.abandon = min (h.abandon + 1) 0xFFFF ∧ (t.host.tags.getD x.tag.toNat {}).done = true ∧
      ∃ r, (t.host.tags.getD x.tag.toNat {}).reply = some r ∧ r.status = status ∧ r.uncert = uncert ∧
        r.noreach = noreach ∧ r.op = x.op ∧ r.addr = x.addr ∧ r.data = []
    let found (x : Trans) : Prop := isHead s = true ∧ linkUp s = true ∧ x ∈ h.trans ∧ x.reply = none ∧ x.tag.toNat < h.tags.length ∧
      (∀ y ∈ h.trans, y.tag = x.tag → y = x)
    let alone (x : Trans) : Prop := ∀ y ∈ h.trans, y.addr = x.addr → y = x
    let again (x : Trans) : List Trans := h.ghosts ++ [{ x with retried := true, again := true }]
    let numberBack (x : Trans) : LinkSt :=
      { s.link with members := s.link.members.modify x.addr.toNat (fun m => { m with seqOut := m.seqOut - 1 }) }
    let back (x y : Trans) : Trans :=
      if y.addr = x.addr ∧ 1 ≤ (y.seq - x.seq).toNat ∧ (y.seq - x.seq).toNat ≤ 127 then { y with seq := y.seq - 1 } else y
    (∀ x : Trans, found x → x.addr ≠ 0 → x.addr ≠ 1 → x.sent = true → x.again = false →
      exec (.transactionRetry x.tag) s = .next (settle { s with host := { h with
        retry := min (h.retry + 1) 0xFFFF
        trans := h.trans.map (fun y => if y.tag == x.tag then { y with retried := true, again := true } else y) } })) ∧
    (∀ tag : BitVec 6, (isHead s = false ∨ linkUp s = false ∨ ∀ y ∈ h.trans, y.tag ≠ tag ∨ y.addr = 0 ∨ y.addr = 1 ∨ y.sent = false ∨ y.again = true ∨
        y.reply ≠ none) →
      exec (.transactionRetry tag) s = .next (settle s)) ∧
    (∀ (x : Trans) (c : BoundCase), found x → alone x → x.addr ≠ 0 → x.addr ≠ 1 → x.accepted + 4 ≤ stitches s → x.sent = true →
      let wr := x.op == 2 || x.op == 3
      let m := s.link.members.getD x.addr.toNat {}
      let path : Prop := m.wired.isSome = true ∧ x.sentAt ≤ m.wiredAt + 1
      ∃ t, exec (.transactionBoundExpiry x.tag c) s = .next t ∧ (¬ (c = .noPath ∧ ¬ path) → t.link = s.link) ∧ (match c with
        | .notServed => ended x 5 false false t ∧ t.host.ghosts = h.ghosts
        | .noPath => (path → ended x 5 wr true t ∧ t.host.ghosts = again x) ∧
          (¬ path → ended x 5 false true t ∧ t.host.ghosts = h.ghosts.map (back x) ∧ t.link = numberBack x)
        | .noReply => ended x 7 wr false t ∧ t.host.ghosts = again x
        | .seqLost => ended x 9 wr false t ∧ t.host.ghosts = h.ghosts)) ∧
    (∀ (x : Trans) (c : BoundCase), found x → alone x → x.addr = 1 → x.accepted + 4 ≤ stitches s → x.sent = true →
      ∃ t, exec (.transactionBoundExpiry x.tag c) s = .next t ∧ ended x 5 false false t ∧ t.link = s.link ∧
        t.host.ghosts = h.ghosts) ∧
    (∀ x : Trans, found x → alone x → x.addr ≠ 0 → x.accepted + 4 ≤ stitches s → x.sent = false →
      ∃ t, exec (.unreservedFrameExpiry x.tag) s = .next t ∧ ended x 5 false false t ∧ t.link = numberBack x) ∧
    (∀ x : Trans, found x → (x.addr = 0 ∨ stitches s < x.accepted + 4 ∨ x.sent = true) →
      exec (.unreservedFrameExpiry x.tag) s = .next (settle s)) ∧
    ((s.time.fresh = false ∨ coreRuns s = false ∨
        ∀ b ∈ s.dev.bcasts, b.stitch ≠ stitch s ∨ b.data = []) → exec .broadcastApply s = .next (settle s)) ∧
    (∀ b, s.time.fresh = true → coreRuns s = true → isHead s = false → s.dev.bcasts = [b] → b.stitch = stitch s →
      b.data ≠ [] → s.dev.answers = [] →
      let cancelled : Prop := b.woken = true ∧ ∃ e ∈ writesOf b.reg b.data, e.1 = 0x0024 ∧ bits e.2 2 0 = 1
      let answer (code : Nat) : List (BitVec 8 × Reply) :=
        [(b.seq, { op := 2, tag := b.tag, addr := s.sys.addr, status := code, stitch := b.stitch })]
      ∃ t, exec .broadcastApply s = .next t ∧ t.dev.bcasts = [] ∧ t.otp.mem = s.otp.mem ∧
        (cancelled → t.cfg = s.cfg ∧ t.cfgW = s.cfgW ∧ t.sys.modeNext = s.sys.modeNext ∧ t.dev.answers = answer 5) ∧
        (¬ cancelled → judgeWr s b.reg b.data true false = none →
          t.cfg = (writesOf b.reg b.data).foldl (fun c e => cfgPut e.1 e.2 c) s.cfg ∧ t.dev.answers = answer 0) ∧
        (¬ cancelled → ∀ a code, judgeWr s b.reg b.data true false = some (a, code) → t.cfg = s.cfg ∧ t.cfgW = s.cfgW ∧
          t.pgErr = (pgRecord a code s).pgErr ∧ t.dev.answers = answer code)) ∧
    (s.sys.mode.isSome = true → coreRuns s = true →
      ∃ t, exec .snapshotCapture s = .next t ∧ { t with dev := s.dev, time := s.time, safe := s.safe } = s ∧
        t.dev.snaps.length = s.dev.snaps.length ∧
        (∀ y ∈ t.dev.snaps, y.stitch = stitch s → y.captured = true) ∧
        (∀ y ∈ s.dev.snaps, y.stitch ≠ stitch s → y ∈ t.dev.snaps) ∧
        (∀ y ∈ s.dev.snaps, y.stitch = stitch s → { y with captured := true } ∈ t.dev.snaps) ∧
        ((∃ y ∈ s.dev.snaps, y.stitch = stitch s ∧ y.captured = false) → t.time.snapStitch = stitch s)) ∧
    (∀ x : Snap, (s.dev.snaps.filter (fun y => !y.held && (y.captured && y.stitch == s.meas.prevStitch))) = [x] →
      let v := planView s
      let m := v.meas
      let off : Bool := !m.prevModOn || m.prevSettling || !m.donePrev
      let dis : Word := flag s.cur.disagree 28
      let xd (n : Nat) : Word := flag (populated s n && (m.cells.getD n {}).xdis) 28
      ∃ y, (snapBoundary s).dev.snaps.filter (fun z => z.held) =
          y :: ((s.dev.snaps.filter (fun z => z.held)).map (fun z => { z with judging := false })).take 1 ∧
        y.num = x.num ∧ y.stitch = x.stitch ∧ y.judging = true ∧ y.cells.length = 32 ∧ y.ts.length = 16 ∧
        (∀ n < 32, (∀ a, m.res.cells.getD n none = some a → populated s n = true → m.prevModOn = true →
            y.cells.getD n 0 = (flag (owStands s n || bit m.heldPrev n || m.prevSettling || !m.donePrev) 31 |||
              flag (!avgOk a) 29 ||| xd n ||| place (u24 a.v) 0)) ∧
          (m.res.cells.getD n none = none ∨ populated s n = false ∨ m.prevModOn = false →
            y.cells.getD n 0 = (flag true 31 ||| xd n))) ∧
        y.vstk = (match m.res.stack with
          | some a => flag (off || m.auxHeldPrev.getLsbD 0) 31 ||| place (field100 (stackUv s a)) 0
          | none => flag true 31) ∧
        y.isns = (match m.res.shunt with
          | some a => flag (off || !currentPresent s || m.auxHeldPrev.getLsbD 1) 31 ||| flag (a.ovl != 0 || shuntOut a.v) 29 |||
              dis ||| place (u24 a.v) 0
          | none => flag true 31 ||| dis) ∧
        y.isnsPt = (match s.cur.ptPrev with
          | some p => flag (off || !currentPresent s || m.auxHeldPrev.getLsbD 1) 31 ||| flag (p.ovl != 0 || shuntOut p.v) 29 |||
              dis ||| place s.cur.skewPrev 26 ||| place (u24 p.v) 0
          | none => flag true 31 ||| dis ||| place s.cur.skewPrev 26) ∧
        y.iaux = (match iauxMean v with
          | some k => flag (!currentPresent s) 31 ||| flag s.cur.iauxLost 30 ||| flag (!iauxIn s k) 29 ||| dis ||| place k 0
          | none => flag true 31 ||| flag s.cur.iauxLost 30 ||| dis) ∧
        (∀ k < 16, y.ts.getD k 0 = if tsPop s k = true then tsWord (tsPrev s k) else 0x8000)) ∧
    (∀ n : Fin 32, ∃ t, exec (.xdis n) s = .next t ∧ t.dev.snaps.length = s.dev.snaps.length ∧
      ∀ k < s.dev.snaps.length,
        let x := s.dev.snaps.getD k {}
        let y := t.dev.snaps.getD k {}
        (x.judging = false → y = x) ∧
        (x.judging = true → y.num = x.num ∧ y.vstk = x.vstk ∧ bit y.isns 28 = s.cur.disagree ∧ bit y.isnsPt 28 = s.cur.disagree ∧
          bit y.iaux 28 = s.cur.disagree ∧ y.isns &&& 0xEFFFFFFF = x.isns &&& 0xEFFFFFFF ∧
          (∀ m < x.cells.length, bit (y.cells.getD m 0) 28 = (populated s m && (t.meas.cells.getD m {}).xdis) ∧
            y.cells.getD m 0 &&& 0xEFFFFFFF = x.cells.getD m 0 &&& 0xEFFFFFFF) ∧
          (∀ m < 16, y.ts.getD m 0 = if tsPop s m = true then tsWord (tsPrev s m) else 0x8000))) ∧
    (∀ (ws : List LinkWord) (n : Nat), linkUp s = true → isHead s = false → frameIntact ws = true →
      let x := transOf (ws.map (fun w => w.payload))
      let r : Reply := { op := x.op, tag := x.tag, addr := s.sys.addr, status := 5, stitch := stitch s, snap := x.snap }
      s.dev.inbox = [(x, n)] → n + 3 ≤ stitches s →
      ((s.dev.seqValid = false ∧ x.retried = false) ∨ (s.dev.seqValid = true ∧ x.seq = s.dev.seqExp)) →
      ∃ t, exec (.linkServiceBusy ws) s = .next t ∧ { t with dev := s.dev, safe := s.safe } = s ∧
        t.safe.state = s.safe.state ∧ t.dev.inbox = [] ∧ t.dev.seqValid = true ∧ t.dev.seqExp = x.seq + 1 ∧
        (x.seq, r) ∈ t.dev.ready ∧ (x.seq, r) ∈ t.dev.stored) ∧
    (∀ ws : List LinkWord, (linkUp s = false ∨ isHead s = true ∨ frameIntact ws = false ∨
        ∀ e ∈ s.dev.inbox, e.1 ≠ transOf (ws.map (fun w => w.payload)) ∨ stitches s < e.2 + 3) →
      exec (.linkServiceBusy ws) s = .next (settle s))

/-! ### Enumeration -/

/-- R298, R334 to R338, R341 to R345: the head's search. It begins at the boundary of a request, or of a trigger once a
rest is over, and restarts after three quiet stitches; the N of a TACK that returns is kept for its stream, FULL ends the
search unstable at once; a TACK or COMMIT that returns damaged or with ABORT, or an ID record damaged, out of its place or
double, aborts it, and the fourth restart ends it unstable; at S + 17 the decision forms the commit, or holds the map in
RUN; at the apply boundary the new map is in force, with the next epoch. The model's readings: more than 62 places on an open
ring end the search and a loop measured in part aborts it (log 9); the addresses taken as returned (log 65); the delays of the
map's devices, which no frame brings the head, are free values (log 45). R367: the addresses whose device is new there are noted. -/
def Obligations.SearchesRunTheirPhases : Prop :=
  ∀ s : State, isHead s = true → linkUp s = true →
    let e := s.enum
    let seen (st : Stream) (ws : List LinkWord) : State :=
      let p : Port := match st with
        | .out => if s.link.ringClosed = true then .l else .u
        | .back => if s.link.ringClosed = true then .u else .l
      wordsSeen p ws s
    let begins (fresh : Bool) (p : Option Nat) : State := { s with enum := { e with
      startPrev := p
      search := e.search + 1, restarts := if fresh then 0 else e.restarts, phase := 1, startAt := stitches s, aborted := false
      want := false, reqDue := false, quiet := 0, ids := [], lOuts := [], lBacks := [], closedAll := true, commit := none
      retOut := none, retBack := none, cmtOut := false, cmtBack := false
      frameTx := tackFrame (e.search + 1) (stitch s) 0 } }
    let unstable : EnumSt := { e with phase := 0, unstable := true, held := false, commit := none, aborted := false
                                      waitUntil := stitches s + 1001 }
    let aborts (u : State) (o : Out) : Prop := ∃ t, o = .next t ∧ { t with enum := e, col := s.col, safe := s.safe } = u ∧
      t.safe.state = s.safe.state ∧ t.enum.commit = none ∧ t.enum.map = e.map ∧ t.enum.search = e.search ∧
      (e.restarts < 4 → t.enum.phase = 4 ∧ t.enum.quiet = 0 ∧ t.enum.restarts = e.restarts + 1 ∧ t.col = colRaise 71 0 s.col) ∧
      (4 ≤ e.restarts → t.enum.phase = 0 ∧ t.enum.unstable = true ∧ t.enum.held = false ∧
        t.enum.waitUntil = stitches s + 1001 ∧ t.col = colRaise 72 0 s.col)
    let early : Prop := stitches s ≤ e.startAt + 17
    let pay (ws : List LinkWord) : List Word := ws.map (fun w => w.payload)
    let asked : Prop := coreRuns s = true ∧ s.sys.sending = true ∧ s.time.fresh = true ∧ e.phase = 0 ∧
      (e.reqDue = true ∨ (e.want = true ∧ e.waitUntil ≤ stitches s))
    (∀ st ws, errsDense ws = false → { seen st ws with link := s.link } = s) ∧
    (asked → ∃ p, (e.startAt ≠ 0 → p = some e.startAt) ∧ exec .searchStart s = .next (settle (begins true p))) ∧
    (¬ asked → exec .searchStart s = .next (settle s)) ∧
    (coreRuns s = true → s.time.fresh = true → e.phase = 4 → 3 ≤ e.quiet →
      ∃ p, (e.startAt ≠ 0 → p = some e.startAt) ∧ exec .searchRestart s = .next (settle (begins false p))) ∧
    ((coreRuns s = false ∨ s.time.fresh = false ∨ e.phase ≠ 4 ∨ e.quiet < 3) →
      exec .searchRestart s = .next (settle s)) ∧
    (∀ st ws, errsDense ws = false →
      let c := (pay ws).getD 2 0
      let whole : Prop := tackIntact ws = true ∧ bits ((pay ws).getD 1 0) 31 16 = e.search.toNat
      let n : BitVec 6 := BitVec.ofNat 6 (bits c 5 0)
      (e.phase ≠ 1 → exec (.tackReceive st ws) s = .next (settle (seen st ws))) ∧
      (e.phase = 1 → early → (¬ whole ∨ (bit c 30 = false ∧ bit c 31 = true)) →
        aborts (seen st ws) (exec (.tackReceive st ws) s)) ∧
      (e.phase = 1 → whole → bit c 30 = true →
        exec (.tackReceive st ws) s = .next (settle { seen st ws with enum := unstable, col := colRaise 72 0 s.col })) ∧
      (e.phase = 1 → whole → bit c 30 = false → bit c 31 = false →
        exec (.tackReceive st ws) s = .next (settle { seen st ws with
          enum := match st with | .out => { e with retOut := some n } | .back => { e with retBack := some n } }))) ∧
    (∀ st ws d f, errsDense ws = false →
      let damaged : Prop := commitIntact ws = false ∨ bit ((pay ws).getD 2 0) 30 = true
      (e.phase ≠ 3 → exec (.commitReceive st ws d f) s = .next (settle (seen st ws))) ∧
      (e.phase = 3 → early → damaged → aborts (seen st ws) (exec (.commitReceive st ws d f) s)) ∧
      (e.phase = 3 → ¬ damaged → exec (.commitReceive st ws d f) s = .next (settle { seen st ws with
        enum := match st with | .out => { e with cmtOut := true } | .back => { e with cmtBack := true } }))) ∧
    (∀ st (ofs : BitVec 9) ws, errsDense ws = false →
      let within : Prop := e.phase = 2 ∧ stitches s ≤ e.startAt + 8
      let here (r : IdRec) : Prop := r.stream = st ∧ r.index ≠ 0 ∧ ofs.toNat = 5 * ((r.index.toNat - 1) % 8) ∧
        stitches s = e.startAt + (1 + (r.index.toNat - 1) / 8) ∧ ∀ x ∈ e.ids, x.stream ≠ r.stream ∨ x.index ≠ r.index
      (¬ within → exec (.idRecordReceive st ofs ws) s = .next (settle s)) ∧
      (∀ r, within → idOf ws = some r → here r →
        exec (.idRecordReceive st ofs ws) s = .next (settle { seen st ws with enum := { e with ids := e.ids ++ [r] } })) ∧
      (within → (idOf ws = none ∨ ∃ r, idOf ws = some r ∧ ¬ here r) →
        aborts (seen st ws) (exec (.idRecordReceive st ofs ws) s))) ∧
    (let due : Prop := coreRuns s = true ∧ s.time.fresh = true ∧ e.phase = 3 ∧ e.commit = none ∧ stitches s = e.startAt + 17
      let o : BitVec 6 := e.retOut.getD 0
      let b : BitVec 6 := e.retBack.getD 0
      let bad : Prop := e.aborted = true ∨ idsComplete s o.toNat b.toNat = false ∨ loopSpread e.lOuts = true ∨
        loopSpread e.lBacks = true ∨ (e.closedAll = true ∧ o ≠ b)
      let h : BitVec 6 := BitVec.ofNat 6 (searchH s o.toNat b.toNat)
      let m := headEnt s :: (e.ids.filter (fun r => r.stream == .out || !e.closedAll)).map (entOf h)
      (¬ due → exec .searchDecide s = .next (settle s)) ∧
      (due → bad → aborts s (exec .searchDecide s)) ∧
      (due → ¬ bad → 62 < searchH s o.toNat b.toNat →
        exec .searchDecide s = .next (settle { s with enum := unstable, col := colRaise 72 0 s.col })) ∧
      (due → ¬ bad → searchH s o.toNat b.toNat ≤ 62 → (inMode s .run = false ∨ e.inForce = false ∨ runKeeps s m = true) →
        ∃ t c, exec .searchDecide s = .next t ∧ { t with enum := e, safe := s.safe } = s ∧
          t.enum.commit = some c ∧ t.enum.frameTx = commitFrame c ∧ t.enum.map = e.map ∧ c.search = e.search ∧ c.h = h ∧
          c.applyAt = BitVec.ofNat 16 (e.startAt + 19) ∧ c.closed = e.closedAll ∧ c.nOut = o ∧ c.nBack = b ∧
          c.epoch = e.epochCtr + 1 ∧ c.lOut = loopMean e.lOuts ∧ c.lBack = loopMean e.lBacks) ∧
      (due → ¬ bad → searchH s o.toNat b.toNat ≤ 62 → inMode s .run = true → e.inForce = true → runKeeps s m = false →
        ∃ t, exec .searchDecide s = .next t ∧ { t with enum := e, col := s.col, safe := s.safe } = s ∧
          t.enum.held = true ∧ t.enum.phase = 0 ∧ t.enum.map = e.map ∧ t.enum.commit = none ∧
          t.col = colRaise 73 0 s.col)) ∧
    (∀ c, s.time.fresh = true → e.phase = 3 → e.commit = some c → c.applyAt = ringStitch s →
      ∃ t, exec .searchApply s = .next t ∧ t.enum.map = mapDelays c s.free (mapOfCommit s c) ∧
        t.free = s.free + 2 * (mapOfCommit s c).length ∧
        (∀ x ∈ t.enum.map, (x.dOut ≠ 0xFFFF ↔ c.closed = true ∨ x.addr.toNat ≤ c.nOut.toNat + 1) ∧
          (x.dBack ≠ 0xFFFF ↔ c.closed = true ∨ c.nOut.toNat + 1 < x.addr.toNat)) ∧ t.enum.inForce = true ∧ t.enum.phase = 0 ∧
        t.enum.commit = none ∧ t.enum.epoch = e.epochCtr + 1 ∧ t.enum.epochCtr = e.epochCtr + 1 ∧ t.enum.h = c.h ∧
        t.enum.mapChk = mapCheck c.h.toNat t.enum.map ∧ t.link.cont = c.h.toNat - 1 ∧
        t.enum.set = setOfMap s t.enum.map t.enum.reserved ∧ (inMode s .run = false → t.enum.reserved = []) ∧
        ((∀ y ∈ s.host.trans, y.reply = none) →
          let old := if e.inForce = true then e.map ++ e.reserved else e.prior
          ∀ a ∈ changedAddrs old t.enum.map t.enum.reserved ++ returnedAddrs s old t.enum.map t.enum.reserved,
            t.enum.newHere.getLsbD a.toNat = true ∧ ∀ y ∈ t.host.trans, y.addr ≠ a) ∧
        t.cfgW = s.cfgW ∧ t.otp = s.otp ∧ t.sys = s.sys)

/-- R298, R335 to R339, R344: members in a search. A TACK is counted on its first pass and passed on, with the index kept
for its stream; a later pass changes nothing but ABORT; ABORT and FULL stay set; in each stitch of the measure phase the arrival of
START at either port is timed; a COMMIT of the search is kept with its path delays, by R339 from the means of these times, the loop
delay of the COMMIT and the latency that the device measures (log 83); an ID record of another member is sent on as it came, and a folded port hears none; at the apply boundary the
member takes its address, epoch, set and path, and one without a COMMIT takes address 63. -/
def Obligations.MembersTakeTheirAddress : Prop :=
  ∀ s : State, isHead s = false → linkUp s = true →
    let e := s.enum
    let pay (ws : List LinkWord) : List Word := ws.map (fun w => w.payload)
    let port (st : Stream) : Port := streamPort (streamCode st)
    let sends (p : Port) (t : State) : Prop := t.link = { s.link with
      fwdTx := if s.link.started = false then s.link.fwdTx else match outPort s.link p with
        | none => s.link.fwdTx
        | some o => s.link.fwdTx ++ (t.enum.tackTx.map Sym.word).map (fun y => (o, y)) }
    (∀ st ws, tackIntact ws = false → exec (.tackReceive st ws) s = .next (settle (wordsPass (port st) ws s))) ∧
    (∀ st ws, tackIntact ws = true →
      let n : BitVec 16 := BitVec.ofNat 16 (bits ((pay ws).getD 1 0) 31 16)
      let c := (pay ws).getD 2 0
      let count := bits c 5 0
      let same : Bool := decide (e.tackSearch = some n)
      let later : Bool := same && (match st with | .out => e.passOut | .back => e.passBack)
      let takes : Bool := !(bit c 30) && decide (count < 61)
      let ab : Bool := bit c 31 || unsettled s || (same && e.aborted)
      ∃ t, exec (.tackReceive st ws) s = .next t ∧ { t with enum := e, link := s.link, safe := s.safe } = s ∧
        sends (if later = true then portOther (port st) else port st) t ∧ t.enum.tackSearch = some n ∧
        (same = false → t.enum.aborted = false ∧ t.enum.commit = none ∧ t.enum.tL = [] ∧ t.enum.tU = []) ∧
        (later = false →
          t.enum.tackTx = frameOf ((pay ws).getD 0 0) [(pay ws).getD 1 0, flag ab 31 |||
            flag (bit c 30 || decide (61 ≤ count)) 30 ||| place (if takes then count + 1 else count) 0] ∧
          (takes = true → (match st with | .out => t.enum.tackOut | .back => t.enum.tackBack).toNat = count + 1) ∧
          (takes = false → same = true → t.enum.tackOut = e.tackOut ∧ t.enum.tackBack = e.tackBack) ∧
          (match st with | .out => t.enum.passOut | .back => t.enum.passBack) = true) ∧
        (later = true → t.enum = { e with tackTx := t.enum.tackTx } ∧ (e.aborted = false → t.enum.tackTx = ws))) ∧
    (∀ st ws d f, commitIntact ws = false → exec (.commitReceive st ws d f) s = .next (settle (wordsPass (port st) ws s))) ∧
    (∀ st ws d f, commitIntact ws = true →
      let w (k : Nat) : Word := (pay ws).getD k 0
      let n : BitVec 16 := BitVec.ofNat 16 (bits (w 1) 31 16)
      let lOut : Int := (bits (w 3) 31 16 : Nat)
      let lBack : Int := (bits (w 3) 15 0 : Nat)
      let n_ : Int := e.tL.length
      let m_ : Int := e.tU.length
      let both : Prop := e.tL ≠ [] ∧ e.tU ≠ []
      let gap : Int := (2 * (e.tU.sum * n_ - e.tL.sum * m_) + n_ * m_).fdiv (2 * n_ * m_)
      let far : Bool := if e.tackOut ≠ 0 then s.link.portU.folded else s.link.portL.folded
      ∃ t, exec (.commitReceive st ws d f) s = .next t ∧ { t with enum := e, link := s.link, safe := s.safe } = s ∧
        sends (port st) t ∧
        t.enum.tackTx = frameOf (w 0) [w 1, (w 2 &&& 0xBFFFFFFF) ||| flag (bit (w 2) 30 || unsettled s || e.aborted) 30,
          w 3, w 4, w 5, w 6, w 7] ∧
        ((e.tackSearch = some n ∨ e.tackSearch = none) → ∃ c, t.enum.commit = some c ∧ c.search = n ∧
          c.applyAt = BitVec.ofNat 16 (bits (w 1) 15 0) ∧ c.closed = bit (w 2) 31 ∧ c.h = BitVec.ofNat 6 (bits (w 2) 17 12) ∧
          c.nOut = BitVec.ofNat 6 (bits (w 2) 29 24) ∧ c.nBack = BitVec.ofNat 6 (bits (w 2) 23 18) ∧
          c.epoch = w 4 ∧ c.set = (w 6) ++ (w 5) ∧ (e.tackOut ≠ 0 → far = true → c.dOut = delayField ((lOut - f).fdiv 2) ∧ c.dBack = 0xFFFF) ∧
          (e.tackOut ≠ 0 → far = false → both →
            let d_ := (lOut - gap - d).fdiv 2
            c.dOut = delayField d_ ∧ c.dBack = if bit (w 2) 31 = true then delayField (d_ + gap) else 0xFFFF) ∧
          (e.tackOut = 0 → e.tackBack ≠ 0 → far = true → c.dOut = 0xFFFF ∧ c.dBack = delayField ((lBack - f).fdiv 2)) ∧
          (e.tackOut = 0 → e.tackBack ≠ 0 → far = false → both →
            c.dOut = 0xFFFF ∧ c.dBack = delayField ((lBack + gap - d).fdiv 2)) ∧
          ((e.tackOut = 0 ∧ e.tackBack = 0) ∨ (far = false ∧ ¬ both) → c.dOut = 0xFFFF ∧ c.dBack = 0xFFFF)) ∧
        ((∃ m, e.tackSearch = some m ∧ m ≠ n) → t.enum.commit = e.commit)) ∧
    (∀ i : BoundaryIn, hwslOn s = true → coreRuns s = false → s.time.fresh = false → e.tackSearch ≠ none → s.link.started = true →
      s.link.startNow ≠ 0 →
      let k := (ringStitch s + 1 - e.tackAt).toNat
      let timed (p : Port) : List Int :=
        if (portGet s.link p).start = true then [((pathDelay s (portStream p)).map BitVec.toNat).getD 0 + (portGet s.link p).startNs] else []
      ∃ t, exec (.stitchBoundary i) s = .next t ∧
        (2 ≤ k → k ≤ 17 → t.enum.tL = e.tL ++ timed .l ∧ t.enum.tU = e.tU ++ timed .u) ∧
        ((k < 2 ∨ 17 < k) → t.enum.tL = e.tL ∧ t.enum.tU = e.tU)) ∧
    (∀ st (ofs : BitVec 9) ws, (portGet s.link (port st)).folded = true →
      exec (.idRecordReceive st ofs ws) s = .next (settle s)) ∧
    (∀ st (ofs : BitVec 9) ws, (portGet s.link (port st)).folded = false →
      exec (.idRecordReceive st ofs ws) s = .next (settle (wordsPass (port st) ws s)) ∧
      (ws.countP wordErr = 0 → wordsPass (port st) ws s = { s with link := { s.link with
        fwdTx := if s.link.started = false then s.link.fwdTx else match outPort s.link (port st) with
          | none => s.link.fwdTx
          | some o => s.link.fwdTx ++ ws.map (fun y => (o, Sym.word y)) } })) ∧
    (∀ c, s.time.fresh = true → e.commit = some c → c.applyAt = ringStitch s →
      let a : BitVec 6 := if e.tackOut ≠ 0 then 1 + e.tackOut else if e.tackBack ≠ 0 then c.h + 1 - e.tackBack else 63
      ∃ t, exec .searchApply s = .next t ∧ t.sys.addr = a ∧ t.enum.epoch = c.epoch ∧ t.enum.set = c.set ∧ t.enum.h = c.h ∧
        t.enum.closed = c.closed ∧ t.enum.nOut = c.nOut ∧ t.enum.nBack = c.nBack ∧
        t.sys.role = (if e.tackBack = 1 then .tail else .member) ∧ t.enum.commit = none ∧ t.enum.tackSearch = none ∧
        (a ≠ 63 → t.enum.dOut = BitVec.ofNat 16 c.dOut ∧ t.enum.dBack = BitVec.ofNat 16 c.dBack ∧
          t.enum.place = placeOf c.dOut c.dBack) ∧
        (a = 63 → t.enum.dOut = 0xFFFF ∧ t.enum.dBack = 0xFFFF ∧ t.enum.place = 0) ∧
        (a ≠ s.sys.addr → t.dev.seqValid = true ∧ t.dev.seqExp = 0 ∧ t.dev.stored = [] ∧ t.dev.ready = [] ∧
          t.mirr.txInh = false) ∧
        (a = s.sys.addr → t.dev = s.dev ∧ t.mirr.txInh = s.mirr.txInh) ∧
        (t.link.serve ≠ s.link.serve → s.link.serve ≠ 0 → t.col.pulse.getLsbD 65 = true) ∧
        t.cfgW = s.cfgW ∧ t.otp = s.otp) ∧
    (s.time.fresh = true → e.commit = none →
      ∃ t, exec .searchApply s = .next t ∧ t.sys.addr = 63 ∧ t.sys.role = .member ∧ t.enum.tackSearch = none ∧
        t.enum.dOut = 0xFFFF ∧ t.enum.dBack = 0xFFFF ∧ t.enum.place = 0 ∧ t.cfgW = s.cfgW ∧ t.otp = s.otp ∧
        t.sys.mode = (if s.sys.addr ≠ 63 ∧ s.sys.mode = some .run then some .standby else s.sys.mode)) ∧
    (s.time.fresh = false → exec .searchApply s = .next (settle s))

/-! ### The mirror radio -/

/-- R354, R355, R358, R361 to R363, R365, R366, R369, R374: the mirror. A cycle begins at a multiple of 10 ms; the head
sends its beacon, a member its frame in its slot; frames are checked by CRC, MIC and content, each failure counted; an
accepted beacon clears the misses, more than TIMEOUT of them raise BEACON_LOST; a judgement moves a member's record, and
TIMEOUT + 1 cycles without either copy trip. R353, R357: a frame sent begins with preamble and access address. R370: the end of the
access address tells the copy and gives the phase, which a SPLIT member's class RADIO rests on. R367: a frame of the device that held
an address before its apply boundary leaves no copy, and the new device is judged from its first slot start there on. The model's readings: no beacon by itself in FACTORY (log 41); SESSION is the first
nonzero noise word (log 42); a valid frame of a device of the map outside the safety set is ignored and not counted, one of an address
outside the map is counted, and an operand that denies the transmission stands for the failures of R374 (log 11); the copy is the
second from 250 µs on, and the access address goes out high byte first (log 83). -/
def Obligations.MirrorCyclesAreSentCheckedAndJudged : Prop :=
  ∀ s : State,
    let m := s.mirr
    let other : State := { s with mirr := { m with otherErr := min (m.otherErr + 1) 0xFFFF } }
    let mic : State := { s with mirr := { m with micErr := min (m.micErr + 1) 0xFFFF }, col := colRaise 81 0 s.col }
    let onAir_ : List Byte := [0x55, 0x55, 0x6B, 0x3A, 0x91, 0x5D]
    let begun (t : State) : Prop := { t with mirr := m, link := s.link, col := s.col, safe := s.safe, free := s.free } = s ∧
      t.mirr.cycle = stitches s / 10 ∧ t.mirr.chIdx = 5 * (stitches s / 10) % 8 ∧ t.mirr.beaconNow = false ∧
      t.safe.state = s.safe.state
    (∀ (noise : List Word) (tx : Bool), cycleDue s = true → isHead s = false →
      ∃ t, exec (.mirrorCycleStart noise tx) s = .next t ∧ begun t ∧ t.mirr.frameTx = [] ∧ t.mirr.session = m.session) ∧
    (∀ noise : List Word, cycleDue s = true → isHead s = true → inMode s .factory = true →
      ∃ t, exec (.mirrorCycleStart noise true) s = .next t ∧ begun t ∧ t.mirr.frameTx = []) ∧
    (∀ noise : List Word, cycleDue s = true → isHead s = true → inMode s .factory = false →
      (∃ t, exec (.mirrorCycleStart noise true) s = .next t ∧ begun t ∧ t.mirr.stopped = false ∧
        t.mirr.frameTx = onAir_ ++ beaconFrame { s with mirr := { m with session := t.mirr.session } } ∧
        t.mirr.session ≠ 0 ∧ (m.session ≠ 0 → t.mirr.session = m.session) ∧
        (m.session = 0 → ∀ w, noise.find? (· != 0) = some w → t.mirr.session = w)) ∧
      (∃ t, exec (.mirrorCycleStart noise false) s = .next t ∧ begun t ∧ t.mirr.stopped = true ∧ t.mirr.frameTx = [] ∧
        t.col = colRaise 80 0 s.col)) ∧
    (∀ (noise : List Word) (tx : Bool), cycleDue s = false → exec (.mirrorCycleStart noise tx) s = .next (settle s)) ∧
    (∀ (endNs : Nat) (f : List Byte) (rssi : BitVec 8),
      let lo := if 250000 ≤ endNs then 2 else 0
      let heard : Prop := mirrorRuns s = true ∧ isHead s = false
      let window : Prop := lo ≤ cycleSlot s ∧ cycleSlot s < lo + 2
      let opens : Prop := heard ∧ window ∧ m.beaconNow = false
      let session : Word := BitVec.ofNat 32 (bytesNat ((f.drop 2).take 4))
      let pl := frameOpen (packKey s) (nonceOf (1000 * cycleStart s) (f.getD 0 0) session) 6 16 f
      ((¬ heard ∨ (window ∧ m.beaconNow = true)) → exec (.beaconReceive endNs f rssi) s = .next (settle s)) ∧
      (heard → ¬ window → exec (.beaconReceive endNs f rssi) s = .next (settle other)) ∧
      (opens → frameCrcOk 6 16 f = false → exec (.beaconReceive endNs f rssi) s = .next (settle other)) ∧
      (opens → frameCrcOk 6 16 f = true → pl = none → exec (.beaconReceive endNs f rssi) s = .next (settle mic)) ∧
      (∀ p, opens → frameCrcOk 6 16 f = true → pl = some p → beaconOkHere f p s = false →
        exec (.beaconReceive endNs f rssi) s = .next (settle other)) ∧
      (∀ p, opens → frameCrcOk 6 16 f = true → pl = some p → beaconOkHere f p s = true →
        ∃ t, exec (.beaconReceive endNs f rssi) s = .next t ∧
          { t with mirr := m, col := s.col, time := s.time, cur := s.cur, safe := s.safe } = s ∧
          t.mirr.session = session ∧ t.mirr.beaconOk = true ∧ t.mirr.beaconNow = true ∧ t.mirr.beaconMiss = 0 ∧
          t.mirr.phaseNs = (endNs : Int) - (if 250000 ≤ endNs then 294000 else 44000) ∧
          (s.link.state = .split → t.time = { s.time with radioSync := true } ∧
            t.cur = { s.cur with skew := if s.time.locked then 2 else 3 }) ∧
          (s.link.state ≠ .split → t.time = s.time ∧ t.cur = s.cur) ∧
          t.mirr.lost = false ∧ t.mirr.rssi = rssi ∧ t.mirr.packMode = bits ((p.getD 2 0).setWidth 32) 7 5 ∧
          t.mirr.packSafety = bits ((p.getD 2 0).setWidth 32) 4 3 ∧ t.safe.state = s.safe.state ∧
          (m.lost = true → t.col.stand.getLsbD 78 = false) ∧
          ((p.getD 8 0).toNat = s.sys.addr.toNat → s.sys.addr ≠ 0 →
            bytesNat ((p.drop 10).take 4) ≠ s.otp.uid.toNat % 2 ^ 32 → t.mirr.txInh = true))) ∧
    (mirrorRuns s = true → isHead s = false → m.lost = false → fld s .mirrTol 27 24 < m.beaconMiss →
      ∃ t, exec .beaconLost s = .next t ∧ t.mirr = { m with lost := true } ∧ t.col = colStand 78 true 0 s.col ∧
        t.time = { s.time with radioSync := false } ∧ t.safe.state = s.safe.state ∧ t.link = s.link ∧ t.cfgW = s.cfgW ∧
        (s.link.state = .split → t.bal.sw = 0 ∧ t.bal.closed = 0 ∧ (s.bob.st ≠ 3 → t.bob.st = 3)) ∧
        (s.link.state ≠ .split → t.bal = s.bal ∧ t.bob = s.bob)) ∧
    ((mirrorRuns s = false ∨ isHead s = true ∨ m.lost = true ∨ m.beaconMiss ≤ fld s .mirrTol 27 24) →
      exec .beaconLost s = .next (settle s)) ∧
    (slotSends s = true →
      exec (.mirrorSlotSend true) s = .next (settle { s with mirr := { m with frameTx := onAir_ ++ memberFrame s } }) ∧
      exec (.mirrorSlotSend false) s = .next (settle { s with
        mirr := { m with stopped := true, frameTx := [] }, col := colRaise 80 0 s.col })) ∧
    (∀ tx : Bool, slotSends s = false → exec (.mirrorSlotSend tx) s = .next (settle s)) ∧
    (∀ (slot : BitVec 6) (f : List Byte) (rssi : BitVec 8), slot.toNat ≤ 60 →
      let a := slot.toNat + 2
      let heard : Prop := mirrorRuns s = true ∧ isHead s = true
      let here : Prop := heard ∧ cycleHolds s (slotUs a + 130) (slotUs a + 150) = true
      let pl := frameOpen (packKey s) (nonceOf (1000 * cycleStart s + slotUs a) (f.getD 0 0) m.session) 2 16 f
      let a6 : BitVec 6 := BitVec.ofNat 6 a
      let copy (p : List Byte) := copyOfFrame f p a6 (BitVec.ofNat 16 (slotStitch s a))
      let known : Bool := (mapAtSlot s a).1.getLsbD a
      let inSet_ : Bool := (mapAtSlot s a).2.getLsbD a
      (¬ heard → exec (.memberFrameReceive slot f rssi) s = .next (settle s)) ∧
      (heard → ¬ here → exec (.memberFrameReceive slot f rssi) s = .next (settle other)) ∧
      (here → frameCrcOk 2 16 f = false → exec (.memberFrameReceive slot f rssi) s = .next (settle other)) ∧
      (here → frameCrcOk 2 16 f = true → pl = none → exec (.memberFrameReceive slot f rssi) s = .next (settle mic)) ∧
      (∀ p, here → frameCrcOk 2 16 f = true → pl = some p → (copy p = none ∨ known = false) →
        exec (.memberFrameReceive slot f rssi) s = .next (settle other)) ∧
      (∀ p c, here → frameCrcOk 2 16 f = true → pl = some p → copy p = some c → known = true → inSet_ = false →
        exec (.memberFrameReceive slot f rssi) s = .next (settle s)) ∧
      let held : Bool := !(decide (slotStitch s a < stitches s) && s.enum.newHere.getLsbD a)
      (∀ p c, here → frameCrcOk 2 16 f = true → pl = some p → copy p = some c → known = true → inSet_ = true →
        a < s.link.members.length →
        ∃ t, exec (.memberFrameReceive slot f rssi) s = .next t ∧
          { t with link := s.link, safe := s.safe, bob := s.bob } = s ∧
          member t a = (if held = true then { member s a with slotCopy := some c, radio := some c, rssi := rssi } else member s a) ∧
          (∀ k, k ≠ a → member t k = member s k) ∧
          (c.safety = .lockout → t.safe.state = .lockout ∧ t.safe.pins = 0) ∧
          (c.safety ≠ .lockout → copyTrips c = true → tripped t = true ∧ t.safe.pins = 0) ∧
          (c.safety ≠ .lockout → copyTrips c = false → t.safe.state = s.safe.state))) ∧
    (∀ a : BitVec 6, judgeDue s a.toNat = true → a.toNat < s.link.members.length →
      let n := fld s .mirrTol 27 24 + 1
      let o := member s a.toNat
      let r := memberJudged n (mirrorClass s a.toNat) (stitches s / 10) o
      ∃ t, exec (.mirrorJudge a) s = .next t ∧ { t with link := s.link, safe := s.safe, bob := s.bob, col := s.col } = s ∧
        member t a.toNat = r ∧ r.cls = mirrorClass s a.toNat ∧
        (r.cls = 0 → r.nonAgree = 0 ∧ r.both = 0 ∧ r.agree = min (o.agree + 1) 16) ∧
        (r.cls ≠ 0 → r.nonAgree = min (o.nonAgree + 1) 255 ∧ r.agree = 0 ∧ (n ≤ r.nonAgree → r.fault = true)) ∧
        (r.cls = 4 → r.both = min (o.both + 1) 255) ∧
        (n ≤ r.both → tripped t = true ∧ t.safe.pins = 0 ∧ (tripped s = false → t.safe.causeFlags = 1 ∧ t.safe.causeOrigin = 0)) ∧
        (r.both < n → t.safe.state = s.safe.state)) ∧
    (∀ a : BitVec 6, slotStitch s a.toNat < stitches s → s.enum.newHere.getLsbD a.toNat = true →
      exec (.mirrorJudge a) s = .next (settle s)) ∧
    (∀ a : BitVec 6, judgeDue s a.toNat = false → exec (.mirrorJudge a) s = .next (settle s))
/-! ### Recorder and collector -/

/-- R302, R308, R444 to R446, R449, R460, R469: the recorder ends after its last frame; the patrol reads one page, counts
what it finds and wraps after 65 536; an injection that has run out ends; a device record frame that is intact reaches the
pack records, and a gap in its RSEQ raises EVT_OVERFLOW; a pack record closes 20 stitches after its first occurrence and
enters the queue with the drops before it; how many a missing frame held is a free value from 1 to 16 (log 72). A page that is late delays the patrol's next: none comes sooner than
110 stitches after it (the model's reading of R469's pace, log 16). R454 to R457: at
a boundary RECORDING and POST write the frames of the stitch that ended at the write pointer, 8 of 32 words, 4 of 32 or one of
24, the last of a page of stitch frames with 64 zero bytes behind it, and no other byte of the bobbin changes. So does STITCH_BOUNDARY:
while no trigger or freeze moves the recorder and the factory port is still, each frame carries the stitch that ended, its slot, its
TYPE and the pack time of its start, and a FULL frame the code of every cell by R456; POST counts them off. -/
def Obligations.RecorderAndPackRecordsProceed : Prop :=
  ∀ s : State,
    let r := s.bob
    let c := s.col
    (r.st = 2 → r.trig = none → r.post = 0 →
      exec .postComplete s = .next (settle { s with bob := { r with st := 3 } })) ∧
    ((r.st ≠ 2 ∨ r.trig ≠ none ∨ r.post ≠ 0) → exec .postComplete s = .next (settle s)) ∧
    (∀ ups : List Upset, (awake s = false ∨ r.patTick < 110) →
      exec (.recorderPatrol ups) s = .next (settle { s with bob := recUpset ups r })) ∧
    (∀ ups : List Upset, awake s = true → 110 ≤ r.patTick →
      ∃ t, exec (.recorderPatrol ups) s = .next t ∧ { t with bob := r, col := c, jrnl := s.jrnl, safe := s.safe } = s ∧
        t.safe.state = s.safe.state ∧ t.bob.patTick = 0 ∧ (r.patPage ≠ 65535 → t.bob.patPage = r.patPage + 1 ∧ t.bob.passes = r.passes) ∧
        (r.patPage = 65535 → t.bob.patPage = 0 ∧ t.bob.passes = (r.passes + 1) % 256 ∧ t.bob.accCe = 0 ∧ t.bob.accUe = 0) ∧
        ((∀ u ∈ (recUpset ups r).errs, u.word / 128 ≠ r.patPage) → t.bob.mem = r.mem ∧ t.bob.retired = r.retired ∧
          t.col = c ∧ t.jrnl = s.jrnl ∧ (r.patPage = 65535 → t.bob.passCe = min r.accCe 0xFFFF ∧ t.bob.passUe = min r.accUe 0xFFFF))) ∧
    (∀ (rate : Nat) (ws : List Word), rate ≤ 2 → memWf r.mem = true → 4 * ws.length = frameBytes rate →
      let base := r.wPage * 1024 + r.wFrame * frameBytes rate
      let bytes := ws.flatMap wordBytes ++ (if rate = 2 ∧ r.wFrame = 9 then List.replicate 64 0 else [])
      let t := frameWrite rate ws r
      (∀ a, memGet t.mem a = if base ≤ a ∧ a < base + bytes.length then bytes.getD (a - base) 0 else memGet r.mem a) ∧
        (t.wPage, t.wFrame) = posNext rate r r.wPage r.wFrame ∧ t.retired = r.retired ∧ t.st = r.st ∧
        (∀ u ∈ t.errs, u ∈ r.errs)) ∧
    (∀ v : State,
      let rate := fld v .recCfg 1 0
      let fs := framesOf { v with col := c } rate
      let at_ (k : Nat) : Nat × Nat := (List.range k).foldl (fun x _ => posNext rate r x.1 x.2) (r.wPage, r.wFrame)
      let within (a k : Nat) : Prop := let x := at_ k
        x.1 * 1024 + x.2 * frameBytes rate ≤ a ∧
        a < x.1 * 1024 + x.2 * frameBytes rate + (if rate = 2 ∧ x.2 = 9 then 160 else frameBytes rate)
      fs.length = (match rate with | 0 => 8 | 1 => 4 | _ => 1) ∧
      (rate ≤ 2 → ∀ ws ∈ fs, 4 * ws.length = frameBytes rate) ∧
      ((r.st = 0 ∨ r.st = 3) → recorderWrite v s = s) ∧
      { recorderWrite v s with bob := r } = s ∧
      ((r.st = 1 ∨ r.st = 2) → rate ≤ 2 → memWf r.mem = true → (r.wFrame = 0 ∨ r.rate = rate) →
        ∀ a, (∀ k < fs.length, ¬ within a k) → memGet (recorderWrite v s).bob.mem a = memGet r.mem a)) ∧
    (∀ i : BoundaryIn, hwslOn s = true → coreRuns s = true → s.sys.mode.isSome = true → s.time.fresh = false → s.dev.inbox = [] →
      s.dev.bcasts = [] → s.safe.misses < 15 → thermalDue s = false → i.factory = [] → r.ctrlPend = [] → memWf r.mem = true →
      let rate := fld s .recCfg 1 0
      let n := match rate with | 0 => 8 | 1 => 4 | _ => 1
      let at_ (k : Nat) : Nat × Nat := (List.range k).foldl (fun x _ => posNext rate r x.1 x.2) (r.wPage, r.wFrame)
      let base (k : Nat) : Nat := (at_ k).1 * 1024 + (at_ k).2 * frameBytes rate
      let pad (k : Nat) : Nat := if rate = 2 ∧ (at_ k).2 = 9 then 64 else 0
      (r.st = 1 ∨ (r.st = 2 ∧ r.trig = none ∧ n ≤ r.post)) → rate ≤ 2 → r.wFrame < framesPerPage rate →
      r.wFrame = 0 ∨ r.rate = rate →
      ∃ t, exec (.stitchBoundary i) s = .next t ∧ (t.bob.st = r.st →
        (t.bob.wPage, t.bob.wFrame) = at_ n ∧ (r.st = 2 → t.bob.post = r.post - n) ∧
        (∀ a, (∀ k < n, a < base k ∨ base k + frameBytes rate + pad k ≤ a) → memGet t.bob.mem a = memGet r.mem a) ∧
        ∀ k < n,
          let byte (j : Nat) : Byte := memGet t.bob.mem (base k + j)
          let word (j : Nat) : Word := byte (4 * j) ++ byte (4 * j + 1) ++ byte (4 * j + 2) ++ byte (4 * j + 3)
          (∀ j < pad k, byte (frameBytes rate + j) = 0) ∧
          (let w := word 0
           let slot := match rate with | 0 => k | 1 => 2 * k | _ => 0
           bits w 31 16 = (stitch s).toNat ∧ bits w 15 13 = slot ∧ bit w 11 = false ∧ bits w 10 8 = rate + 1 ∧
           word 1 = (s.time.ptB + BitVec.ofNat 64 (125 * slot)).setWidth 32) ∧
          (rate = 0 → ∀ m : Fin 32,
            let code := bits (word (2 + m.val / 2)) (16 * (m.val % 2) + 15) (16 * (m.val % 2))
            let given := s.meas.modOn = true ∧ s.sys.startDone = true ∧ bit s.meas.heldNow m.val = false
            (populated s m.val = false → code = 0xFFF1) ∧
            (populated s m.val = true → owStands s m.val = true → code = 0xFFF2) ∧
            (populated s m.val = true → owStands s m.val = false →
              (¬ given ∨ (s.meas.subs.getD k [])[m.val]? = none → code = 0xFFF0) ∧
              (∀ x, given → (s.meas.subs.getD k [])[m.val]? = some x →
                code = if x.ovl ≠ 0 ∨ x.v < -500000 ∨ 5500000 < x.v then 0xFFF3 else chainCode x.v))))) ∧
    (c.injLeft = some 0 →
      exec .injectionEnd s = .next (settle { s with col := { c with injSrc := none, injLeft := none } })) ∧
    (c.injLeft ≠ some 0 → exec .injectionEnd s = .next (settle s)) ∧
    (∀ (p : Port) (ws : List LinkWord), linkUp s = false →
      exec (.eventRecordReceive p ws) s = .next (settle s)) ∧
    (∀ (p : Port) (ws : List LinkWord), isHead s = true → linkUp s = true → errsDense ws = false → frameTypes ws = false →
      exec (.eventRecordReceive p ws) s = .next (settle (wordsSeen p ws s))) ∧
    (∀ (p : Port) (a : BitVec 6) (q : BitVec 8) (st : BitVec 16) (l : List DevRec), isHead s = true → linkUp s = true →
      1 ≤ l.length → l.length ≤ 16 → (∀ x ∈ l, x.source < 128 ∧ x.level < 4 ∧ x.cnt < 256) →
      a.toNat < s.link.members.length → a.toNat < c.drops.length →
      let gap := match (s.link.members.getD a.toNat {}).rseq with | none => 0 | some p => (q - p - 1).toNat
      let into := (l.filter (fun x => !srcReserved x.source)).foldl (fun k x => headMerge a (stitches s) x k) c
      ∃ t, exec (.eventRecordReceive p (typed true (eventFrame a q st l))) s = .next t ∧
        { t with col := c, link := s.link, safe := s.safe, free := s.free } = s ∧ t.safe.state = s.safe.state ∧
        (t.link.members.getD a.toNat {}).rseq = some q ∧
        (gap = 0 → (∀ x ∈ l, x.source ≠ 126) → t.col = into ∧ t.free = s.free) ∧
        (gap ≠ 0 → (∀ x ∈ l, x.source ≠ 126) → t.col.pulse.getLsbD 126 = true ∧ t.col.queue = into.queue ∧
          (∀ k, k ≠ a.toNat → t.col.drops.getD k 0 = c.drops.getD k 0) ∧
          (∃ n, gap ≤ n ∧ n ≤ 16 * gap ∧ t.col.drops.getD a.toNat 0 = min (c.drops.getD a.toNat 0 + n) 0xFFFF))) ∧
    (∃ t, exec .packRecordClose s = .next t ∧ { t with col := c, host := s.host, safe := s.safe } = s ∧
      t.safe.state = s.safe.state ∧ { t.host with irq := s.host.irq } = s.host ∧
      t.col.openRecs = c.openRecs.filter (fun p => !(decide (20 ≤ (stitch s - p.first).toNat))) ∧
      (s.host.irq = true → t.host.irq = true) ∧ (irqNow t = true → t.host.irq = true) ∧
      (∀ p, c.openRecs = [p] → 20 ≤ (stitch s - p.first).toNat → c.queue.length < 32 → t.col.dropped = 0 ∧
        (∀ a < 64, t.col.drops.getD a 0 = if p.devs.getLsbD a = true then 0 else c.drops.getD a 0) ∧
        ∃ k, t.col.queue = c.queue ++ [k] ∧ k.dropped = dropsOf c p.devs ∧
          { k with dropped := p.dropped, rootTag := p.rootTag, root := p.root, rootDev := p.rootDev } = p) ∧
      ((∀ p ∈ c.openRecs, (stitch s - p.first).toNat < 20) → t.col = c))
end

