-- ==== Sys2Proof/Laws/Access.lean ====
section
/-! SUPPORT. Commands as a whole: how each ends, and what a command that writes one register does. -/

namespace Sys2Proof.Machine

open Sys2Proof.Safety

/-- Every command answers a next state in which no pin is high that R391 does not allow. -/
theorem exec_settled (c : Instr) (s : State) : ∃ u, exec c s = .next (settle u) := by
  cases c <;> exact ⟨_, rfl⟩

/-- One register written by a WR of one word: applied when the judgement is 0, else recorded (R11, R137, R141). -/
theorem accessWr_one (a : Nat) (v : Word) (s : State) (ha : a < 65536) (h4 : a % 4 = 0) :
    (accessWr (BitVec.ofNat 16 a) [v] false false s).2 =
      if writeCode a v s = 0 then applyReg (cfgPut a v s.cfgW) a v false false s
      else pgRecord a (writeCode a v s) s := by
  have hr : rangeOver (BitVec.ofNat 16 a) 1 = false := by simp [rangeOver]; omega
  have hl : writesOf (BitVec.ofNat 16 a) [v] = [(a, v)] := by simp [writesOf, regAddr, List.zipIdx]; omega
  unfold accessWr judgeWr writeCode
  simp only [List.length_singleton, hr, Bool.false_eq_true, if_false, hl, judgeAll, tentative, List.foldl]
  by_cases h : judgeReg s (cfgPut a v s.cfgW) a v false false = 0
  · simp [h, applyAll]
  · simp [h]

/-- The same, as the rows that write one register run it. -/
theorem writeOne_run (a : Nat) (v : Word) (s : State) (ha : a < 65536) (h4 : a % 4 = 0) (hc : coreRuns s = true) :
    writeOne a v s = if writeCode a v s = 0 then applyReg (cfgPut a v s.cfgW) a v false false s
      else pgRecord a (writeCode a v s) s := by
  rw [writeOne, hc, if_pos rfl, accessWr_one a v s ha h4]

/-- What a command that writes one register does, whichever row it is. -/
theorem exec_write {c : Instr} {a : Nat} {v : Word} (s : State) (hc : coreRuns s = true)
    (h : writeOf c = some (a, v)) :
    exec c s = done (if writeCode a v s = 0 then applyReg (cfgPut a v s.cfgW) a v false false s
      else pgRecord a (writeCode a v s) s) := by
  have aux : ∀ (a : Nat) (v : Word), a < 65536 → a % 4 = 0 →
      writeOne a v s = if writeCode a v s = 0 then applyReg (cfgPut a v s.cfgW) a v false false s
        else pgRecord a (writeCode a v s) s := fun a v h1 h2 => writeOne_run a v s h1 h2 hc
  cases c <;> simp only [writeOf, reduceCtorEq, Option.some.injEq, Prod.mk.injEq] at h <;> try contradiction
  all_goals try (obtain ⟨rfl, rfl⟩ := h)
  all_goals try (show done (writeOne _ _ _) = _; rw [aux _ _ (by omega) (by omega)])
  · split at h
    · rename_i h4
      simp only [Option.some.injEq, Prod.mk.injEq] at h
      obtain ⟨rfl, rfl⟩ := h
      show done (if _ then writeOne _ _ _ else _) = _
      rw [if_pos h4, aux _ _ (by omega) h4]
    · contradiction
  · rename_i ad _
    split at h
    · rename_i h4
      simp only [Option.some.injEq, Prod.mk.injEq] at h
      obtain ⟨rfl, rfl⟩ := h
      show done (if _ then writeOne _ _ _ else _) = _
      have : ad.toNat % 4 = 0 := by simp [isLatchReg] at h4; omega
      rw [if_pos h4, aux _ _ (by omega) this]
    · contradiction

end Sys2Proof.Machine
end

