-- ==== Sys2Proof/Laws/Memory.lean ====
section
/-! SUPPORT. Byte memories: every operation keeps the canonical form; a read after a write gives the byte written; every
other byte reads as before; burning adds bits and clears none (R501). -/

namespace Sys2Proof.Machine

/-- A canonical memory with one cell in front is one whose tail is canonical and lies above the cell. -/
theorem memWf_cons (c : Host.Cell) (l : List Host.Cell) :
    memWf (c :: l) = true ↔ c.2 ≠ 0 ∧ (∀ d ∈ l, c.1 < d.1) ∧ memWf l = true := by
  induction l generalizing c with
  | nil => simp [memWf]
  | cons d l ih =>
    simp only [memWf, Bool.and_eq_true, decide_eq_true_eq, bne_iff_ne, ne_eq, List.mem_cons, forall_eq_or_imp]
    constructor
    · rintro ⟨⟨h1, h2⟩, h3⟩
      exact ⟨h1, ⟨h2, fun e he => Nat.lt_trans h2 (((ih d).1 h3).2.1 e he)⟩, h3⟩
    · rintro ⟨h1, ⟨h2, _⟩, h3⟩
      exact ⟨⟨h1, h2⟩, h3⟩

/-- An address below every cell reads 0. -/
theorem memGet_below (m : List Host.Cell) (a : Nat) (h : ∀ d ∈ m, a < d.1) : memGet m a = 0 := by
  induction m with
  | nil => rfl
  | cons c l ih =>
    simp only [List.mem_cons, forall_eq_or_imp] at h
    simp only [memGet, Nat.ne_of_gt h.1, if_false]
    exact ih h.2

/-- The cells of a written memory are old cells or the new one. -/
theorem mem_memSet (m : List Host.Cell) (a : Nat) (v : Byte) (d : Host.Cell) (h : d ∈ memSet m a v) :
    d ∈ m ∨ d.1 = a := by
  induction m with
  | nil =>
    simp only [memSet] at h
    split at h
    · exact absurd h List.not_mem_nil
    · exact .inr (by rw [List.mem_singleton.1 h])
  | cons c l ih =>
    simp only [memSet] at h
    split at h
    · split at h
      · exact .inl h
      · rcases List.mem_cons.1 h with rfl | h
        · exact .inr rfl
        · exact .inl h
    · split at h
      · split at h
        · exact .inl (List.mem_cons_of_mem _ h)
        · rcases List.mem_cons.1 h with rfl | h
          · exact .inr rfl
          · exact .inl (List.mem_cons_of_mem _ h)
      · rcases List.mem_cons.1 h with rfl | h
        · exact .inl List.mem_cons_self
        · rcases ih h with h | h
          · exact .inl (List.mem_cons_of_mem _ h)
          · exact .inr h

/-- A write keeps the canonical form. -/
theorem memWf_memSet (m : List Host.Cell) (a : Nat) (v : Byte) (h : memWf m = true) : memWf (memSet m a v) = true := by
  induction m with
  | nil =>
    simp only [memSet]
    split
    · rfl
    · rename_i hv
      exact (memWf_cons _ _).2 ⟨hv, fun d hd => absurd hd List.not_mem_nil, rfl⟩
  | cons c l ih =>
    have hc := (memWf_cons c l).1 h
    simp only [memSet]
    split
    · rename_i hlt
      split
      · exact h
      · rename_i hv
        refine (memWf_cons _ _).2 ⟨hv, ?_, h⟩
        intro d hd
        rcases List.mem_cons.1 hd with rfl | hd
        · exact hlt
        · exact Nat.lt_trans hlt (hc.2.1 d hd)
    · split
      · rename_i heq
        split
        · exact hc.2.2
        · rename_i hv
          exact (memWf_cons _ _).2 ⟨hv, fun d hd => heq ▸ hc.2.1 d hd, hc.2.2⟩
      · rename_i hlt hne
        refine (memWf_cons _ _).2 ⟨hc.1, ?_, ih hc.2.2⟩
        intro d hd
        rcases mem_memSet l a v d hd with hd | hd
        · exact hc.2.1 d hd
        · omega

/-- The byte written is the byte read. -/
theorem memGet_memSet_same (m : List Host.Cell) (a : Nat) (v : Byte) (h : memWf m = true) :
    memGet (memSet m a v) a = v := by
  induction m with
  | nil =>
    simp only [memSet]
    split
    · rename_i hv; rw [hv]; rfl
    · simp [memGet]
  | cons c l ih =>
    have hc := (memWf_cons c l).1 h
    simp only [memSet]
    split
    · rename_i hlt
      split
      · rename_i hv
        rw [hv]
        exact memGet_below _ _ (fun d hd => by
          rcases List.mem_cons.1 hd with rfl | hd
          · exact hlt
          · exact Nat.lt_trans hlt (hc.2.1 d hd))
      · simp [memGet]
    · split
      · rename_i heq
        split
        · rename_i hv
          rw [hv]
          exact memGet_below _ _ (fun d hd => heq ▸ hc.2.1 d hd)
        · simp [memGet]
      · rename_i hne
        simp only [memGet, hne, if_false]
        exact ih hc.2.2

/-- Every other byte reads as before. -/
theorem memGet_memSet_other (m : List Host.Cell) (a b : Nat) (v : Byte) (hb : b ≠ a) :
    memGet (memSet m a v) b = memGet m b := by
  induction m with
  | nil =>
    simp only [memSet]
    split
    · rfl
    · simp [memGet, Ne.symm hb]
  | cons c l ih =>
    simp only [memSet]
    split
    · split
      · rfl
      · simp [memGet, Ne.symm hb]
    · split
      · rename_i heq
        split
        · simp [memGet, heq, Ne.symm hb]
        · simp [memGet, heq, Ne.symm hb]
      · simp only [memGet, ih]

/-- Writes at rising addresses keep the canonical form. -/
theorem memWf_memSetBytes (m : List Host.Cell) (a : Nat) (l : List Byte) (h : memWf m = true) :
    memWf (memSetBytes m a l) = true := by
  induction l generalizing m a with
  | nil => exact h
  | cons v vs ih => exact ih _ _ (memWf_memSet m a v h)

/-- Bytes outside the range written read as before. -/
theorem memGet_memSetBytes_other (m : List Host.Cell) (a b : Nat) (l : List Byte)
    (hb : b < a ∨ a + l.length ≤ b) : memGet (memSetBytes m a l) b = memGet m b := by
  induction l generalizing m a with
  | nil => rfl
  | cons v vs ih =>
    simp only [List.length_cons] at hb
    simp only [memSetBytes]
    rw [ih _ _ (by omega), memGet_memSet_other _ _ _ _ (by omega)]

/-- Bytes inside the range written are those written. -/
theorem memGet_memSetBytes_same (m : List Host.Cell) (a k : Nat) (l : List Byte) (h : memWf m = true)
    (hk : k < l.length) : memGet (memSetBytes m a l) (a + k) = l.getD k 0 := by
  induction l generalizing m a k with
  | nil => simp at hk
  | cons v vs ih =>
    simp only [memSetBytes]
    cases k with
    | zero =>
      rw [memGet_memSetBytes_other _ _ _ _ (by omega), Nat.add_zero, memGet_memSet_same _ _ _ h]
      rfl
    | succ k =>
      have := ih (memSet m a v) (a + 1) k (memWf_memSet m a v h) (by simpa using hk)
      rw [show a + (k + 1) = a + 1 + k by omega, this]
      rfl

/-- Burning keeps the canonical form. -/
theorem memWf_memBurn (m : List Host.Cell) (a : Nat) (l : List Byte) (h : memWf m = true) :
    memWf (memBurn m a l) = true := by
  induction l generalizing m a with
  | nil => exact h
  | cons v vs ih => exact ih _ _ (memWf_memSet m a _ h)

/-- Bytes outside the range burned read as before. -/
theorem memGet_memBurn_other (m : List Host.Cell) (a b : Nat) (l : List Byte)
    (hb : b < a ∨ a + l.length ≤ b) : memGet (memBurn m a l) b = memGet m b := by
  induction l generalizing m a with
  | nil => rfl
  | cons v vs ih =>
    simp only [List.length_cons] at hb
    simp only [memBurn]
    rw [ih _ _ (by omega), memGet_memSet_other _ _ _ _ (by omega)]

/-- A byte burned reads as it did, with the new bits added (R501). -/
theorem memGet_memBurn_same (m : List Host.Cell) (a k : Nat) (l : List Byte) (h : memWf m = true)
    (hk : k < l.length) : memGet (memBurn m a l) (a + k) = memGet m (a + k) ||| l.getD k 0 := by
  induction l generalizing m a k with
  | nil => simp at hk
  | cons v vs ih =>
    simp only [memBurn]
    cases k with
    | zero =>
      rw [memGet_memBurn_other _ _ _ _ (by omega), Nat.add_zero, memGet_memSet_same _ _ _ h]
      rfl
    | succ k =>
      have := ih (memSet m a (memGet m a ||| v)) (a + 1) k (memWf_memSet m a _ h) (by simpa using hk)
      rw [show a + (k + 1) = a + 1 + k by omega, this, memGet_memSet_other _ _ _ _ (by omega)]
      rfl

end Sys2Proof.Machine
end

