-- ==== Sys2Proof/WellFormed.lean ====
section
/-! DEFINITION. Which commands are well formed: operand lists of the length the spec gives them, addresses and numbers
within their ranges. The meanings are total and do not ask it (log 4). -/

namespace Sys2Proof

/-- R116: the command data a host WR frame carries, whatever LEN holds. -/
def wrWords (h : HostHdr) : Nat := h.len.toNat + (if h.addr = 0 then 1 else 0)

/-- R463, R465: an upset lies in the bobbin's 8 388 608 storage words and flips something. -/
def Upset.ok (u : Upset) : Bool := decide (u.word < 8388608) && u.flips != 0

/-- R153: an overload mark is 1, 0 or -1. -/
def Sub.ok (x : Sub) : Bool := decide (-1 ≤ x.ovl) && decide (x.ovl ≤ 1)

/-- R302, R308, R309: a run of ring words no longer than the command region. -/
def frameOk (ws : List LinkWord) : Bool := decide (1 ≤ ws.length) && decide (ws.length ≤ 72)

/-- R24, R149: the conversions of a slot: 32 cells. -/
def SlotIn.ok (i : SlotIn) : Bool :=
  i.cells.length == 32 && i.cells.all Sub.ok && i.stack.ok && i.shunt.ok && i.point.ok

/-- R434: a copy of the collector's state holds 128 sources. -/
def ColCopy.ok (c : ColCopy) : Bool :=
  c.lvl.length == 128 && c.eff.length == 128 && c.steps.length == 128 && c.cnt.length == 128

/-- R465: the factory port names storage words of the bobbin. -/
def PortOp.ok : PortOp → Bool
  | .engine _ => true
  | .read i | .write i _ | .masked i _ _ => decide (i < 8388608)

/-- R283: eight die sensors; R17, R419: copies of 128 sources and 20 sealed words; the accesses of the
factory port (R465). -/
def BoundaryIn.ok (i : BoundaryIn) : Bool :=
  i.dies.length == 8 && i.factory.all PortOp.ok &&
    (match i.copyB with | some x => x.col.ok && x.sealSet.length == 20 | none => true)

/-- R252, R253: patrol addresses lie in the 384 KiB ROM and the 256 KiB SRAM. -/
def TaskIn.ok (i : TaskIn) : Bool :=
  (match i.romErr with | some a => decide (a < 393216) | none => true) &&
    (match i.romFetch with | some a => decide (a < 393216) | none => true) &&
    i.sramCe.all (fun a => decide (a < 262144)) && i.sramUe.all (fun a => decide (a < 262144)) &&
    i.coreCe.all (fun a => decide (a.1 < 262144)) && i.coreUe.all (fun a => decide (a.1 < 262144))

/-- R289, R493: what a breath check converts in its 8 stitches. -/
def BreathIn.ok (i : BreathIn) : Bool :=
  i.coarse.length == 32 && i.coarse.all (fun c => c.length == 64) && i.ts.length == 16 &&
    i.ts.all (fun c => c.length == 8) && i.dies.length == 8 && i.dies.all (fun d => d.length == 8)

/-- The well-formed commands. -/
def Instr.wellFormed : Instr → Bool
  | .wr h ws => ws.length == wrWords h
  | .bulk _ _ ups | .recorderPatrol ups => ups.all Upset.ok
  | .registerWrite a _ | .latchClear a _ => a.toNat % 4 == 0
  | .commandFrameReceive _ us ws ups _ => decide (us.toNat < 125) && frameOk ws && ups.all Upset.ok
  | .replyFrameReceive _ ws => decide (3 ≤ ws.length) && decide (ws.length ≤ 67)
  | .siFilterEdge _ _ _ us l => decide (us.toNat < 1000) && decide (201 ≤ l.length)
  | .linkServiceBusy ws => frameOk ws
  | .slotBoundary i => i.ok
  | .stitchBoundary i => i.ok
  | .safetyTask i => i.ok
  | .trimVerifyEnd _ means _ => means.length == 32
  | .commandBurstReceive _ ws => decide (15 ≤ ws.length) && decide (ws.length ≤ 47)
  | .summaryReceive _ a ws => decide (2 ≤ a.toNat) && decide (a.toNat ≤ 62) && ws.length == 4
  | .tackReceive _ ws => ws.length == 4
  | .idRecordReceive _ ofs ws => decide (ofs.toNat < 351) && ws.length == 5
  | .threadMessageComplete a => decide (1 ≤ a.toNat) && decide (a.toNat ≤ 62)
  | .commitReceive _ ws _ _ => ws.length == 9
  | .beaconReceive _ f _ | .memberFrameReceive _ f _ => decide (1 ≤ f.length) && decide (f.length ≤ 32)
  | .wakeFrameReceive us _ => decide (us.toNat ≤ 250)
  | .eventRecordReceive _ ws => decide (6 ≤ ws.length) && decide (ws.length ≤ 51)
  | .breathCheck i => i.ok
  | .mirrorJudge a | .memberRunAdmit a => decide (2 ≤ a.toNat) && decide (a.toNat ≤ 62)
  | _ => true

end Sys2Proof
end

