-- ==== Sys2Proof/Laws/PerInstr.lean ====
section
/-! SUPPORT. A law of the commands as syntax, one lemma for every constructor: the runs of ring words, the upsets and
the radio frames that a well-formed command carries have the lengths and ranges of the spec. -/

namespace Sys2Proof.Laws.Shape

set_option Elab.async false

/-- The ring words a command carries, if any. -/
def ringWords : Instr → Option (List LinkWord)
  | .commandFrameReceive _ _ ws _ _ => some ws
  | .replyFrameReceive _ ws => some ws
  | .linkServiceBusy ws => some ws
  | .commandBurstReceive _ ws => some ws
  | .summaryReceive _ _ ws => some ws
  | .tackReceive _ ws => some ws
  | .idRecordReceive _ _ ws => some ws
  | .commitReceive _ ws _ _ => some ws
  | .eventRecordReceive _ ws => some ws
  | _ => none

/-- The upsets of the bobbin a command carries. -/
def upsets : Instr → List Upset
  | .bulk _ _ ups => ups
  | .recorderPatrol ups => ups
  | .commandFrameReceive _ _ _ ups _ => ups
  | _ => []

/-- The radio frame a command carries, if any. -/
def radioFrame : Instr → Option (List Byte)
  | .beaconReceive _ f _ => some f
  | .memberFrameReceive _ f _ => some f
  | _ => none

/-- R304 to R309: ring words fit the command region. R463: upsets lie in the bobbin. R360: a radio frame has at most
32 bytes. -/
def Statement (i : Instr) : Prop :=
  i.wellFormed = true →
    (∀ ws, ringWords i = some ws → 1 ≤ ws.length ∧ ws.length ≤ 72) ∧
    (∀ u ∈ upsets i, u.word < 8388608) ∧
    (∀ f, radioFrame i = some f → 1 ≤ f.length ∧ f.length ≤ 32)

/-- A command that carries none of them. -/
theorem plain (i : Instr) (h1 : ringWords i = none) (h2 : upsets i = []) (h3 : radioFrame i = none) : Statement i := by
  intro _
  simp [h1, h2, h3]

theorem upsetsIn {ups : List Upset} (h : ups.all Upset.ok = true) : ∀ u ∈ ups, u.word < 8388608 := by
  intro u hu
  have := List.all_eq_true.mp h u hu
  simp [Upset.ok] at this
  exact this.1

theorem rd (h : HostHdr) : Statement (.rd h) := plain _ rfl rfl rfl
theorem wr (h : HostHdr) (words : List Word) : Statement (.wr h words) := plain _ rfl rfl rfl
theorem mwr (h : HostHdr) (mask value : Word) : Statement (.mwr h mask value) := plain _ rfl rfl rfl
theorem snap (h : HostHdr) (stitchWord : Word) : Statement (.snap h stitchWord) := plain _ rfl rfl rfl
theorem snrd (h : HostHdr) (snapWord : Word) : Statement (.snrd h snapWord) := plain _ rfl rfl rfl
theorem bulk (h : HostHdr) (offset : Word) (ups : List Upset) : Statement (.bulk h offset ups) := by
  intro hw
  exact ⟨by simp [ringWords], upsetsIn hw, by simp [radioFrame]⟩
theorem next (h : HostHdr) : Statement (.next h) := plain _ rfl rfl rfl
theorem fetch (h : HostHdr) : Statement (.fetch h) := plain _ rfl rfl rfl
theorem refetch (h : HostHdr) : Statement (.refetch h) := plain _ rfl rfl rfl
theorem frameAbort : Statement (.frameAbort) := plain _ rfl rfl rfl
theorem registerWrite (addr : BitVec 16) (v : Word) : Statement (.registerWrite addr v) := plain _ rfl rfl rfl
theorem commandFrameReceive (stream : Stream) (us : BitVec 7) (words : List LinkWord) (ups : List Upset) (handled : Bool) :
    Statement (.commandFrameReceive stream us words ups handled) := by
  intro hw
  simp only [Instr.wellFormed, frameOk, Bool.and_eq_true, decide_eq_true_eq] at hw
  refine ⟨?_, upsetsIn hw.2, by simp [radioFrame]⟩
  rintro _ ⟨⟩
  exact hw.1.2
theorem replyFrameReceive (port : Port) (words : List LinkWord) : Statement (.replyFrameReceive port words) := by
  intro hw
  simp [Instr.wellFormed] at hw
  refine ⟨?_, by simp [upsets], by simp [radioFrame]⟩
  rintro _ ⟨⟩
  omega
theorem transactionRetry (tag : BitVec 6) : Statement (.transactionRetry tag) := plain _ rfl rfl rfl
theorem linkServiceBusy (words : List LinkWord) : Statement (.linkServiceBusy words) := by
  intro hw
  simp [Instr.wellFormed, frameOk] at hw
  refine ⟨?_, by simp [upsets], by simp [radioFrame]⟩
  rintro _ ⟨⟩
  omega
theorem transactionBoundExpiry (tag : BitVec 6) (c : BoundCase) : Statement (.transactionBoundExpiry tag c) := plain _ rfl rfl rfl
theorem unreservedFrameExpiry (tag : BitVec 6) : Statement (.unreservedFrameExpiry tag) := plain _ rfl rfl rfl
theorem broadcastApply : Statement (.broadcastApply) := plain _ rfl rfl rfl
theorem snapshotCapture : Statement (.snapshotCapture) := plain _ rfl rfl rfl
theorem modeReq (v : Word) (bcast : Bool) : Statement (.modeReq v bcast) := plain _ rfl rfl rfl
theorem modeChange : Statement (.modeChange) := plain _ rfl rfl rfl
theorem memberRunAdmit (addr : BitVec 6) : Statement (.memberRunAdmit addr) := plain _ rfl rfl rfl
theorem roleCfgWrite (v : Word) : Statement (.roleCfgWrite v) := plain _ rfl rfl rfl
theorem kaCfgWrite (v : Word) : Statement (.kaCfgWrite v) := plain _ rfl rfl rfl
theorem stackPowerUp : Statement (.stackPowerUp) := plain _ rfl rfl rfl
theorem stackPowerDown : Statement (.stackPowerDown) := plain _ rfl rfl rfl
theorem vregQualified : Statement (.vregQualified) := plain _ rfl rfl rfl
theorem coreRelease : Statement (.coreRelease) := plain _ rfl rfl rfl
theorem headListenEnd : Statement (.headListenEnd) := plain _ rfl rfl rfl
theorem startPassComplete : Statement (.startPassComplete) := plain _ rfl rfl rfl
theorem rstLow (lowNs : Nat) (taken : Bool) : Statement (.rstLow lowNs taken) := plain _ rfl rfl rfl
theorem rstRelease (ms : Word) : Statement (.rstRelease ms) := plain _ rfl rfl rfl
theorem ackNPulse : Statement (.ackNPulse) := plain _ rfl rfl rfl
theorem ackStuck : Statement (.ackStuck) := plain _ rfl rfl rfl
theorem ackRearm : Statement (.ackRearm) := plain _ rfl rfl rfl
theorem hostAck (v : Word) : Statement (.hostAck v) := plain _ rfl rfl rfl
theorem ackApply : Statement (.ackApply) := plain _ rfl rfl rfl
theorem unlock (v : Word) : Statement (.unlock v) := plain _ rfl rfl rfl
theorem csnWake (lowUs : Nat) : Statement (.csnWake lowUs) := plain _ rfl rfl rfl
theorem stitchBoundary (i : BoundaryIn) : Statement (.stitchBoundary i) := plain _ rfl rfl rfl
theorem slotBoundary (i : SlotIn) : Statement (.slotBoundary i) := plain _ rfl rfl rfl
theorem coarseSample (sar : Fin 4) (conv : Fin 9) (code : BitVec 12) : Statement (.coarseSample sar conv code) := plain _ rfl rfl rfl
theorem mwResultComplete : Statement (.mwResultComplete) := plain _ rfl rfl rfl
theorem safetyTask (i : TaskIn) : Statement (.safetyTask i) := plain _ rfl rfl rfl
theorem deadlineCheck : Statement (.deadlineCheck) := plain _ rfl rfl rfl
theorem coreReset : Statement (.coreReset) := plain _ rfl rfl rfl
theorem postProcessing (served : Bool) : Statement (.postProcessing served) := plain _ rfl rfl rfl
theorem ppOverrun : Statement (.ppOverrun) := plain _ rfl rfl rfl
theorem shedResume : Statement (.shedResume) := plain _ rfl rfl rfl
theorem xdis (cell : Fin 32) : Statement (.xdis cell) := plain _ rfl rfl rfl
theorem sumMismatch : Statement (.sumMismatch) := plain _ rfl rfl rfl
theorem harnessMismatch : Statement (.harnessMismatch) := plain _ rfl rfl rfl
theorem syncEdge (t25 : Nat) (rising : Bool) (pulseNs : Nat) : Statement (.syncEdge t25 rising pulseNs) := plain _ rfl rfl rfl
theorem syncLost (t25 : Nat) : Statement (.syncLost t25) := plain _ rfl rfl rfl
theorem fallback : Statement (.fallback) := plain _ rfl rfl rfl
theorem isnsLost : Statement (.isnsLost) := plain _ rfl rfl rfl
theorem iauxLost : Statement (.iauxLost) := plain _ rfl rfl rfl
theorem iDisagree : Statement (.iDisagree) := plain _ rfl rfl rfl
theorem balTimerWrite (k : Fin 16) (v : Word) : Statement (.balTimerWrite k v) := plain _ rfl rfl rfl
theorem balTimerDecrement (cell : Fin 32) : Statement (.balTimerDecrement cell) := plain _ rfl rfl rfl
theorem rotationPoint : Statement (.rotationPoint) := plain _ rfl rfl rfl
theorem balVmin (cell : Fin 32) : Statement (.balVmin cell) := plain _ rfl rfl rfl
theorem owPause : Statement (.owPause) := plain _ rfl rfl rfl
theorem unitDue : Statement (.unitDue) := plain _ rfl rfl rfl
theorem unitStart : Statement (.unitStart) := plain _ rfl rfl rfl
theorem diagPeriodStart : Statement (.diagPeriodStart) := plain _ rfl rfl rfl
theorem reqOw (scope : BitVec 3) : Statement (.reqOw scope) := plain _ rfl rfl rfl
theorem reqCtt (scope : BitVec 3) : Statement (.reqCtt scope) := plain _ rfl rfl rfl
theorem reqPzt (scope : BitVec 3) : Statement (.reqPzt scope) := plain _ rfl rfl rfl
theorem reqBst (scope : BitVec 3) : Statement (.reqBst scope) := plain _ rfl rfl rfl
theorem reqTrimVerify (scope : BitVec 3) : Statement (.reqTrimVerify scope) := plain _ rfl rfl rfl
theorem owEvaluate : Statement (.owEvaluate) := plain _ rfl rfl rfl
theorem unitComplete : Statement (.unitComplete) := plain _ rfl rfl rfl
theorem fgLate : Statement (.fgLate) := plain _ rfl rfl rfl
theorem trimVerifyEnd (dacRead : List (Nat × Nat)) (chopMeans : List Int) (otpReadsGood : Bool) : Statement (.trimVerifyEnd dacRead chopMeans otpReadsGood) := plain _ rfl rfl rfl
theorem calCmd (v : Word) : Statement (.calCmd v) := plain _ rfl rfl rfl
theorem tsBroken : Statement (.tsBroken) := plain _ rfl rfl rfl
theorem sltViolation (ch : Chan) (ts : Fin 16) (low : Bool) : Statement (.sltViolation ch ts low) := plain _ rfl rfl rfl
theorem thermalShutdown : Statement (.thermalShutdown) := plain _ rfl rfl rfl
theorem thermalSdRecord : Statement (.thermalSdRecord) := plain _ rfl rfl rfl
theorem thermalRestart (heldMs : Word) : Statement (.thermalRestart heldMs) := plain _ rfl rfl rfl
theorem inhibitRelease (ch : Chan) (ovr : Bool) : Statement (.inhibitRelease ch ovr) := plain _ rfl rfl rfl
theorem sliLatch (ch : Chan) (dsg : Bool) : Statement (.sliLatch ch dsg) := plain _ rfl rfl rfl
theorem sdiLockout (ch : Chan) : Statement (.sdiLockout ch) := plain _ rfl rfl rfl
theorem degExpire : Statement (.degExpire) := plain _ rfl rfl rfl
theorem siFilterEdge (ch : Chan) (input : Fin 2) (active : Bool) (us : BitVec 10) (samples : List Bool) :
    Statement (.siFilterEdge ch input active us samples) := plain _ rfl rfl rfl
theorem siSettled (ch : Chan) : Statement (.siSettled ch) := plain _ rfl rfl rfl
theorem testPoint (b : Bool) (levels : BitVec 4) : Statement (.testPoint b levels) := plain _ rfl rfl rfl
theorem siDisc (input : Fin 2) : Statement (.siDisc input) := plain _ rfl rfl rfl
theorem unsealCmd (v : Word) : Statement (.unsealCmd v) := plain _ rfl rfl rfl
theorem sealConfirm (v : Word) : Statement (.sealConfirm v) := plain _ rfl rfl rfl
theorem packConfirm (v : Word) : Statement (.packConfirm v) := plain _ rfl rfl rfl
theorem keyStage (k : Fin 4) (v : Word) : Statement (.keyStage k v) := plain _ rfl rfl rfl
theorem otpCmd (v : Word) : Statement (.otpCmd v) := plain _ rfl rfl rfl
theorem otpProgramStart : Statement (.otpProgramStart) := plain _ rfl rfl rfl
theorem otpProgramComplete (good : Bool) : Statement (.otpProgramComplete good) := plain _ rfl rfl rfl
theorem journalRecordWrite (good : Bool) : Statement (.journalRecordWrite good) := plain _ rfl rfl rfl
theorem startReceive (port : Port) (payload : Word) (lateNs : Int) : Statement (.startReceive port payload lateNs) := plain _ rfl rfl rfl
theorem startMissed : Statement (.startMissed) := plain _ rfl rfl rfl
theorem commandBurstReceive (stream : Stream) (words : List LinkWord) : Statement (.commandBurstReceive stream words) := by
  intro hw
  simp only [Instr.wellFormed, Bool.and_eq_true, decide_eq_true_eq] at hw
  refine ⟨?_, by simp [upsets], by simp [radioFrame]⟩
  rintro _ ⟨⟩
  omega
theorem summaryReceive (port : Port) (place : BitVec 6) (words : List LinkWord) : Statement (.summaryReceive port place words) := by
  intro hw
  simp [Instr.wellFormed] at hw
  refine ⟨?_, by simp [upsets], by simp [radioFrame]⟩
  rintro _ ⟨⟩
  omega
theorem tripWordReceive (port : Port) (payload : Word) : Statement (.tripWordReceive port payload) := plain _ rfl rfl rfl
theorem threadMessageComplete (src : BitVec 6) : Statement (.threadMessageComplete src) := plain _ rfl rfl rfl
theorem epochMismatch : Statement (.epochMismatch) := plain _ rfl rfl rfl
theorem carrierLoss (port : Port) (errs : Option (BitVec 8)) : Statement (.carrierLoss port errs) := plain _ rfl rfl rfl
theorem readyStart (port : Port) : Statement (.readyStart port) := plain _ rfl rfl rfl
theorem unfold (port : Port) : Statement (.unfold port) := plain _ rfl rfl rfl
theorem wakeToneReceive (port : Port) : Statement (.wakeToneReceive port) := plain _ rfl rfl rfl
theorem searchStart : Statement (.searchStart) := plain _ rfl rfl rfl
theorem searchReq (v : Word) : Statement (.searchReq v) := plain _ rfl rfl rfl
theorem tackReceive (stream : Stream) (words : List LinkWord) : Statement (.tackReceive stream words) := by
  intro hw
  simp [Instr.wellFormed] at hw
  refine ⟨?_, by simp [upsets], by simp [radioFrame]⟩
  rintro _ ⟨⟩
  omega
theorem idRecordReceive (stream : Stream) (ofs : BitVec 9) (words : List LinkWord) : Statement (.idRecordReceive stream ofs words) := by
  intro hw
  simp [Instr.wellFormed] at hw
  refine ⟨?_, by simp [upsets], by simp [radioFrame]⟩
  rintro _ ⟨⟩
  omega
theorem searchRestart : Statement (.searchRestart) := plain _ rfl rfl rfl
theorem searchDecide : Statement (.searchDecide) := plain _ rfl rfl rfl
theorem commitReceive (stream : Stream) (words : List LinkWord) (fwdNs loopNs : Int) : Statement (.commitReceive stream words fwdNs loopNs) := by
  intro hw
  simp [Instr.wellFormed] at hw
  refine ⟨?_, by simp [upsets], by simp [radioFrame]⟩
  rintro _ ⟨⟩
  omega
theorem searchApply : Statement (.searchApply) := plain _ rfl rfl rfl
theorem mirrorCycleStart (noise : List Word) (txOk : Bool) : Statement (.mirrorCycleStart noise txOk) := plain _ rfl rfl rfl
theorem beaconReceive (endNs : Nat) (frame : List Byte) (rssi : BitVec 8) : Statement (.beaconReceive endNs frame rssi) := by
  intro hw
  simp only [Instr.wellFormed, Bool.and_eq_true, decide_eq_true_eq] at hw
  refine ⟨by simp [ringWords], by simp [upsets], ?_⟩
  rintro _ ⟨⟩
  exact hw
theorem beaconLost : Statement (.beaconLost) := plain _ rfl rfl rfl
theorem mirrorSlotSend (txOk : Bool) : Statement (.mirrorSlotSend txOk) := plain _ rfl rfl rfl
theorem memberFrameReceive (slot : BitVec 6) (frame : List Byte) (rssi : BitVec 8) : Statement (.memberFrameReceive slot frame rssi) := by
  intro hw
  simp only [Instr.wellFormed, Bool.and_eq_true, decide_eq_true_eq] at hw
  refine ⟨by simp [ringWords], by simp [upsets], ?_⟩
  rintro _ ⟨⟩
  exact hw
theorem mirrorJudge (addr : BitVec 6) : Statement (.mirrorJudge addr) := plain _ rfl rfl rfl
theorem wakeSniff : Statement (.wakeSniff) := plain _ rfl rfl rfl
theorem wakeFrameReceive (us : BitVec 9) (frame : List Byte) : Statement (.wakeFrameReceive us frame) := plain _ rfl rfl rfl
theorem freeze (v : Word) : Statement (.freeze v) := plain _ rfl rfl rfl
theorem release (v : Word) : Statement (.release v) := plain _ rfl rfl rfl
theorem postComplete : Statement (.postComplete) := plain _ rfl rfl rfl
theorem recorderPatrol (ups : List Upset) : Statement (.recorderPatrol ups) := by
  intro hw
  exact ⟨by simp [ringWords], upsetsIn hw, by simp [radioFrame]⟩
theorem latchClear (addr : BitVec 16) (v : Word) : Statement (.latchClear addr v) := plain _ rfl rfl rfl
theorem clrCnt (v : Word) : Statement (.clrCnt v) := plain _ rfl rfl rfl
theorem ferClear (v : Word) : Statement (.ferClear v) := plain _ rfl rfl rfl
theorem pevPop (v : Word) : Statement (.pevPop v) := plain _ rfl rfl rfl
theorem inject (v : Word) : Statement (.inject v) := plain _ rfl rfl rfl
theorem injectionEnd : Statement (.injectionEnd) := plain _ rfl rfl rfl
theorem eventRecordReceive (port : Port) (words : List LinkWord) : Statement (.eventRecordReceive port words) := by
  intro hw
  simp [Instr.wellFormed] at hw
  refine ⟨?_, by simp [upsets], by simp [radioFrame]⟩
  rintro _ ⟨⟩
  omega
theorem packRecordClose : Statement (.packRecordClose) := plain _ rfl rfl rfl
theorem handOver : Statement (.handOver) := plain _ rfl rfl rfl
theorem handBack : Statement (.handBack) := plain _ rfl rfl rfl
theorem railFault (rail : Fin 3) : Statement (.railFault rail) := plain _ rfl rfl rfl
theorem railFaultRecover : Statement (.railFaultRecover) := plain _ rfl rfl rfl
theorem buckFault : Statement (.buckFault) := plain _ rfl rfl rfl
theorem xtalFail : Statement (.xtalFail) := plain _ rfl rfl rfl
theorem chargerCv (vbak : Nat) : Statement (.chargerCv vbak) := plain _ rfl rfl rfl
theorem chargerFull (ichg : Nat) : Statement (.chargerFull ichg) := plain _ rfl rfl rfl
theorem chargerRecharge (vbak : Nat) : Statement (.chargerRecharge vbak) := plain _ rfl rfl rfl
theorem bakOv (vbak : Nat) : Statement (.bakOv vbak) := plain _ rfl rfl rfl
theorem bakOvRestart (vbak : Nat) (belowMs sinceRestartMs : Nat) : Statement (.bakOvRestart vbak belowMs sinceRestartMs) := plain _ rfl rfl rfl
theorem bakAbsent (vbak riseMv : Nat) : Statement (.bakAbsent vbak riseMv) := plain _ rfl rfl rfl
theorem presenceProbe (vbak riseMv : Nat) : Statement (.presenceProbe vbak riseMv) := plain _ rfl rfl rfl
theorem retentionBreak (vka : Nat) : Statement (.retentionBreak vka) := plain _ rfl rfl rfl
theorem kaContentLoss (vka : Nat) : Statement (.kaContentLoss vka) := plain _ rfl rfl rfl
theorem breathCheck (i : BreathIn) : Statement (.breathCheck i) := plain _ rfl rfl rfl
theorem wakeClr (v : Word) : Statement (.wakeClr v) := plain _ rfl rfl rfl
theorem factoryLockClose : Statement (.factoryLockClose) := plain _ rfl rfl rfl
theorem carrierGain (port : Port) : Statement (.carrierGain port) := plain _ rfl rfl rfl
theorem seqLost : Statement (.seqLost) := plain _ rfl rfl rfl
theorem unknownOpcode (op : BitVec 8) (h : HostHdr) : Statement (.unknownOpcode op h) := plain _ rfl rfl rfl

end Sys2Proof.Laws.Shape
end

