-- ==== Sys2Proof/Laws/Queue.lean ====
section
/-! SUPPORT. No operation of the machine touches the queue: one lemma each. Statements about whole commands cite these. -/

namespace Sys2Proof.Machine

set_option linter.unusedSimpArgs false

/-- A left fold of steps that keep the field keeps it. -/
theorem foldl_pending {α : Type} (f : State → α → State) (l : List α) (s : State)
    (h : ∀ s a, (f s a).pending = s.pending) : (l.foldl f s).pending = s.pending := by
  induction l generalizing s with
  | nil => rfl
  | cons a l ih => rw [List.foldl_cons, ih, h]
theorem atNs_pending (ns : Nat) (s : State) : (atNs ns s).pending = s.pending := rfl
theorem atUs_pending (us : Nat) (s : State) : (atUs us s).pending = s.pending := rfl
theorem drawFree_pending (s : State) : (drawFree s).2.pending = s.pending := rfl
theorem raiseCells_pending (n : Nat) (cells : Word) (s : State) : (raiseCells n cells s).pending = s.pending := rfl
theorem raise_pending (n : Nat) (s : State) : (raise n s).pending = s.pending := rfl
theorem raiseIf_pending (b : Bool) (n : Nat) (s : State) : (raiseIf b n s).pending = s.pending := by
  simp only [raiseIf, apply_ite State.pending, ite_self]
theorem raiseCtx_pending (n : Nat) (x : FerCtx) (s : State) : (raiseCtx n x s).pending = s.pending := by
  simp only [raiseCtx, apply_ite State.pending, ite_self]
theorem stand_pending (n : Nat) (b : Bool) (s : State) : (stand n b s).pending = s.pending := rfl
theorem standCells_pending (n : Nat) (b : Bool) (cells : Word) (s : State) : (standCells n b cells s).pending =
    s.pending := rfl
theorem follow_pending (n : Nat) (b : Bool) (s : State) : (follow n b s).pending = s.pending := by
  simp only [follow, apply_ite State.pending, ite_self, stand_pending]
theorem jreq_pending (code src : Nat) (d0 d1 : Word) (level : Nat) (s : State) : (jreq code src d0 d1 level
    s).pending = s.pending := by
  simp only [jreq, apply_ite State.pending, ite_self]
theorem jreqMand_pending (code src : Nat) (d0 d1 : Word) (s : State) : (jreqMand code src d0 d1 s).pending =
    s.pending := rfl
theorem noteBcast_pending (k : BcastKey) (s : State) : (noteBcast k s).pending = s.pending := rfl
theorem trip_pending (tgt : Safety) (flags : BitVec 8) (chA chB : Bool) (origin : BitVec 6) (word : Bool) (s :
    State) : (trip tgt flags chA chB origin word s).pending = s.pending := by
  simp only [trip, apply_ite State.pending, ite_self]
theorem tripOwn_pending (flags : BitVec 8) (chA chB : Bool) (s : State) : (tripOwn flags chA chB s).pending =
    s.pending := by
  simp only [tripOwn, trip_pending]
theorem settle_pending (s : State) : (settle s).pending = s.pending := rfl
theorem driveB_pending (s : State) : (driveB s).pending = s.pending := rfl
theorem driveA_pending (s : State) : (driveA s).pending = s.pending := rfl
theorem aStep_pending (f : State → State) (s : State) (h : (f s).pending = s.pending) : (aStep f s).pending =
    s.pending := by
  simp only [aStep, apply_ite State.pending, ite_self, h]
theorem measChecks_pending (s0 : State) : (measChecks s0).pending = s0.pending := by
  simp only [measChecks, apply_ite State.pending, ite_self]
theorem xdisApply_pending (l : List Nat) (s : State) : (xdisApply l s).pending = s.pending := by
  simp only [xdisApply, foldl_pending, apply_ite State.pending, ite_self]
theorem sumApply_pending (s : State) : (sumApply s).pending = s.pending := by
  simp only [sumApply, apply_ite State.pending, ite_self, stand_pending]
theorem harnessCount_pending (bled : Word) (s : State) : (harnessCount bled s).pending = s.pending := by
  simp only [harnessCount, apply_ite State.pending, ite_self]
theorem harnessApply_pending (s : State) : (harnessApply s).pending = s.pending := by
  simp only [harnessApply, apply_ite State.pending, ite_self, stand_pending, standCells_pending, implies_true]
theorem publishMeas_pending (s : State) : (publishMeas s).pending = s.pending := by
  simp only [publishMeas, foldl_pending, apply_ite State.pending, ite_self]
theorem unpublishMeas_pending (s : State) : (unpublishMeas s).pending = s.pending := by
  simp only [unpublishMeas, apply_ite State.pending, ite_self]
theorem balTimerApply_pending (k : Nat) (v : Word) (s : State) : (balTimerApply k v s).pending = s.pending := rfl
theorem planView_pending (s : State) : (planView s).pending = s.pending := rfl
theorem balSetBudget_pending (v : Nat) (s : State) : (balSetBudget v s).pending = s.pending := by
  simp only [balSetBudget, apply_ite State.pending, ite_self, stand_pending]
theorem balThermal_pending (s : State) : (balThermal s).pending = s.pending := by
  simp only [balThermal, apply_ite State.pending, ite_self, balSetBudget_pending]
theorem planStitch_pending (s : State) : (planStitch s).pending = s.pending := by
  simp only [planStitch, apply_ite State.pending, ite_self, planView_pending]
theorem rotate_pending (s : State) : (rotate s).pending = s.pending := by
  unfold rotate; dsimp only; repeat' split
  all_goals first | rfl | simp only [apply_ite State.pending, ite_self, balSetBudget_pending, stand_pending,
    implies_true]
theorem rotateDue_pending (s : State) : (rotateDue s).pending = s.pending := by
  simp only [rotateDue, apply_ite State.pending, ite_self, planStitch_pending, rotate_pending]
theorem vminApply_pending (n : Nat) (s : State) : (vminApply n s).pending = s.pending := by
  simp only [vminApply, apply_ite State.pending, ite_self, raiseCells_pending]
theorem balCount_pending (s : State) : (balCount s).pending = s.pending := by
  simp only [balCount, apply_ite State.pending, ite_self]
theorem ilimSlot_pending (il : Word) (s : State) : (ilimSlot il s).pending = s.pending := by
  simp only [ilimSlot, apply_ite State.pending, ite_self, raiseCells_pending]
theorem switchSlot_pending (n : Nat) (s : State) : (switchSlot n s).pending = s.pending := by
  simp only [switchSlot, apply_ite State.pending, ite_self]
theorem beginStitch_pending (s : State) : (beginStitch s).pending = s.pending := by
  simp only [beginStitch, apply_ite State.pending, ite_self, planStitch_pending, planView_pending]
theorem rebegin_pending (s : State) : (rebegin s).pending = s.pending := by
  simp only [rebegin, apply_ite State.pending, ite_self, beginStitch_pending]
theorem unitCount_pending (s : State) : (unitCount s).pending = s.pending := by
  unfold unitCount; split <;> simp only [apply_ite State.pending, ite_self, implies_true]
theorem unitDue_pending (s : State) : (unitDue s).pending = s.pending := by
  unfold unitDue; split <;> simp only [apply_ite State.pending, ite_self, implies_true]
theorem periodStart_pending (s : State) : (periodStart s).pending = s.pending := by
  simp only [periodStart, apply_ite State.pending, ite_self]
theorem unitStart_pending (s : State) : (unitStart s).pending = s.pending := by
  unfold unitStart; dsimp only; repeat' split
  all_goals rfl
theorem unitComplete_pending (s : State) : (unitComplete s).pending = s.pending := by
  unfold unitComplete; split <;> simp only [apply_ite State.pending, ite_self, implies_true]
theorem fgLate_pending (s : State) : (fgLate s).pending = s.pending := by
  simp only [fgLate, foldl_pending, apply_ite State.pending, ite_self, raise_pending]
theorem owPause_pending (s : State) : (owPause s).pending = s.pending := by
  unfold owPause; split <;> simp only [apply_ite State.pending, ite_self, implies_true]
theorem owEvaluate_pending (s : State) : (owEvaluate s).pending = s.pending := by
  unfold owEvaluate; split <;> simp only [foldl_pending, apply_ite State.pending, ite_self, standCells_pending,
    stand_pending, implies_true]
theorem stepJudge_pending (s : State) : (stepJudge s).pending = s.pending := by
  unfold stepJudge; dsimp only; repeat' split
  all_goals rfl
theorem cttJudge_pending (n : Nat) (ovr : Bool) (beyond : Nat → Bool) (acc : Bool) (code7 : Nat) (s : State) :
    (cttJudge n ovr beyond acc code7 s).pending = s.pending := by
  unfold cttJudge; dsimp only; repeat' split
  all_goals rfl
theorem bstJudge_pending (n openUa closedUa : Nat) (s : State) : (bstJudge n openUa closedUa s).pending = s.pending
    := by
  simp only [bstJudge, apply_ite State.pending, ite_self, raiseCells_pending, implies_true]
theorem bstStep_pending (k ua : Nat) (s : State) : (bstStep k ua s).pending = s.pending := by
  unfold bstStep; dsimp only; repeat' split
  all_goals first | rfl | simp only [apply_ite State.pending, ite_self, bstJudge_pending, implies_true]
theorem diagReqApply_pending (v : Word) (s : State) : (diagReqApply v s).pending = s.pending := by
  simp only [diagReqApply, apply_ite State.pending, ite_self]
theorem diagReqBoundary_pending (s : State) : (diagReqBoundary s).pending = s.pending := by
  simp only [diagReqBoundary, apply_ite State.pending, ite_self]
theorem standChange_pending (n : Nat) (a b : Persist) (s : State) : (standChange n a b s).pending = s.pending := by
  simp only [standChange, apply_ite State.pending, ite_self, stand_pending]
theorem dieChecks_pending (s : State) : (dieChecks s).pending = s.pending := by
  simp only [dieChecks, follow_pending]
theorem backgroundChecks_pending (s : State) : (backgroundChecks s).pending = s.pending := by
  simp only [backgroundChecks, apply_ite State.pending, ite_self, standChange_pending, dieChecks_pending]
theorem patrols_pending (i0 : TaskIn) (s0 : State) : (patrols i0 s0).pending = s0.pending := by
  have h2 : ∀ (l : List (Nat × Nat × Nat)) (b : Bool) (n : Nat) (c : Nat → Nat → Nat → FerCtx) (t : State),
      (match l with
      | (a, m, x) :: _ => if b then t else stand n true (raiseCtx n (c a m x) t)
      | [] => t).pending = t.pending := by
    intro l b n c t
    split <;> simp only [apply_ite State.pending, ite_self, stand_pending, raiseCtx_pending]
  unfold patrols; dsimp only; split
  · rfl
  · split
    · simp only [stand_pending, raiseCtx_pending]; exact (h2 _ _ _ _ _).trans (h2 _ _ _ _ _)
    · simp only [standChange_pending]; exact (h2 _ _ _ _ _).trans (h2 _ _ _ _ _)
theorem carrierLost_pending (s : State) : (carrierLost s).pending = s.pending := by
  simp only [carrierLost, stand_pending]
theorem syncEdge_pending (t : Nat) (s : State) : (syncEdge t s).pending = s.pending := by
  unfold syncEdge; split <;> simp only [apply_ite State.pending, ite_self, carrierLost_pending, stand_pending,
    implies_true]
theorem curCount_pending (s : State) : (curCount s).pending = s.pending := by
  simp only [curCount, apply_ite State.pending, ite_self]
theorem curPlan_pending (s : State) : (curPlan s).pending = s.pending := rfl
theorem curRecord_pending (s : State) : (curRecord s).pending = s.pending := by
  simp only [curRecord, apply_ite State.pending, ite_self]
theorem curChecks_pending (s : State) : (curChecks s).pending = s.pending := by
  simp only [curChecks, apply_ite State.pending, ite_self]
theorem bothLost_pending (s : State) : (bothLost s).pending = s.pending := by
  simp only [bothLost, apply_ite State.pending, ite_self, tripOwn_pending]
theorem isnsApply_pending (s : State) : (isnsApply s).pending = s.pending := by
  simp only [isnsApply, apply_ite State.pending, ite_self, stand_pending, bothLost_pending]
theorem iauxSlot_pending (code : Nat) (s : State) : (iauxSlot code s).pending = s.pending := by
  simp only [iauxSlot, apply_ite State.pending, ite_self]
theorem iauxApply_pending (s : State) : (iauxApply s).pending = s.pending := by
  simp only [iauxApply, apply_ite State.pending, ite_self, stand_pending, bothLost_pending]
theorem disagreeApply_pending (s : State) : (disagreeApply s).pending = s.pending := by
  simp only [disagreeApply, apply_ite State.pending, ite_self, stand_pending]
theorem publishCur_pending (s : State) : (publishCur s).pending = s.pending := by
  simp only [publishCur, apply_ite State.pending, ite_self]
theorem impStep_pending (s : State) : (impStep s).pending = s.pending := by
  simp only [impStep, foldl_pending, apply_ite State.pending, ite_self]
theorem otpCmdApply_pending (t : Cfg) (v : Word) (now : Bool) (s : State) : (otpCmdApply t v now s).pending =
    s.pending := rfl
theorem sealConfirmApply_pending (v : Word) (now : Bool) (s : State) : (sealConfirmApply v now s).pending = s.pending
    := by
  simp only [sealConfirmApply, apply_ite State.pending, ite_self, implies_true]
theorem packConfirmApply_pending (t : Cfg) (v : Word) (now : Bool) (s : State) : (packConfirmApply t v now s).pending
    = s.pending := by
  simp only [packConfirmApply, apply_ite State.pending, ite_self, implies_true]
theorem freeWords_pending (n : Nat) (s : State) : (freeWords n s).2.pending = s.pending := by
  induction n generalizing s with
  | zero => rfl
  | succ n ih => exact ih _
theorem jobContent_pending (j : OtpJob) (s : State) : (jobContent j s).2.pending = s.pending := by
  unfold jobContent; split <;> simp only [freeWords_pending, implies_true]
theorem otpResult_pending (b code : Nat) (s : State) : (otpResult b code s).pending = s.pending := by
  unfold otpResult; split <;> rfl
theorem otpFail_pending (b : Nat) (s : State) : (otpFail b s).pending = s.pending := by
  simp only [otpFail, apply_ite State.pending, ite_self, otpResult_pending]
theorem otpStart_pending (s : State) : (otpStart s).pending = s.pending := by
  unfold otpStart; split <;> simp only [apply_ite State.pending, ite_self, otpFail_pending, jobContent_pending,
    implies_true]
theorem otpStartDue_pending (s : State) : (otpStartDue s).pending = s.pending := by
  simp only [otpStartDue, apply_ite State.pending, ite_self, otpStart_pending, implies_true]
theorem otpTick_pending (s : State) : (otpTick s).pending = s.pending := by
  simp only [otpTick]
theorem otpRecord_pending (j : OtpJob) (good : Bool) (s : State) : (otpRecord j good s).pending = s.pending := by
  simp only [otpRecord, apply_ite State.pending, ite_self, jreq_pending]
theorem otpStop_pending (s : State) : (otpStop s).pending = s.pending := rfl
theorem otpFinish_pending (good : Bool) (s : State) : (otpFinish good s).pending = s.pending := by
  unfold otpFinish; split <;> simp only [apply_ite State.pending, ite_self, otpRecord_pending, otpResult_pending,
    implies_true]
theorem otpCut_pending (s : State) : (otpCut s).pending = s.pending := by
  unfold otpCut; split <;> simp only [apply_ite State.pending, ite_self, drawFree_pending, otpResult_pending,
    implies_true]
theorem otpCutRecord_pending (s : State) : (otpCutRecord s).pending = s.pending := by
  unfold otpCutRecord; split <;> rfl
theorem jrnlBegin_pending (s : State) : (jrnlBegin s).pending = s.pending := rfl
theorem jrnlDone_pending (good : Bool) (s : State) : (jrnlDone good s).pending = s.pending := by
  unfold jrnlDone; dsimp only; repeat' split
  all_goals rfl
theorem jrnlWrite_pending (good : Bool) (s : State) : (jrnlWrite good s).pending = s.pending := by
  simp only [jrnlWrite, jrnlBegin_pending, jrnlDone_pending]
theorem jrnlFlush_pending (bad : Nat) (s : State) : (jrnlFlush bad s).pending = s.pending := by
  simp only [jrnlFlush, foldl_pending, apply_ite State.pending, ite_self, jrnlBegin_pending, jrnlDone_pending,
    implies_true]
theorem publishTemp_pending (s : State) : (publishTemp s).pending = s.pending := by
  simp only [publishTemp, apply_ite State.pending, ite_self]
theorem tsBrokenApply_pending (s : State) : (tsBrokenApply s).pending = s.pending := by
  simp only [tsBrokenApply, apply_ite State.pending, ite_self, stand_pending]
theorem sltCountA_pending (s : State) : (sltCountA s).pending = s.pending := by
  simp only [sltCountA, apply_ite State.pending, ite_self]
theorem sltCountB_pending (s : State) : (sltCountB s).pending = s.pending := by
  simp only [sltCountB, apply_ite State.pending, ite_self, stand_pending]
theorem sltAct_pending (ch : Chan) (low : Bool) (s : State) : (sltAct ch low s).pending = s.pending := by
  unfold sltAct; split <;> rfl
theorem sltApply_pending (ch : Chan) (k : Nat) (low : Bool) (s : State) : (sltApply ch k low s).pending = s.pending
    := by
  simp only [sltApply, apply_ite State.pending, ite_self, sltAct_pending]
theorem sltRelease_pending (s : State) : (sltRelease s).pending = s.pending := by
  simp only [sltRelease, apply_ite State.pending, ite_self]
theorem sltDue_pending (ch : Chan) (s : State) : (sltDue ch s).pending = s.pending := by
  simp only [sltDue, foldl_pending, sltApply_pending, implies_true]
theorem dieBoundary_pending (l : List Int) (s : State) : (dieBoundary l s).pending = s.pending := rfl
theorem recCorrected_pending (i master access : Nat) (tag : BitVec 6) (s : State) : (recCorrected i master access
    tag s).pending = s.pending := by
  simp only [recCorrected, apply_ite State.pending, ite_self, raiseCtx_pending, raise_pending, jreq_pending]
theorem recPoisoned_pending (i master access : Nat) (tag : BitVec 6) (s : State) : (recPoisoned i master access tag
    s).pending = s.pending := by
  simp only [recPoisoned, raiseCtx_pending]
theorem recMet_pending (k i master access : Nat) (tag : BitVec 6) (s : State) : (recMet k i master access tag
    s).pending = s.pending := by
  unfold recMet; split <;> simp only [recCorrected_pending, recPoisoned_pending, implies_true]
theorem bulkExec_pending (o len master : Nat) (tag : BitVec 6) (s : State) : (bulkExec o len master tag
    s).2.pending = s.pending := by
  simp only [bulkExec, foldl_pending, recMet_pending, implies_true]
theorem recMasked_pending (i : Nat) (mask val : BitVec 64) (master : Nat)
    (s : State) : (recMasked i mask val master s).pending = s.pending := by
  unfold recMasked; dsimp only; repeat' split
  all_goals first | rfl | simp only [apply_ite State.pending, ite_self, recCorrected_pending, recPoisoned_pending,
    implies_true]
theorem trigStamp_pending (base : Nat) (s : State) : (trigStamp base s).pending = s.pending := by
  simp only [trigStamp, apply_ite State.pending, ite_self, recMasked_pending, implies_true]
theorem stampDue_pending (s : State) : (stampDue s).pending = s.pending := by
  unfold stampDue; split <;> simp only [apply_ite State.pending, ite_self, trigStamp_pending, implies_true]
theorem recCtrlApply_pending (v : Word) (s : State) : (recCtrlApply v s).pending = s.pending := rfl
theorem recCtrlBoundary_pending (s : State) : (recCtrlBoundary s).pending = s.pending := rfl
theorem portOp_pending (x : PortOp) (s : State) : (portOp x s).pending = s.pending := by
  unfold portOp; split <;> simp only [apply_ite State.pending, ite_self, recMet_pending, recMasked_pending,
    implies_true]
theorem portOps_pending (l : List PortOp) (s : State) : (portOps l s).pending = s.pending := by
  simp only [portOps, apply_ite State.pending, ite_self, foldl_pending, portOp_pending, implies_true]
theorem patrolTick_pending (s : State) : (patrolTick s).pending = s.pending := rfl
theorem patrolPage_pending (s : State) : (patrolPage s).pending = s.pending := by
  simp only [patrolPage, foldl_pending, apply_ite State.pending, ite_self, recMet_pending, implies_true]
theorem patrolDue_pending (s : State) : (patrolDue s).pending = s.pending := by
  simp only [patrolDue, apply_ite State.pending, ite_self, patrolPage_pending, implies_true]
theorem devRecord_pending (r : DevRec) (s : State) : (devRecord r s).pending = s.pending := by
  simp only [devRecord, apply_ite State.pending, ite_self]
theorem colOccur_pending (st : BitVec 16) (cells : List (Nat × Word)) (ctxs : List (Nat × FerCtx)) (really : Bool)
    (n : Nat) (s : State) : (colOccur st cells ctxs really n s).pending = s.pending := by
  simp only [colOccur, apply_ite State.pending, ite_self, devRecord_pending, jreq_pending, tripOwn_pending]
theorem colEval_pending (s : State) : (colEval s).pending = s.pending := by
  simp only [colEval, foldl_pending, apply_ite State.pending, ite_self, stand_pending, colOccur_pending, implies_true]
theorem latchClearApply_pending (addr : Nat) (v : Word) (s : State) : (latchClearApply addr v s).pending =
    s.pending := rfl
theorem clrCntApply_pending (v : Word) (s : State) : (clrCntApply v s).pending = s.pending := by
  simp only [clrCntApply, apply_ite State.pending, ite_self]
theorem ferClearApply_pending (v : Word) (s : State) : (ferClearApply v s).pending = s.pending := by
  simp only [ferClearApply, apply_ite State.pending, ite_self]
theorem pevPopApply_pending (s : State) : (pevPopApply s).pending = s.pending := rfl
theorem injApply_pending (v : Word) (s : State) : (injApply v s).pending = s.pending := rfl
theorem eventReceive_pending (ws : List Word) (s : State) : (eventReceive ws s).pending = s.pending := by
  unfold eventReceive; dsimp only; repeat' split
  all_goals rfl
theorem packCloseDue_pending (s : State) : (packCloseDue s).pending = s.pending := rfl
theorem colMerge_pending (x : ColCopy) (s : State) : (colMerge x s).pending = s.pending := rfl
theorem integrityRaise_pending (s : State) : (integrityRaise s).pending = s.pending := rfl
theorem slvInhibit_pending (ch : Chan) (ovr : Bool) (cells : Word) (s : State) : (slvInhibit ch ovr cells
    s).pending = s.pending := by
  simp only [slvInhibit, apply_ite State.pending, ite_self, standCells_pending]
theorem slvCrit_pending (ch : Chan) (cells : Word) (s : State) : (slvCrit ch cells s).pending = s.pending := by
  simp only [slvCrit, standCells_pending, tripOwn_pending]
theorem critFollow_pending (s : State) : (critFollow s).pending = s.pending := by
  simp only [critFollow, apply_ite State.pending, ite_self, stand_pending]
theorem inhibitRelease_pending (ch : Chan) (ovr : Bool) (s : State) : (inhibitRelease ch ovr s).pending =
    s.pending := by
  simp only [inhibitRelease, apply_ite State.pending, ite_self, stand_pending]
theorem slvSample_pending (n code : Nat) (ovr : Bool) (s : State) : (slvSample n code ovr s).pending = s.pending := by
  simp only [slvSample, apply_ite State.pending, ite_self, raiseCells_pending, slvInhibit_pending, slvCrit_pending,
    implies_true]
theorem cttSample_pending (n code : Nat) (acc : Bool) (s : State) : (cttSample n code acc s).pending = s.pending := by
  unfold cttSample; split <;> simp only [apply_ite State.pending, ite_self, cttJudge_pending, implies_true]
theorem cellSample_pending (n : Fin 32) (conv code : Nat) (s : State) : (cellSample n conv code s).pending =
    s.pending := by
  simp only [cellSample, apply_ite State.pending, ite_self, slvSample_pending, cttSample_pending]
theorem slvCountB_pending (s : State) : (slvCountB s).pending = s.pending := by
  simp only [slvCountB, apply_ite State.pending, ite_self, critFollow_pending]
theorem slvTaskA_pending (s : State) : (slvTaskA s).pending = s.pending := by
  simp only [slvTaskA, apply_ite State.pending, ite_self, slvInhibit_pending, slvCrit_pending, critFollow_pending]
theorem sdiFollow_pending (s : State) : (sdiFollow s).pending = s.pending := by
  simp only [sdiFollow, apply_ite State.pending, ite_self, stand_pending]
theorem currentSlotB_pending (code : Nat) (s : State) : (currentSlotB code s).pending = s.pending := by
  simp only [currentSlotB, apply_ite State.pending, ite_self, sdiFollow_pending]
theorem currentTaskA_pending (s : State) : (currentTaskA s).pending = s.pending := by
  unfold currentTaskA; dsimp only; repeat' split
  all_goals first | rfl | simp only [apply_ite State.pending, ite_self, sdiFollow_pending, implies_true]
theorem sliLatch_pending (ch : Chan) (dsg : Bool) (s : State) : (sliLatch ch dsg s).pending = s.pending := by
  simp only [sliLatch, apply_ite State.pending, ite_self, stand_pending]
theorem sdiLockout_pending (ch : Chan) (s : State) : (sdiLockout ch s).pending = s.pending := by
  simp only [sdiLockout, apply_ite State.pending, ite_self, stand_pending, trip_pending]
theorem auxSample_pending (sar : Fin 4) (code : Nat) (s : State) : (auxSample sar code s).pending = s.pending := by
  simp only [auxSample, apply_ite State.pending, ite_self, currentSlotB_pending, iauxSlot_pending]
theorem siRefresh_pending (s0 : State) : (siRefresh s0).pending = s0.pending := by
  simp only [siRefresh, apply_ite State.pending, ite_self, follow_pending, tripOwn_pending]
theorem testPoint_pending (b : Bool) (lv : BitVec 4) (s : State) : (testPoint b lv s).pending = s.pending := by
  simp only [testPoint, apply_ite State.pending, ite_self, siRefresh_pending]
theorem tpSlot_pending (slot : Fin 8) (ra rb : Bool) (si : BitVec 4) (s : State) : (tpSlot slot ra rb si s).pending =
    s.pending := by
  simp only [tpSlot, apply_ite State.pending, ite_self, siRefresh_pending, implies_true]
theorem siBoundary_pending (s : State) : (siBoundary s).pending = s.pending := by
  simp only [siBoundary, apply_ite State.pending, ite_self, siRefresh_pending]
theorem siDiscLatch_pending (x : Nat) (s : State) : (siDiscLatch x s).pending = s.pending := by
  simp only [siDiscLatch, apply_ite State.pending, ite_self, siRefresh_pending, tripOwn_pending]
theorem mirrorFollow_pending (s : State) : (mirrorFollow s).pending = s.pending := by
  simp only [mirrorFollow, follow_pending]
theorem memberTrip_pending (s : State) : (memberTrip s).pending = s.pending := by
  unfold memberTrip; split <;> simp only [apply_ite State.pending, ite_self, foldl_pending, follow_pending,
    implies_true]
theorem packJudge_pending (s : State) : (packJudge s).pending = s.pending := by
  unfold packJudge; dsimp only; repeat' split
  all_goals first | rfl | simp only [apply_ite State.pending, ite_self, trip_pending, memberTrip_pending,
    implies_true]
theorem packPermits_pending (s : State) : (packPermits s).pending = s.pending := by
  simp only [packPermits, apply_ite State.pending, ite_self]
theorem packFall_pending (c : Copy) (s : State) : (packFall c s).pending = s.pending := rfl
theorem degEnter_pending (s : State) : (degEnter s).pending = s.pending := by
  simp only [degEnter, apply_ite State.pending, ite_self, tripOwn_pending, raise_pending]
theorem degStep_pending (s : State) : (degStep s).pending = s.pending := by
  unfold degStep; split <;> simp only [apply_ite State.pending, ite_self, degEnter_pending, implies_true]
theorem degExpire_pending (s : State) : (degExpire s).pending = s.pending := by
  simp only [degExpire, apply_ite State.pending, ite_self, tripOwn_pending, raise_pending]
theorem permitReadback_pending (rb : BitVec 4) (s : State) : (permitReadback rb s).pending = s.pending := by
  simp only [permitReadback, apply_ite State.pending, ite_self, stand_pending, tripOwn_pending, raise_pending]
theorem deadlineCheck_pending (s0 : State) : (deadlineCheck s0).pending = s0.pending := by
  simp only [deadlineCheck, apply_ite State.pending, ite_self, atNs_pending, raise_pending, tripOwn_pending,
    implies_true]
theorem ackStuckSet_pending (s : State) : (ackStuckSet s).pending = s.pending := by
  simp only [ackStuckSet, stand_pending]
theorem ackBoundary_pending (s : State) : (ackBoundary s).pending = s.pending := by
  simp only [ackBoundary, apply_ite State.pending, ite_self]
theorem ackSample_pending (high : Bool) (s : State) : (ackSample high s).pending = s.pending := by
  simp only [ackSample, apply_ite State.pending, ite_self, ackStuckSet_pending]
theorem ackRequest_pending (viaPin : Bool) (s : State) : (ackRequest viaPin s).pending = s.pending := by
  simp only [ackRequest, apply_ite State.pending, ite_self, noteBcast_pending, implies_true]
theorem ackPulse_pending (s : State) : (ackPulse s).pending = s.pending := by
  unfold ackPulse; split <;> simp only [apply_ite State.pending, ite_self, ackRequest_pending, implies_true]
theorem ackStuckDue_pending (s : State) : (ackStuckDue s).pending = s.pending := by
  simp only [ackStuckDue, apply_ite State.pending, ite_self, ackStuckSet_pending]
theorem ackRearm_pending (s : State) : (ackRearm s).pending = s.pending := by
  simp only [ackRearm, apply_ite State.pending, ite_self, stand_pending]
theorem sliClear_pending (s : State) : (sliClear s).pending = s.pending := by
  simp only [sliClear, follow_pending]
theorem sliReturn_pending (s : State) : (sliReturn s).pending = s.pending := rfl
theorem ackCount_pending (r : AckReq) (s : State) : (ackCount r s).pending = s.pending := by
  simp only [ackCount, siRefresh_pending, jreq_pending]
theorem ackClear_pending (s : State) : (ackClear s).pending = s.pending := by
  simp only [ackClear, apply_ite State.pending, ite_self, sliClear_pending, degEnter_pending]
theorem ackJudge_pending (r : AckReq) (s : State) : (ackJudge r s).pending = s.pending := by
  simp only [ackJudge, apply_ite State.pending, ite_self, sliReturn_pending, ackCount_pending, ackClear_pending,
    implies_true]
theorem ackApply_pending (s : State) : (ackApply s).pending = s.pending := by
  simp only [ackApply, apply_ite State.pending, ite_self, foldl_pending, driveB_pending, packPermits_pending,
    ackJudge_pending, implies_true]
theorem newTrips_pending (s : State) : (newTrips s).pending = s.pending := by
  simp only [newTrips, apply_ite State.pending, ite_self, siRefresh_pending, aStep_pending, sltDue_pending, sdiLockout_pending,
    siDiscLatch_pending, degExpire_pending, implies_true]
theorem unlockApply_pending (s : State) : (unlockApply s).pending = s.pending := rfl
theorem unlockBoundary_pending (s : State) : (unlockBoundary s).pending = s.pending := by
  simp only [unlockBoundary, apply_ite State.pending, ite_self]
theorem recorderWrite_pending (v s : State) : (recorderWrite v s).pending = s.pending := by
  simp only [recorderWrite, apply_ite State.pending, ite_self, implies_true]
theorem snapRequest_pending (num st : BitVec 16) (s : State) : (snapRequest num st s).pending = s.pending := by
  simp only [snapRequest, apply_ite State.pending, ite_self]
theorem snapXdis_pending (s : State) : (snapXdis s).pending = s.pending := rfl
theorem snapCapture_pending (s : State) : (snapCapture s).pending = s.pending := by
  simp only [snapCapture, foldl_pending, apply_ite State.pending, ite_self, implies_true]
theorem snapBoundary_pending (s0 : State) : (snapBoundary s0).pending = s0.pending := by
  simp only [snapBoundary, apply_ite State.pending, ite_self, planView_pending]
theorem forward_pending (p : Port) (xs : List Sym) (s : State) : (forward p xs s).pending = s.pending := by
  unfold forward; repeat' split
  all_goals rfl
theorem searchAbort_pending (k : Nat) (s : State) : (searchAbort k s).pending = s.pending := by
  simp only [searchAbort, apply_ite State.pending, ite_self, raise_pending]
theorem carrierLoss_pending (p : Port) (s : State) : (carrierLoss p s).pending = s.pending := by
  simp only [carrierLoss, apply_ite State.pending, ite_self, searchAbort_pending, raise_pending]
theorem carrierGain_pending (p : Port) (s : State) : (carrierGain p s).pending = s.pending := by
  simp only [carrierGain, apply_ite State.pending, ite_self, searchAbort_pending]
theorem wordsSeen_pending (p : Port) (ws : List LinkWord) (s : State) : (wordsSeen p ws s).pending = s.pending := by
  simp only [wordsSeen, apply_ite State.pending, ite_self, carrierLoss_pending]
theorem wordsPass_pending (p : Port) (ws : List LinkWord) (s : State) : (wordsPass p ws s).pending = s.pending := by
  simp only [wordsPass, forward_pending, wordsSeen_pending]
theorem wordsThrough_pending (p : Port) (ws : List LinkWord) (s : State) : (wordsThrough p ws s).pending = s.pending
    := by
  simp only [wordsThrough, apply_ite State.pending, ite_self, wordsPass_pending, implies_true]
theorem roleConflict_pending (s : State) : (roleConflict s).pending = s.pending := by
  simp only [roleConflict, raise_pending]
theorem skewNow_pending (s : State) : (skewNow s).pending = s.pending := rfl
theorem startMember_pending (p : Port) (payload : Word) (lateNs : Int) (s : State) : (startMember p payload lateNs
    s).pending = s.pending := by
  simp only [startMember, apply_ite State.pending, ite_self, raise_pending, skewNow_pending]
theorem startMissed_pending (s : State) : (startMissed s).pending = s.pending := by
  simp only [startMissed, apply_ite State.pending, ite_self, skewNow_pending]
theorem stepTimes_pending (d : BitVec 64) (s : State) : (stepTimes d s).pending = s.pending := rfl
theorem takePackTime_pending (pt : BitVec 64) (s : State) : (takePackTime pt s).pending = s.pending := by
  simp only [takePackTime, apply_ite State.pending, ite_self, stepTimes_pending, implies_true]
theorem takeHeadState_pending (w : Word) (s : State) : (takeHeadState w s).pending = s.pending := by
  simp only [takeHeadState, apply_ite State.pending, ite_self]
theorem takeCarrier_pending (a b : Word) (s : State) : (takeCarrier a b s).pending = s.pending := rfl
theorem takeCurrent_pending (ws : List Word) (s : State) : (takeCurrent ws s).pending = s.pending := rfl
theorem takeGrants_pending (w : Word) (ws : List LinkWord) (s : State) : (takeGrants w ws s).pending = s.pending := rfl
theorem burstReceive_pending (ws : List LinkWord) (s : State) : (burstReceive ws s).pending = s.pending := by
  simp only [burstReceive, driveB_pending, packPermits_pending]
  repeat' split
  all_goals simp only [apply_ite State.pending, ite_self, takeHeadState_pending, takePackTime_pending,
    takeGrants_pending, takeCurrent_pending, takeCarrier_pending]
theorem sumCatch_pending (ns : Nat) (s : State) : (sumCatch ns s).pending = s.pending := by
  simp only [sumCatch, apply_ite State.pending, ite_self]
theorem sumTake_pending (p : Port) (s : State) : (sumTake p s).pending = s.pending := by
  simp only [sumTake, apply_ite State.pending, ite_self, implies_true]
theorem setMember_pending (a : Nat) (f : Member → Member) (s : State) : (setMember a f s).pending = s.pending := rfl
theorem takeCopy_pending (p : Port) (c : Copy) (s : State) : (takeCopy p c s).pending = s.pending := by
  simp only [takeCopy, apply_ite State.pending, ite_self, setMember_pending, packFall_pending]
theorem boxSeen_pending (a : BitVec 6) (k : Nat) (s : State) : (boxSeen a k s).pending = s.pending := rfl
theorem summaryReceive_pending (p : Port) (a : BitVec 6) (ws : List LinkWord) (s : State) : (summaryReceive p a ws
    s).pending = s.pending := by
  unfold summaryReceive; dsimp only; repeat' split
  all_goals first | rfl | simp only [apply_ite State.pending, ite_self, takeCopy_pending, implies_true]
theorem tripWordReceive_pending (w : Word) (s : State) : (tripWordReceive w s).pending = s.pending := by
  simp only [tripWordReceive, apply_ite State.pending, ite_self, trip_pending, raise_pending]
theorem packSealStep_pending (s : State) : (packSealStep s).pending = s.pending := by
  simp only [packSealStep, apply_ite State.pending, ite_self]
theorem threadFollow_pending (s : State) : (threadFollow s).pending = s.pending := by
  simp only [threadFollow, apply_ite State.pending, ite_self, follow_pending]
theorem threadDown_pending (m : BitVec 128) (ok : Bool) (s : State) : (threadDown m ok s).pending = s.pending := by
  simp only [threadDown, apply_ite State.pending, ite_self]
theorem threadUp_pending (a : Nat) (m : BitVec 128) (ok : Bool) (s : State) : (threadUp a m ok s).pending =
    s.pending := by
  simp only [threadUp, apply_ite State.pending, ite_self, setMember_pending]
theorem threadJudge_pending (src : BitVec 6) (s : State) : (threadJudge src s).pending = s.pending := by
  unfold threadJudge; repeat' split
  all_goals simp only [packSealStep_pending, threadFollow_pending, threadUp_pending, threadDown_pending,
    setMember_pending]
theorem threadPeriodEnd_pending (s : State) : (threadPeriodEnd s).pending = s.pending := by
  unfold threadPeriodEnd; repeat' split
  all_goals rfl
theorem threadPeriod_pending (s : State) : (threadPeriod s).pending = s.pending := by
  simp only [threadPeriod, packSealStep_pending]
theorem threadBegin_pending (s : State) : (threadBegin s).pending = s.pending := by
  simp only [threadBegin, apply_ite State.pending, ite_self, threadPeriod_pending]
theorem readyStart_pending (p : Port) (s : State) : (readyStart p s).pending = s.pending := by
  simp only [readyStart, apply_ite State.pending, ite_self]
theorem unfoldPort_pending (p : Port) (s : State) : (unfoldPort p s).pending = s.pending := by
  simp only [unfoldPort, apply_ite State.pending, ite_self]
theorem closureStep_pending (i : BoundaryIn) (s : State) : (closureStep i s).pending = s.pending := by
  simp only [closureStep, follow_pending]
theorem linkBoundary_pending (i : BoundaryIn) (s : State) : (linkBoundary i s).pending = s.pending := by
  simp only [linkBoundary, apply_ite State.pending, ite_self, raiseIf_pending, searchAbort_pending,
    closureStep_pending, threadPeriodEnd_pending]
theorem calRelease_pending (s : State) : (calRelease s).pending = s.pending := by
  simp only [calRelease, apply_ite State.pending, ite_self, stand_pending, raise_pending]
theorem rampCheck_pending (diff : Nat) (s : State) : (rampCheck diff s).pending = s.pending := by
  simp only [rampCheck, apply_ite State.pending, ite_self, stand_pending]
theorem rampStep_pending (s : State) : (rampStep s).pending = s.pending := by
  simp only [rampStep, apply_ite State.pending, ite_self]
theorem cellsForget_pending (is : List Nat) (s : State) : (cellsForget is s).pending = s.pending := rfl
theorem restoreStep_pending (s : State) : (restoreStep s).pending = s.pending := rfl
theorem calBoundary_pending (diff : Nat) (s : State) : (calBoundary diff s).pending = s.pending := by
  unfold calBoundary
  first | with_reducible rfl | simp only [apply_ite State.pending, ite_self, rampCheck_pending, rampStep_pending,
    restoreStep_pending]
theorem verifyCount_pending (s : State) : (verifyCount s).pending = s.pending := by
  unfold verifyCount; split <;> simp only [apply_ite State.pending, ite_self, implies_true]
theorem tvSumOk_pending (s : State) : (tvSumOk s).2.pending = s.pending := by
  unfold tvSumOk; dsimp only; repeat' split
  all_goals rfl
theorem trimVerify_pending (dacRead : List (Nat × Nat)) (means : List Int) (readsGood : Bool) (s0 : State) :
    (trimVerify dacRead means readsGood s0).pending = s0.pending := by
  simp only [trimVerify, foldl_pending, apply_ite State.pending, ite_self, tvSumOk_pending, raiseIf_pending]
theorem verifyDue_pending (dacRead : List (Nat × Nat)) (means : List Int) (readsGood : Bool) (s : State) :
    (verifyDue dacRead means readsGood s).pending = s.pending := by
  simp only [verifyDue, apply_ite State.pending, ite_self, trimVerify_pending]
theorem verifyAbandon_pending (s : State) : (verifyAbandon s).pending = s.pending := by
  simp only [verifyAbandon, apply_ite State.pending, ite_self]
theorem lostDefer_pending (s : State) : (lostDefer s).pending = s.pending := rfl
theorem srcSet_pending (k : Nat) (s : State) : (srcSet k s).pending = s.pending := by
  simp only [srcSet, apply_ite State.pending, ite_self, implies_true]
theorem srcVreg_pending (s : State) : (srcVreg s).pending = s.pending := by
  simp only [srcVreg, apply_ite State.pending, ite_self, srcSet_pending, implies_true]
theorem srcFollow_pending (s : State) : (srcFollow s).pending = s.pending := by
  simp only [srcFollow, apply_ite State.pending, ite_self, lostDefer_pending, srcSet_pending, implies_true]
theorem kaOnly_pending (s : State) : (kaOnly s).pending = s.pending := rfl
theorem recHold_pending (can : Bool) (s : State) : (recHold can s).pending = s.pending := by
  simp only [recHold]
theorem holdReset_pending (ph : Phase) (cause : Nat) (can : Bool) (s : State) : (holdReset ph cause can s).pending
    = s.pending := by
  simp only [holdReset, recHold_pending, kaOnly_pending, otpCut_pending]
theorem startPath_pending (cause : Nat) (s : State) : (startPath cause s).pending = s.pending := by
  simp only [startPath, apply_ite State.pending, ite_self, srcFollow_pending, kaOnly_pending, implies_true]
theorem stepFour_pending (s0 : State) : (stepFour s0).pending = s0.pending := by
  simp only [stepFour, apply_ite State.pending, ite_self, srcVreg_pending, implies_true]
theorem fillStep_pending (s : State) : (fillStep s).pending = s.pending := by
  simp only [fillStep, apply_ite State.pending, ite_self]
theorem lostRecord_pending (s : State) : (lostRecord s).pending = s.pending := by
  simp only [lostRecord, apply_ite State.pending, ite_self]
theorem genRaise_pending (bad : Option Nat) (s : State) : (genRaise bad s).pending = s.pending := by
  unfold genRaise; split <;> simp only [apply_ite State.pending, ite_self, raiseCtx_pending,
    implies_true]
theorem releaseEvents_pending (s : State) : (releaseEvents s).pending = s.pending := by
  simp only [releaseEvents, follow_pending, genRaise_pending]
  exact foldl_pending (fun s n => raise n s) _ s fun s n => raise_pending n s
theorem coreStart_pending (s : State) : (coreStart s).pending = s.pending := by
  simp only [coreStart, releaseEvents_pending, calRelease_pending, otpCutRecord_pending, lostRecord_pending,
    fillStep_pending]
theorem coreChecks_pending (s : State) : (coreChecks s).pending = s.pending := by
  simp only [coreChecks, follow_pending, verifyAbandon_pending]
theorem coreBack_pending (s0 : State) : (coreBack s0).pending = s0.pending := by
  simp only [coreBack, apply_ite State.pending, ite_self, mirrorFollow_pending, genRaise_pending, coreChecks_pending,
    implies_true]
theorem sendStep_pending (s : State) : (sendStep s).pending = s.pending := by
  unfold sendStep; dsimp only; repeat' split
  all_goals rfl
theorem modeBegin_pending (s : State) : (modeBegin s).pending = s.pending := by
  simp only [modeBegin, apply_ite State.pending, ite_self]
theorem passStep_pending (s : State) : (passStep s).pending = s.pending := by
  simp only [passStep, apply_ite State.pending, ite_self]
theorem passComplete_pending (s : State) : (passComplete s).pending = s.pending := by
  simp only [passComplete, apply_ite State.pending, ite_self]
theorem modeAccept_pending (v : Word) (bcast now : Bool) (s : State) : (modeAccept v bcast now s).pending =
    s.pending := by
  unfold modeAccept; split <;> simp only [apply_ite State.pending, ite_self, implies_true]
theorem ncellFollow_pending (s : State) : (ncellFollow s).pending = s.pending := by
  simp only [ncellFollow, apply_ite State.pending, ite_self, stand_pending, implies_true]
theorem cfgFollow_pending (old : Cfg) (s : State) : (cfgFollow old s).pending = s.pending := by
  simp only [cfgFollow, apply_ite State.pending, ite_self, ncellFollow_pending, implies_true]
theorem reseal_pending (s : State) : (reseal s).pending = s.pending := by
  unfold reseal; split <;> simp only [apply_ite State.pending, ite_self, cfgFollow_pending, implies_true]
theorem modeSwitch_pending (m : Mode) (s : State) : (modeSwitch m s).pending = s.pending := by
  simp only [modeSwitch, apply_ite State.pending, ite_self, verifyAbandon_pending, reseal_pending,
    degEnter_pending, rebegin_pending, driveB_pending, packPermits_pending]
theorem modeLow_pending (m : Mode) (s : State) : (modeLow m s).pending = s.pending := by
  simp only [modeLow, apply_ite State.pending, ite_self, otpCut_pending, verifyAbandon_pending, reseal_pending]
theorem factoryExit_pending (s : State) : (factoryExit s).pending = s.pending := by
  simp only [factoryExit, startPath_pending, stepFour_pending, otpCut_pending]
theorem modeApply_pending (s : State) : (modeApply s).pending = s.pending := by
  unfold modeApply
  repeat' first | with_reducible rfl | (simp only [*, apply_ite State.pending, ite_self, implies_true,
    Option.isSome, factoryExit_pending, modeLow_pending, modeSwitch_pending]; done) | split
theorem address63_pending (s : State) : (address63 s).pending = s.pending := by
  simp only [address63, apply_ite State.pending, ite_self, modeSwitch_pending]
theorem rstHold_pending (s : State) : (rstHold s).pending = s.pending := by
  unfold rstHold; repeat' split
  all_goals simp only [apply_ite State.pending, ite_self, holdReset_pending]
theorem resetLog_pending (ms : Word) (s : State) : (resetLog ms s).pending = s.pending := rfl
theorem resetRecord_pending (ms : Word) (s : State) : (resetRecord ms s).pending = s.pending := rfl
theorem thermalTrip_pending (cause idx : Nat) (s : State) : (thermalTrip cause idx s).pending = s.pending := by
  simp only [thermalTrip, tripOwn_pending, otpStop_pending]
theorem thermalRecord_pending (bad : Nat) (s : State) : (thermalRecord bad s).pending = s.pending := by
  simp only [thermalRecord, jrnlFlush_pending, otpCut_pending, holdReset_pending]
theorem sdWriteFails_pending (s : State) : (sdWriteFails s).pending = s.pending := by
  simp only [sdWriteFails, jrnlDone_pending]
theorem wakeInStandby_pending (k : Nat) (s : State) : (wakeInStandby k s).pending = s.pending := by
  simp only [wakeInStandby, apply_ite State.pending, ite_self]
theorem wakeSend_pending (s : State) : (wakeSend s).pending = s.pending := by
  simp only [wakeSend]
theorem wakeStart_pending (cause k : Nat) (own : Bool) (s : State) : (wakeStart cause k own s).pending = s.pending
    := by
  simp only [wakeStart, startPath_pending, wakeSend_pending]
theorem thermalStart_pending (s : State) : (thermalStart s).pending = s.pending := by
  simp only [thermalStart, apply_ite State.pending, ite_self, startPath_pending, wakeStart_pending, implies_true]
theorem wakeEnds_pending (s : State) : (wakeEnds s).pending = s.pending := rfl
theorem finish_pending (t : Trans) (r : Reply) (s : State) : (finish t r s).pending = s.pending := rfl
theorem release_pending (a : BitVec 6) (s : State) : (release a s).pending = s.pending := by
  unfold release; refine foldl_pending _ _ _ fun s t => ?_
  split <;> rfl
theorem complete_pending (t : Trans) (r : Reply) (s : State) : (complete t r s).pending = s.pending := by
  simp only [complete, apply_ite State.pending, ite_self, release_pending, finish_pending]
theorem completeUnserved_pending (t : Trans) (status : Nat) (uncert noreach : Bool) (s : State) : (completeUnserved
    t status uncert noreach s).pending = s.pending := by
  simp only [completeUnserved, drawFree_pending, complete_pending]
theorem finishOutside_pending (t : Trans) (s : State) : (finishOutside t s).pending = s.pending := by
  simp only [finishOutside, drawFree_pending, finish_pending]
theorem abandon_pending (t : Trans) (status : Nat) (uncert noreach : Bool) (s : State) : (abandon t status uncert
    noreach s).pending = s.pending := by
  simp only [abandon, completeUnserved_pending]
theorem dropAddr_pending (a : BitVec 6) (s : State) : (dropAddr a s).pending = s.pending := by
  simp only [dropAddr, foldl_pending, completeUnserved_pending, implies_true]
theorem searchBegin_pending (fresh : Bool) (s : State) : (searchBegin fresh s).pending = s.pending := by
  simp only [searchBegin, apply_ite State.pending, ite_self]
theorem searchStart_pending (s : State) : (searchStart s).pending = s.pending := by
  simp only [searchStart, apply_ite State.pending, ite_self, searchBegin_pending]
theorem searchRestart_pending (s : State) : (searchRestart s).pending = s.pending := by
  simp only [searchRestart, apply_ite State.pending, ite_self, searchBegin_pending]
theorem searchReqApply_pending (v : Word) (s : State) : (searchReqApply v s).pending = s.pending := by
  simp only [searchReqApply, apply_ite State.pending, ite_self]
theorem searchReturns_pending (i : BoundaryIn) (l : LinkSt) (s : State) : (searchReturns i l s).pending = s.pending := by
  simp only [searchReturns, apply_ite State.pending, ite_self, searchAbort_pending]
theorem searchTick_pending (i : BoundaryIn) (l : LinkSt) (s : State) : (searchTick i l s).pending = s.pending := by
  unfold searchTick; dsimp only; repeat' split
  all_goals rfl
theorem searchUnstable_pending (s : State) : (searchUnstable s).pending = s.pending := by
  simp only [searchUnstable, raise_pending]
theorem searchFails_pending (s : State) : (searchFails s).pending = s.pending := by
  simp only [searchFails, searchAbort_pending]
theorem tackMember_pending (st : Stream) (ws : List LinkWord) (s : State) : (tackMember st ws s).pending =
    s.pending := by
  simp only [tackMember, apply_ite State.pending, ite_self]
theorem tackReturn_pending (st : Stream) (ws : List LinkWord) (s : State) : (tackReturn st ws s).pending = s.pending := by
  unfold tackReturn; dsimp only; repeat' split
  all_goals simp only [searchFails_pending, searchUnstable_pending]
theorem idStep_pending (s : State) : (idStep s).pending = s.pending := by
  simp only [idStep, apply_ite State.pending, ite_self]
theorem idReceive_pending (st : Stream) (ofs : Nat) (ws : List LinkWord) (s : State) : (idReceive st ofs ws s).pending =
    s.pending := by
  unfold idReceive; repeat' split
  all_goals simp only [searchFails_pending]
theorem searchSettle_pending (nOut nBack : BitVec 6) (s : State) : (searchSettle nOut nBack s).pending = s.pending := by
  simp only [searchSettle, apply_ite State.pending, ite_self, raise_pending]
theorem searchDecide_pending (s : State) : (searchDecide s).pending = s.pending := by
  simp only [searchDecide, apply_ite State.pending, ite_self, searchUnstable_pending, searchFails_pending,
    searchSettle_pending]
theorem searchDecideDue_pending (s : State) : (searchDecideDue s).pending = s.pending := by
  simp only [searchDecideDue, apply_ite State.pending, ite_self, searchDecide_pending]
theorem commitMember_pending (ws : List LinkWord) (fwdNs loopNs : Int) (s : State) : (commitMember ws fwdNs
    loopNs s).pending = s.pending := by
  simp only [commitMember, apply_ite State.pending, ite_self]
theorem commitReturn_pending (st : Stream) (ws : List LinkWord) (s : State) : (commitReturn st ws s).pending =
    s.pending := by
  simp only [commitReturn, apply_ite State.pending, ite_self, searchFails_pending]
theorem mapFollow_pending (s : State) : (mapFollow s).pending = s.pending := by
  simp only [mapFollow, apply_ite State.pending, ite_self, follow_pending]
theorem newDevice_pending (a : BitVec 6) (s : State) : (newDevice a s).pending = s.pending := rfl
theorem startTimes_pending (l : LinkSt) (s : State) : (startTimes l s).pending = s.pending := by
  simp only [startTimes, apply_ite State.pending, ite_self]
theorem addrReturned_pending (a : BitVec 6) (s : State) : (addrReturned a s).pending = s.pending := by
  simp only [addrReturned, apply_ite State.pending, ite_self, setMember_pending, newDevice_pending, dropAddr_pending, implies_true]
theorem addrChanged_pending (a : BitVec 6) (s : State) : (addrChanged a s).pending = s.pending := by
  simp only [addrChanged, setMember_pending, newDevice_pending, dropAddr_pending]
theorem applyHead_pending (c : Commit) (s : State) : (applyHead c s).pending = s.pending := by
  simp only [applyHead, apply_ite State.pending, ite_self, foldl_pending, mirrorFollow_pending, mapFollow_pending,
    addrReturned_pending, addrChanged_pending, implies_true]
theorem newAddr_pending (a : BitVec 6) (s : State) : (newAddr a s).pending = s.pending := by
  simp only [newAddr, apply_ite State.pending, ite_self, address63_pending]
theorem applyAddr_pending (a : BitVec 6) (s : State) : (applyAddr a s).pending = s.pending := by
  simp only [applyAddr, newAddr_pending, apply_ite State.pending, ite_self]
theorem applyMember_pending (c : Commit) (s : State) : (applyMember c s).pending = s.pending := by
  unfold applyMember; dsimp only; split <;> simp only [raiseIf_pending, applyAddr_pending]
theorem applyMissed_pending (s : State) : (applyMissed s).pending = s.pending := by
  simp only [applyMissed, applyAddr_pending]
theorem searchApply_pending (s : State) : (searchApply s).pending = s.pending := by
  unfold searchApply; split <;> simp only [apply_ite State.pending, ite_self, rebegin_pending, driveB_pending,
    packPermits_pending, applyHead_pending, applyMember_pending, implies_true]
theorem epochMismatch_pending (s : State) : (epochMismatch s).pending = s.pending := by
  simp only [epochMismatch, apply_ite State.pending, ite_self, raise_pending, newAddr_pending]
theorem handOver_pending (s : State) : (handOver s).pending = s.pending := by
  simp only [handOver, apply_ite State.pending, ite_self, srcSet_pending, holdReset_pending, implies_true]
theorem handBack_pending (s0 : State) : (handBack s0).pending = s0.pending := by
  simp only [handBack, startPath_pending, srcVreg_pending]
  exact foldl_pending (fun s ms => resetLog ms s) _ _ (fun s a => resetLog_pending a s)
theorem railSet_pending (rail : Fin 3) (s : State) : (railSet rail s).pending = s.pending := rfl
theorem railFault_pending (rail : Fin 3) (s : State) : (railFault rail s).pending = s.pending := by
  unfold railFault; split <;> simp only [apply_ite State.pending, ite_self, holdReset_pending, railSet_pending,
    implies_true]
theorem buckSlot_pending (vreg : Nat) (limit : Bool) (s : State) : (buckSlot vreg limit s).pending = s.pending := by
  simp only [buckSlot, apply_ite State.pending, ite_self]
theorem buckRaise_pending (s : State) : (buckRaise s).pending = s.pending := by
  simp only [buckRaise, apply_ite State.pending, ite_self, stand_pending]
theorem buckBoundary_pending (s : State) : (buckBoundary s).pending = s.pending := by
  simp only [buckBoundary, apply_ite State.pending, ite_self, stand_pending]
theorem chargerStop_pending (s : State) : (chargerStop s).pending = s.pending := by
  simp only [chargerStop, apply_ite State.pending, ite_self]
theorem probeBoundary_pending (s : State) : (probeBoundary s).pending = s.pending := rfl
theorem bakGone_pending (s : State) : (bakGone s).pending = s.pending := by
  simp only [bakGone, apply_ite State.pending, ite_self, stand_pending, srcFollow_pending, implies_true]
theorem probeResult_pending (vbak riseMv : Nat) (s : State) : (probeResult vbak riseMv s).pending = s.pending := by
  simp only [probeResult, apply_ite State.pending, ite_self, stand_pending, srcFollow_pending, bakGone_pending,
    implies_true]
theorem kaLoss_pending (s : State) : (kaLoss s).pending = s.pending := rfl
theorem timeTo_pending (t : Nat) (s : State) : (timeTo t s).pending = s.pending := rfl
theorem breath_pending (i : BreathIn) (s : State) : (breath i s).pending = s.pending := by
  unfold breath; dsimp only; repeat' split
  all_goals first | rfl | simp only [apply_ite State.pending, ite_self, timeTo_pending, drawFree_pending, thermalRecord_pending,
    thermalTrip_pending, wakeStart_pending, implies_true]
theorem wakeClrApply_pending (s : State) : (wakeClrApply s).pending = s.pending := rfl
theorem radioFault_pending (s : State) : (radioFault s).pending = s.pending := by
  simp only [radioFault, raise_pending]
theorem drawSession_pending (noise : List Word) (s : State) : (drawSession noise s).pending = s.pending := by
  unfold drawSession; dsimp only; repeat' split
  all_goals rfl
theorem cycleBegin_pending (s : State) : (cycleBegin s).pending = s.pending := rfl
theorem mirrorCycle_pending (noise : List Word) (txOk : Bool) (s : State) : (mirrorCycle noise txOk s).pending =
    s.pending := by
  simp only [mirrorCycle, apply_ite State.pending, ite_self, cycleBegin_pending, drawSession_pending,
    radioFault_pending]
theorem mirrorCycleDue_pending (s : State) : (mirrorCycleDue s).pending = s.pending := by
  simp only [mirrorCycleDue, apply_ite State.pending, ite_self, mirrorCycle_pending]
theorem mirrorOther_pending (s : State) : (mirrorOther s).pending = s.pending := rfl
theorem mirrorMic_pending (s : State) : (mirrorMic s).pending = s.pending := by
  simp only [mirrorMic, raise_pending]
theorem tackCheck_pending (pl : List Byte) (s : State) : (tackCheck pl s).pending = s.pending := by
  simp only [tackCheck, apply_ite State.pending, ite_self, raise_pending]
theorem beaconTake_pending (e : Nat) (f pl : List Byte) (rssi : BitVec 8) (s : State) : (beaconTake e f pl rssi s).pending =
    s.pending := by
  simp only [beaconTake, apply_ite State.pending, ite_self, stand_pending, skewNow_pending, driveB_pending,
    packPermits_pending, tackCheck_pending]
theorem beaconReceive_pending (e : Nat) (f : List Byte) (rssi : BitVec 8) (s : State) : (beaconReceive e f rssi s).pending =
    s.pending := by
  unfold beaconReceive; dsimp only; repeat' split
  all_goals first | rfl | simp only [apply_ite State.pending, ite_self, mirrorOther_pending, mirrorMic_pending,
    beaconTake_pending, implies_true]
theorem beaconWindow_pending (slot : Nat) (s : State) : (beaconWindow slot s).pending = s.pending := by
  simp only [beaconWindow, apply_ite State.pending, ite_self]
theorem silentReact_pending (s : State) : (silentReact s).pending = s.pending := by
  simp only [silentReact, driveB_pending, packPermits_pending]
theorem beaconLost_pending (s : State) : (beaconLost s).pending = s.pending := by
  unfold beaconLost; dsimp only; repeat' split
  all_goals first | rfl | simp only [apply_ite State.pending, ite_self, stand_pending, skewNow_pending,
    silentReact_pending, driveB_pending, packPermits_pending, implies_true]
theorem radioActs_pending (c : Copy) (s : State) : (radioActs c s).pending = s.pending := by
  simp only [radioActs, apply_ite State.pending, ite_self, packFall_pending, trip_pending]
theorem memberReceive_pending (a : BitVec 6) (f : List Byte) (rssi : BitVec 8) (s : State) : (memberReceive a f
    rssi s).pending = s.pending := by
  unfold memberReceive; dsimp only; repeat' split
  all_goals first | rfl | simp only [apply_ite State.pending, ite_self, mirrorOther_pending, mirrorMic_pending,
    radioActs_pending, setMember_pending, implies_true]
theorem mirrorJudge_pending (a : Nat) (s : State) : (mirrorJudge a s).pending = s.pending := by
  simp only [mirrorJudge, apply_ite State.pending, ite_self, mirrorFollow_pending, setMember_pending, trip_pending]
theorem judgeRest_pending (s : State) : (judgeRest s).pending = s.pending := by
  simp only [judgeRest, foldl_pending, apply_ite State.pending, ite_self, mirrorJudge_pending, implies_true]
theorem keyStageApply_pending (k : Nat) (v : Word) (s : State) : (keyStageApply k v s).pending = s.pending := rfl
theorem readEffect_pending (a : Nat) (s : State) : (readEffect a s).pending = s.pending := by
  unfold readEffect; split <;> rfl
theorem readClear_pending (a : Nat) (s : State) : (readClear a s).pending = s.pending := by
  simp only [readClear, apply_ite State.pending, ite_self, readEffect_pending]
theorem readRange_pending (n a : Nat) (s : State) : (readRange n a s).2.pending = s.pending := by
  induction n generalizing a s with
  | zero => rfl
  | succ n ih => rw [readRange, ih, readClear_pending]
theorem writeAct_pending (t : Cfg) (a : Nat) (v : Word) (bcast now : Bool) (s : State) : (writeAct t a v bcast now
    s).pending = s.pending := by
  unfold writeAct; dsimp only; repeat' split
  all_goals first | rfl | simp only [apply_ite State.pending, ite_self, balTimerApply_pending, diagReqApply_pending,
    otpCmdApply_pending, sealConfirmApply_pending, packConfirmApply_pending, recCtrlApply_pending,
    latchClearApply_pending, clrCntApply_pending, ferClearApply_pending, pevPopApply_pending, injApply_pending,
    ackRequest_pending, unlockApply_pending, modeAccept_pending, searchReqApply_pending, wakeClrApply_pending,
    keyStageApply_pending, implies_true]
theorem applyReg_pending (t : Cfg) (a : Nat) (v : Word) (bcast now : Bool) (s : State) : (applyReg t a v bcast now
    s).pending = s.pending := by
  simp only [applyReg, apply_ite State.pending, ite_self, writeAct_pending]
theorem pgRecord_pending (a code : Nat) (s : State) : (pgRecord a code s).pending = s.pending := by
  simp only [pgRecord, apply_ite State.pending, ite_self]
theorem applyAll_pending (t : Cfg) (bcast now : Bool) (l : List (Nat × Word)) (s : State) : (applyAll t bcast now l
    s).pending = s.pending := by
  simp only [applyAll, foldl_pending, applyReg_pending, implies_true]
theorem accessWr_pending (reg : BitVec 16) (ws : List Word) (bcast now : Bool) (s : State) : (accessWr reg ws bcast
    now s).2.pending = s.pending := by
  unfold accessWr; split <;> simp only [pgRecord_pending, applyAll_pending, implies_true]
theorem accessMwr_pending (reg : BitVec 16) (mask value : Word) (s : State) : (accessMwr reg mask value
    s).2.2.pending = s.pending := by
  simp only [accessMwr, apply_ite State.pending, ite_self, accessWr_pending]
theorem accessRd_pending (reg : BitVec 16) (n : Nat) (s : State) : (accessRd reg n s).2.2.pending = s.pending := by
  unfold accessRd; split <;> simp only [apply_ite State.pending, ite_self, pgRecord_pending, readRange_pending,
    implies_true]
theorem accessSnrd_pending (reg : BitVec 16) (n : Nat) (num : BitVec 16) (s : State) : (accessSnrd reg n num
    s).2.2.pending = s.pending := by
  unfold accessSnrd; dsimp only; repeat' split
  all_goals first | rfl | simp only [apply_ite State.pending, ite_self, pgRecord_pending, implies_true]
theorem accessBulk_pending (offset : Word) (n : Nat) (tag : BitVec 6) (s : State) : (accessBulk offset n tag
    s).2.2.pending = s.pending := by
  unfold accessBulk; split <;> simp only [apply_ite State.pending, ite_self, bulkExec_pending, implies_true]
theorem access_pending (op : Nat) (reg : BitVec 16) (len : Nat) (ws : List Word) (tag : BitVec 6) (s : State) :
    (access op reg len ws tag s).2.2.pending = s.pending := by
  unfold access; split <;> simp only [accessRd_pending, accessWr_pending, accessMwr_pending, accessSnrd_pending,
    accessBulk_pending, implies_true]
theorem writeOne_pending (a : Nat) (v : Word) (s : State) : (writeOne a v s).pending = s.pending := by
  simp only [writeOne, apply_ite State.pending, ite_self, accessWr_pending]
theorem setTrans_pending (tag : BitVec 6) (f : Trans → Trans) (s : State) : (setTrans tag f s).pending = s.pending
    := by
  simp only [setTrans, apply_ite State.pending, ite_self]
theorem takeTag_pending (tag : BitVec 6) (s : State) : (takeTag tag s).pending = s.pending := rfl
theorem execHere_pending (t : Trans) (s : State) : (execHere t s).pending = s.pending := by
  simp only [execHere, apply_ite State.pending, ite_self, access_pending, finish_pending]
theorem ownServe_pending (s : State) : (ownServe s).pending = s.pending := by
  simp only [ownServe, apply_ite State.pending, ite_self, foldl_pending, execHere_pending, implies_true]
theorem acceptOwn_pending (t : Trans) (handled : Bool) (s : State) : (acceptOwn t handled s).pending = s.pending := by
  simp only [acceptOwn, apply_ite State.pending, ite_self, execHere_pending, ownServe_pending]
theorem acceptBcast_pending (t : Trans) (w : Word) (data : List Word)
    (s : State) : (acceptBcast t w data s).pending = s.pending := by
  simp only [acceptBcast, apply_ite State.pending, ite_self, noteBcast_pending, snapRequest_pending, implies_true]
theorem acceptMember_pending (t : Trans) (s : State) : (acceptMember t s).pending = s.pending := by
  simp only [acceptMember, setMember_pending]
theorem acceptTrans_pending (op : Nat) (h : HostHdr) (ws : List Word) (s : State) : (acceptTrans op h ws s).pending
    = s.pending := by
  simp only [acceptTrans, apply_ite State.pending, ite_self, takeTag_pending, acceptBcast_pending,
    acceptOwn_pending, acceptMember_pending, finishOutside_pending]
theorem deliver_pending (tag : BitVec 6) (s : State) : (deliver tag s).pending = s.pending := by
  simp only [deliver]
theorem acceptFetch_pending (op : Nat) (h : HostHdr) (s : State) : (acceptFetch op h s).pending = s.pending := by
  unfold acceptFetch; split <;> rfl
theorem driveAccept_pending (c : Nat) (h : HostHdr) (s : State) : (driveAccept c h s).pending = s.pending := by
  simp only [driveAccept, apply_ite State.pending, ite_self]
theorem hostFrame_pending (op : Nat) (h : HostHdr) (dat : List Word) (s : State) : (hostFrame op h dat s).pending =
    s.pending := by
  simp only [hostFrame, apply_ite State.pending, ite_self, atUs_pending, driveAccept_pending, acceptFetch_pending,
    acceptTrans_pending]
theorem beaconForm_pending (s : State) : (beaconForm s).pending = s.pending := by
  simp only [beaconForm, apply_ite State.pending, ite_self, implies_true]
theorem packAckTake_pending (s : State) : (packAckTake s).pending = s.pending := by
  simp only [packAckTake, apply_ite State.pending, ite_self, noteBcast_pending]
theorem sendWords_pending (s : State) : (sendWords s).pending = s.pending := rfl
theorem headSend_pending (s : State) : (headSend s).pending = s.pending := by
  simp only [headSend, apply_ite State.pending, ite_self, sendWords_pending, packAckTake_pending]
theorem makeReady_pending (q : BitVec 8) (r : Reply) (s : State) : (makeReady q r s).pending = s.pending := by
  simp only [makeReady, apply_ite State.pending, ite_self]
theorem makeAnswer_pending (q : BitVec 8) (r : Reply) (s : State) : (makeAnswer q r s).pending = s.pending := rfl
theorem answerLater_pending (q : BitVec 8) (r : Reply) (s : State) : (answerLater q r s).pending = s.pending := rfl
theorem answersReady_pending (s : State) : (answersReady s).pending = s.pending := rfl
theorem storeReply_pending (q : BitVec 8) (r : Reply) (s : State) : (storeReply q r s).pending = s.pending := by
  simp only [storeReply, makeReady_pending]
theorem serveSeq_pending (run : Trans → State → State) (t : Trans) (s : State) (h : (run t s).pending = s.pending) :
    (serveSeq run t s).pending = s.pending := by
  unfold serveSeq; split <;> simp only [h, makeReady_pending]
theorem serveRun_pending (t : Trans) (s : State) : (serveRun t s).pending = s.pending := by
  simp only [serveRun, storeReply_pending, access_pending]
theorem serveUnicast_pending (t : Trans) (s : State) : (serveUnicast t s).pending = s.pending :=
  serveSeq_pending _ t s (serveRun_pending t s)
theorem serveBusy_pending (t : Trans) (s : State) : (serveBusy t s).pending = s.pending :=
  serveSeq_pending _ t s (storeReply_pending _ _ s)
theorem inboxServe_pending (s : State) : (inboxServe s).pending = s.pending := by
  simp only [inboxServe, foldl_pending, apply_ite State.pending, ite_self, serveUnicast_pending, ownServe_pending, implies_true]
theorem inboxBusy_pending (p : Trans → Bool) (s : State) : (inboxBusy p s).pending = s.pending := by
  simp only [inboxBusy, foldl_pending, serveBusy_pending, implies_true]
theorem serveBcast_pending (t : Trans) (s : State) : (serveBcast t s).pending = s.pending := by
  simp only [serveBcast, apply_ite State.pending, ite_self, snapRequest_pending]
theorem serveFrame_pending (t : Trans) (handled : Bool) (s : State) : (serveFrame t handled s).pending = s.pending :=
    by
  simp only [serveFrame, apply_ite State.pending, ite_self, serveUnicast_pending, inboxServe_pending,
    serveBcast_pending, implies_true]
theorem fillGrant_pending (g : Bool × Nat × Nat) (s : State) : (fillGrant g s).pending = s.pending := by
  simp only [fillGrant, apply_ite State.pending, ite_self]
theorem grantCatch_pending (ns : Nat) (s : State) : (grantCatch ns s).pending = s.pending := by
  simp only [grantCatch, apply_ite State.pending, ite_self, foldl_pending, fillGrant_pending, implies_true]
theorem passCatch_pending (ns : Nat) (s : State) : (passCatch ns s).pending = s.pending := by
  simp only [passCatch, apply_ite State.pending, ite_self, sumCatch_pending, grantCatch_pending, implies_true]
theorem bcastComplete_pending (t : Trans) (s : State) : (bcastComplete t s).pending = s.pending := by
  simp only [bcastComplete, complete_pending]
theorem bcastFinish_pending (s : State) : (bcastFinish s).pending = s.pending := by
  simp only [bcastFinish, foldl_pending, bcastComplete_pending, implies_true]
theorem bcastAnswer_pending (tag : BitVec 6) (a : BitVec 6) (status : Nat) (s : State) : (bcastAnswer tag a status
    s).pending = s.pending := by
  simp only [bcastAnswer, apply_ite State.pending, ite_self, setTrans_pending]
theorem ghostsAnswered_pending (a : BitVec 6) (q : BitVec 8) (s : State) : (ghostsAnswered a q s).pending = s.pending := rfl
theorem replyTake_pending (port : Port) (ws : List Word) (s : State) : (replyTake port ws s).pending = s.pending := by
  unfold replyTake; dsimp only; split <;> simp only [apply_ite State.pending, ite_self, bcastFinish_pending,
    bcastAnswer_pending, complete_pending, ghostsAnswered_pending]
theorem keepGhost_pending (t : Trans) (s : State) : (keepGhost t s).pending = s.pending := rfl
theorem seqReturn_pending (t : Trans) (s : State) : (seqReturn t s).pending = s.pending := rfl
theorem boundEnd_pending (t : Trans) (c : BoundCase) (s : State) : (boundEnd t c s).pending = s.pending := by
  unfold boundEnd
  repeat' split
  all_goals simp only [apply_ite State.pending, ite_self, abandon_pending, keepGhost_pending, seqReturn_pending]
theorem boundDue_pending (s : State) (x : Trans) : (boundDue s x).pending = s.pending := by
  unfold boundDue; split <;> simp only [boundEnd_pending]
theorem unsentEnd_pending (t : Trans) (s : State) : (unsentEnd t s).pending = s.pending := by
  simp only [unsentEnd, abandon_pending, seqReturn_pending]
theorem unreservedEnd_pending (s : State) : (unreservedEnd s).pending = s.pending := by
  simp only [unreservedEnd, foldl_pending, unsentEnd_pending, implies_true]
theorem boundsDue_pending (s : State) : (boundsDue s).pending = s.pending := by
  simp only [boundsDue, foldl_pending, unreservedEnd_pending, bcastFinish_pending, boundDue_pending, implies_true]
theorem cfgLatch_pending (s : State) : (cfgLatch s).pending = s.pending := by
  simp only [cfgLatch, cfgFollow_pending]
theorem pendBoundary_pending (s : State) : (pendBoundary s).pending = s.pending := by
  simp only [pendBoundary, apply_ite State.pending, ite_self, unlockBoundary_pending, diagReqBoundary_pending,
    recCtrlBoundary_pending]
theorem bcastWrite_pending (b : Bcast) (s : State) : (bcastWrite b s).pending = s.pending := by
  unfold bcastWrite; dsimp only; repeat' split
  all_goals first | rfl | simp only [apply_ite State.pending, ite_self, foldl_pending, pgRecord_pending,
    applyAll_pending, answerLater_pending, bcastAnswer_pending, implies_true]
theorem bcastWrites_pending (p : Bcast → Bool) (s : State) : (bcastWrites p s).pending = s.pending := by
  simp only [bcastWrites, apply_ite State.pending, ite_self, foldl_pending, bcastWrite_pending, implies_true]
theorem bcastApply_pending (s : State) : (bcastApply s).pending = s.pending := by
  simp only [bcastApply, apply_ite State.pending, ite_self, rebegin_pending, curPlan_pending, bcastFinish_pending,
    cfgFollow_pending, pendBoundary_pending, bcastWrites_pending, implies_true]
theorem bcastEarly_pending (s : State) : (bcastEarly s).pending = s.pending := by
  simp only [bcastEarly, apply_ite State.pending, ite_self, cfgFollow_pending, bcastWrites_pending, implies_true]
theorem snapAnswer_pending (s : State) : (snapAnswer s).pending = s.pending := by
  simp only [snapAnswer, apply_ite State.pending, ite_self, foldl_pending, makeAnswer_pending, bcastFinish_pending,
    bcastAnswer_pending, implies_true]
theorem taskWork_pending (i : TaskIn) (s : State) : (taskWork i s).pending = s.pending := by
  simp only [taskWork, chain, List.foldl_cons, List.foldl_nil, apply_ite State.pending, ite_self,
    measChecks_pending, stepJudge_pending, backgroundChecks_pending, patrols_pending, curChecks_pending,
    sltCountA_pending, slvTaskA_pending, currentTaskA_pending, implies_true]
theorem taskEnd_pending (us : Nat) (s : State) : (taskEnd us s).pending = s.pending := by
  simp only [taskEnd, driveA_pending]
theorem postWork_pending (s : State) : (postWork s).pending = s.pending := by
  simp only [postWork, chain, List.foldl_cons, List.foldl_nil, apply_ite State.pending, ite_self, xdisApply_pending,
    publishMeas_pending, publishCur_pending, publishTemp_pending, snapXdis_pending, verifyCount_pending, implies_true]
theorem overrun_pending (s : State) : (overrun s).pending = s.pending := by
  simp only [overrun, unpublishMeas_pending, raise_pending]
theorem loadBoundary_pending (load : Nat) (s : State) : (loadBoundary load s).pending = s.pending := by
  simp only [loadBoundary, apply_ite State.pending, ite_self, follow_pending]
theorem shedResume_pending (s : State) : (shedResume s).pending = s.pending := by
  simp only [shedResume, apply_ite State.pending, ite_self, follow_pending]
theorem coreResetDue_pending (s : State) : (coreResetDue s).pending = s.pending := by
  simp only [coreResetDue, apply_ite State.pending, ite_self, raise_pending]
theorem standingDue_pending (s : State) : (standingDue s).pending = s.pending := by
  simp only [standingDue, chain, List.foldl_cons, List.foldl_nil, apply_ite State.pending, ite_self, aStep_pending,
    xdisApply_pending, sumApply_pending, harnessApply_pending, owEvaluate_pending, isnsApply_pending,
    iauxApply_pending, disagreeApply_pending, jrnlBegin_pending, tsBrokenApply_pending, sltRelease_pending,
    sltDue_pending, stampDue_pending, inhibitRelease_pending, sliLatch_pending, sdiLockout_pending,
    siDiscLatch_pending, snapXdis_pending, buckRaise_pending, beaconLost_pending, implies_true]
theorem ackHeld_pending (s : State) : (ackHeld s).pending = s.pending := by
  simp only [ackHeld, apply_ite State.pending, ite_self, ackRearm_pending, ackStuckDue_pending]
theorem ackPinDue_pending (s : State) : (ackPinDue s).pending = s.pending := by
  simp only [ackPinDue, apply_ite State.pending, ite_self, ackHeld_pending, ackPulse_pending]
theorem shutdownDue_pending (s : State) : (shutdownDue s).pending = s.pending := by
  simp only [shutdownDue, apply_ite State.pending, ite_self, thermalTrip_pending]
theorem portsDue_pending (s : State) : (portsDue s).pending = s.pending := by
  simp only [portsDue, apply_ite State.pending, ite_self, readyStart_pending, unfoldPort_pending]
theorem threadsDue_pending (s : State) : (threadsDue s).pending = s.pending := by
  simp only [threadsDue, foldl_pending, apply_ite State.pending, ite_self, threadJudge_pending, implies_true]
theorem searchesDue_pending (s : State) : (searchesDue s).pending = s.pending := by
  simp only [searchesDue, apply_ite State.pending, ite_self, searchRestart_pending, searchStart_pending,
    rebegin_pending, driveB_pending, packPermits_pending, epochMismatch_pending, searchApply_pending,
    searchDecideDue_pending]
theorem packCloseIrq_pending (s : State) : (packCloseIrq s).pending = s.pending := by
  simp only [packCloseIrq, packCloseDue_pending]
theorem unitsDue_pending (s : State) : (unitsDue s).pending = s.pending := by
  simp only [unitsDue, foldl_pending, rebegin_pending, owPause_pending, unitStart_pending, fgLate_pending,
    unitDue_pending, periodStart_pending, passComplete_pending, unitComplete_pending, implies_true]
theorem balanceDue_pending (s : State) : (balanceDue s).pending = s.pending := by
  simp only [balanceDue, foldl_pending, rotateDue_pending, vminApply_pending, implies_true]
theorem coreSteps_pending (s : State) : (coreSteps s).pending = s.pending := by
  simp only [coreSteps, chain, List.foldl_cons, List.foldl_nil, otpStartDue_pending, degExpire_pending, shedResume_pending,
    packCloseIrq_pending, unitsDue_pending, balanceDue_pending]
theorem coreDue_pending (s : State) : (coreDue s).pending = s.pending := by
  unfold coreDue; dsimp only [chain, List.foldl_cons, List.foldl_nil]
  repeat' split
  all_goals simp only [coreSteps_pending, modeApply_pending, bcastApply_pending]
theorem ackStep_pending (s : State) : (ackStep s).pending = s.pending := by
  simp only [ackStep, apply_ite State.pending, ite_self, ackApply_pending, newTrips_pending, shutdownDue_pending,
    implies_true]
theorem boundaryDue_pending (s : State) : (boundaryDue s).pending = s.pending := by
  simp only [boundaryDue, chain, List.foldl_cons, List.foldl_nil, apply_ite State.pending, ite_self,
    mirrorCycleDue_pending, inboxBusy_pending, standingDue_pending, shutdownDue_pending, portsDue_pending,
    threadsDue_pending, searchesDue_pending, boundsDue_pending, coreDue_pending, ackStep_pending, implies_true]
theorem slotDue_pending (s : State) : (slotDue s).pending = s.pending := by
  simp only [slotDue, chain, List.foldl_cons, List.foldl_nil, apply_ite State.pending, ite_self, judgeRest_pending,
    coreResetDue_pending, standingDue_pending, ackPinDue_pending, shutdownDue_pending, implies_true]
theorem stitchDue_pending (s : State) : (stitchDue s).pending = s.pending := by
  simp only [stitchDue, chain, List.foldl_cons, List.foldl_nil, apply_ite State.pending, ite_self, atNs_pending,
    patrolDue_pending, deadlineCheck_pending, snapCapture_pending, startMissed_pending, passCatch_pending,
    overrun_pending, coreResetDue_pending, boundaryDue_pending, slotDue_pending, implies_true]
theorem slotSamples_pending (i : SlotIn) (s : State) : (slotSamples i s).pending = s.pending := by
  simp only [slotSamples, apply_ite State.pending, ite_self]
theorem slotLevels_pending (i : SlotIn) (s : State) : (slotLevels i s).pending = s.pending := by
  simp only [slotLevels, chain, List.foldl_cons, List.foldl_nil, apply_ite State.pending, ite_self,
    ilimSlot_pending, tpSlot_pending, permitReadback_pending, ackSample_pending, buckSlot_pending, implies_true]
theorem slotBegin_pending (i : SlotIn) (s : State) : (slotBegin i s).pending = s.pending := by
  simp only [slotBegin, apply_ite State.pending, ite_self, switchSlot_pending, bstStep_pending, curRecord_pending,
    beaconWindow_pending, beaconForm_pending, headSend_pending, slotSamples_pending, implies_true]
theorem timeBoundary_pending (s : State) : (timeBoundary s).pending = s.pending := by
  simp only [timeBoundary]
theorem sltGap_pending (s : State) : (sltGap s).pending = s.pending := by
  simp only [sltGap, apply_ite State.pending, ite_self]
theorem closeStitch_pending (s : State) : (closeStitch s).pending = s.pending := by
  simp only [closeStitch, chain, List.foldl_cons, List.foldl_nil, impStep_pending, sltGap_pending, slvCountB_pending,
    balCount_pending, unitCount_pending]
theorem shiftMeas_pending (s : State) : (shiftMeas s).pending = s.pending := by
  simp only [shiftMeas, apply_ite State.pending, ite_self, complete_pending]
theorem snapPowers_pending (s : State) : (snapPowers s).pending = s.pending := rfl
theorem boundaryInputs_pending (i : BoundaryIn) (s : State) : (boundaryInputs i s).pending = s.pending := by
  cases h : i.copyB <;> simp only [boundaryInputs, h, apply_ite State.pending, ite_self, dieBoundary_pending,
    follow_pending, loadBoundary_pending, tripOwn_pending]
theorem boundaryCounts_pending (s : State) : (boundaryCounts s).pending = s.pending := by
  simp only [boundaryCounts, chain, List.foldl_cons, List.foldl_nil, apply_ite State.pending, ite_self,
    harnessCount_pending, curCount_pending, sltCountB_pending, patrolTick_pending, siBoundary_pending,
    snapBoundary_pending, buckBoundary_pending, probeBoundary_pending, answersReady_pending, snapAnswer_pending,
    implies_true]
theorem boundaryPack_pending (i : BoundaryIn) (s : State) : (boundaryPack i s).pending = s.pending := by
  simp only [boundaryPack, apply_ite State.pending, ite_self, linkBoundary_pending, idStep_pending,
    searchTick_pending, startTimes_pending, searchReturns_pending, degStep_pending, packJudge_pending, silentReact_pending]
theorem copyEval_pending (copy : Option CopyB) (s : State) : (copyEval copy s).pending = s.pending := by
  unfold copyEval; split <;> simp only [apply_ite State.pending, ite_self, tripOwn_pending, colEval_pending,
    colMerge_pending, integrityRaise_pending, implies_true]
theorem boundaryEval_pending (i : BoundaryIn) (s : State) : (boundaryEval i s).pending = s.pending := by
  simp only [boundaryEval, apply_ite State.pending, ite_self, bcastEarly_pending, copyEval_pending, implies_true]
theorem boundaryLatch_pending (i : BoundaryIn) (v s : State) : (boundaryLatch i v s).pending = s.pending := by
  simp only [boundaryLatch, apply_ite State.pending, ite_self, portOps_pending, recorderWrite_pending,
    cfgLatch_pending, pendBoundary_pending, boundaryEval_pending, implies_true]
theorem boundaryMode_pending (i : BoundaryIn) (s : State) : (boundaryMode i s).pending = s.pending := by
  simp only [boundaryMode, apply_ite State.pending, ite_self, sendStep_pending, passStep_pending,
    modeBegin_pending, calBoundary_pending]
theorem stitchBegin_pending (s : State) : (stitchBegin s).pending = s.pending := by
  simp only [stitchBegin, threadBegin_pending, mapFollow_pending,
    driveB_pending, packPermits_pending, chargerStop_pending, wakeEnds_pending, beginStitch_pending,
    snapPowers_pending, balThermal_pending, curPlan_pending]
theorem stitchStep_pending (i : BoundaryIn) (s : State) : (stitchStep i s).pending = s.pending := by
  simp only [stitchStep, apply_ite State.pending, ite_self, otpTick_pending, ackBoundary_pending, stitchDue_pending,
    timeBoundary_pending, closeStitch_pending, shiftMeas_pending, boundaryInputs_pending, boundaryCounts_pending,
    boundaryPack_pending, boundaryLatch_pending, boundaryMode_pending, stitchBegin_pending, implies_true]
theorem stitchIdle_pending (i : BoundaryIn) (s : State) : (stitchIdle i s).pending = s.pending := by
  simp only [stitchIdle, apply_ite State.pending, ite_self, dieBoundary_pending, srcFollow_pending,
    wakeEnds_pending, timeBoundary_pending, implies_true]
end Sys2Proof.Machine
end

