-- ==== Sys2Proof/Laws/State.lean ====
section
/-! SUPPORT. The shared operations of Machine/Ops.lean field by field: what each leaves as it was, and what each makes of
the fields it writes. Proofs about commands rewrite with these and unfold no record update. -/

namespace Sys2Proof.Machine

/-! ### settle -/

@[simp] theorem settle_cfgW (s : State) : (settle s).cfgW = s.cfgW := rfl
@[simp] theorem settle_cfg (s : State) : (settle s).cfg = s.cfg := rfl
@[simp] theorem settle_pgErr (s : State) : (settle s).pgErr = s.pgErr := rfl
@[simp] theorem settle_fact (s : State) : (settle s).fact = s.fact := rfl
@[simp] theorem settle_sys (s : State) : (settle s).sys = s.sys := rfl
@[simp] theorem settle_time (s : State) : (settle s).time = s.time := rfl
@[simp] theorem settle_host (s : State) : (settle s).host = s.host := rfl
@[simp] theorem settle_dev (s : State) : (settle s).dev = s.dev := rfl
@[simp] theorem settle_link (s : State) : (settle s).link = s.link := rfl
@[simp] theorem settle_enum (s : State) : (settle s).enum = s.enum := rfl
@[simp] theorem settle_mirr (s : State) : (settle s).mirr = s.mirr := rfl
@[simp] theorem settle_meas (s : State) : (settle s).meas = s.meas := rfl
@[simp] theorem settle_cur (s : State) : (settle s).cur = s.cur := rfl
@[simp] theorem settle_imp (s : State) : (settle s).imp = s.imp := rfl
@[simp] theorem settle_temp (s : State) : (settle s).temp = s.temp := rfl
@[simp] theorem settle_thrm (s : State) : (settle s).thrm = s.thrm := rfl
@[simp] theorem settle_bal (s : State) : (settle s).bal = s.bal := rfl
@[simp] theorem settle_diag (s : State) : (settle s).diag = s.diag := rfl
@[simp] theorem settle_cal (s : State) : (settle s).cal = s.cal := rfl
@[simp] theorem settle_sio (s : State) : (settle s).sio = s.sio := rfl
@[simp] theorem settle_col (s : State) : (settle s).col = s.col := rfl
@[simp] theorem settle_bob (s : State) : (settle s).bob = s.bob := rfl
@[simp] theorem settle_pwr (s : State) : (settle s).pwr = s.pwr := rfl
@[simp] theorem settle_otp (s : State) : (settle s).otp = s.otp := rfl
@[simp] theorem settle_jrnl (s : State) : (settle s).jrnl = s.jrnl := rfl
@[simp] theorem settle_free (s : State) : (settle s).free = s.free := rfl

/-! ### driveA -/

@[simp] theorem driveA_cfgW (s : State) : (driveA s).cfgW = s.cfgW := rfl
@[simp] theorem driveA_cfg (s : State) : (driveA s).cfg = s.cfg := rfl
@[simp] theorem driveA_pgErr (s : State) : (driveA s).pgErr = s.pgErr := rfl
@[simp] theorem driveA_fact (s : State) : (driveA s).fact = s.fact := rfl
@[simp] theorem driveA_sys (s : State) : (driveA s).sys = s.sys := rfl
@[simp] theorem driveA_time (s : State) : (driveA s).time = s.time := rfl
@[simp] theorem driveA_host (s : State) : (driveA s).host = s.host := rfl
@[simp] theorem driveA_dev (s : State) : (driveA s).dev = s.dev := rfl
@[simp] theorem driveA_link (s : State) : (driveA s).link = s.link := rfl
@[simp] theorem driveA_enum (s : State) : (driveA s).enum = s.enum := rfl
@[simp] theorem driveA_mirr (s : State) : (driveA s).mirr = s.mirr := rfl
@[simp] theorem driveA_meas (s : State) : (driveA s).meas = s.meas := rfl
@[simp] theorem driveA_cur (s : State) : (driveA s).cur = s.cur := rfl
@[simp] theorem driveA_imp (s : State) : (driveA s).imp = s.imp := rfl
@[simp] theorem driveA_temp (s : State) : (driveA s).temp = s.temp := rfl
@[simp] theorem driveA_thrm (s : State) : (driveA s).thrm = s.thrm := rfl
@[simp] theorem driveA_bal (s : State) : (driveA s).bal = s.bal := rfl
@[simp] theorem driveA_diag (s : State) : (driveA s).diag = s.diag := rfl
@[simp] theorem driveA_cal (s : State) : (driveA s).cal = s.cal := rfl
@[simp] theorem driveA_sio (s : State) : (driveA s).sio = s.sio := rfl
@[simp] theorem driveA_col (s : State) : (driveA s).col = s.col := rfl
@[simp] theorem driveA_bob (s : State) : (driveA s).bob = s.bob := rfl
@[simp] theorem driveA_pwr (s : State) : (driveA s).pwr = s.pwr := rfl
@[simp] theorem driveA_otp (s : State) : (driveA s).otp = s.otp := rfl
@[simp] theorem driveA_jrnl (s : State) : (driveA s).jrnl = s.jrnl := rfl
@[simp] theorem driveA_free (s : State) : (driveA s).free = s.free := rfl

/-! ### driveB -/

@[simp] theorem driveB_cfgW (s : State) : (driveB s).cfgW = s.cfgW := rfl
@[simp] theorem driveB_cfg (s : State) : (driveB s).cfg = s.cfg := rfl
@[simp] theorem driveB_pgErr (s : State) : (driveB s).pgErr = s.pgErr := rfl
@[simp] theorem driveB_fact (s : State) : (driveB s).fact = s.fact := rfl
@[simp] theorem driveB_sys (s : State) : (driveB s).sys = s.sys := rfl
@[simp] theorem driveB_time (s : State) : (driveB s).time = s.time := rfl
@[simp] theorem driveB_host (s : State) : (driveB s).host = s.host := rfl
@[simp] theorem driveB_dev (s : State) : (driveB s).dev = s.dev := rfl
@[simp] theorem driveB_link (s : State) : (driveB s).link = s.link := rfl
@[simp] theorem driveB_enum (s : State) : (driveB s).enum = s.enum := rfl
@[simp] theorem driveB_mirr (s : State) : (driveB s).mirr = s.mirr := rfl
@[simp] theorem driveB_meas (s : State) : (driveB s).meas = s.meas := rfl
@[simp] theorem driveB_cur (s : State) : (driveB s).cur = s.cur := rfl
@[simp] theorem driveB_imp (s : State) : (driveB s).imp = s.imp := rfl
@[simp] theorem driveB_temp (s : State) : (driveB s).temp = s.temp := rfl
@[simp] theorem driveB_thrm (s : State) : (driveB s).thrm = s.thrm := rfl
@[simp] theorem driveB_bal (s : State) : (driveB s).bal = s.bal := rfl
@[simp] theorem driveB_diag (s : State) : (driveB s).diag = s.diag := rfl
@[simp] theorem driveB_cal (s : State) : (driveB s).cal = s.cal := rfl
@[simp] theorem driveB_sio (s : State) : (driveB s).sio = s.sio := rfl
@[simp] theorem driveB_col (s : State) : (driveB s).col = s.col := rfl
@[simp] theorem driveB_bob (s : State) : (driveB s).bob = s.bob := rfl
@[simp] theorem driveB_pwr (s : State) : (driveB s).pwr = s.pwr := rfl
@[simp] theorem driveB_otp (s : State) : (driveB s).otp = s.otp := rfl
@[simp] theorem driveB_jrnl (s : State) : (driveB s).jrnl = s.jrnl := rfl
@[simp] theorem driveB_free (s : State) : (driveB s).free = s.free := rfl

/-! ### raise -/

@[simp] theorem raise_cfgW (n : Nat) (s : State) : (raise n s).cfgW = s.cfgW := rfl
@[simp] theorem raise_cfg (n : Nat) (s : State) : (raise n s).cfg = s.cfg := rfl
@[simp] theorem raise_pgErr (n : Nat) (s : State) : (raise n s).pgErr = s.pgErr := rfl
@[simp] theorem raise_fact (n : Nat) (s : State) : (raise n s).fact = s.fact := rfl
@[simp] theorem raise_sys (n : Nat) (s : State) : (raise n s).sys = s.sys := rfl
@[simp] theorem raise_time (n : Nat) (s : State) : (raise n s).time = s.time := rfl
@[simp] theorem raise_host (n : Nat) (s : State) : (raise n s).host = s.host := rfl
@[simp] theorem raise_dev (n : Nat) (s : State) : (raise n s).dev = s.dev := rfl
@[simp] theorem raise_link (n : Nat) (s : State) : (raise n s).link = s.link := rfl
@[simp] theorem raise_enum (n : Nat) (s : State) : (raise n s).enum = s.enum := rfl
@[simp] theorem raise_mirr (n : Nat) (s : State) : (raise n s).mirr = s.mirr := rfl
@[simp] theorem raise_meas (n : Nat) (s : State) : (raise n s).meas = s.meas := rfl
@[simp] theorem raise_cur (n : Nat) (s : State) : (raise n s).cur = s.cur := rfl
@[simp] theorem raise_imp (n : Nat) (s : State) : (raise n s).imp = s.imp := rfl
@[simp] theorem raise_temp (n : Nat) (s : State) : (raise n s).temp = s.temp := rfl
@[simp] theorem raise_thrm (n : Nat) (s : State) : (raise n s).thrm = s.thrm := rfl
@[simp] theorem raise_bal (n : Nat) (s : State) : (raise n s).bal = s.bal := rfl
@[simp] theorem raise_diag (n : Nat) (s : State) : (raise n s).diag = s.diag := rfl
@[simp] theorem raise_cal (n : Nat) (s : State) : (raise n s).cal = s.cal := rfl
@[simp] theorem raise_safe (n : Nat) (s : State) : (raise n s).safe = s.safe := rfl
@[simp] theorem raise_sio (n : Nat) (s : State) : (raise n s).sio = s.sio := rfl
@[simp] theorem raise_bob (n : Nat) (s : State) : (raise n s).bob = s.bob := rfl
@[simp] theorem raise_pwr (n : Nat) (s : State) : (raise n s).pwr = s.pwr := rfl
@[simp] theorem raise_otp (n : Nat) (s : State) : (raise n s).otp = s.otp := rfl
@[simp] theorem raise_jrnl (n : Nat) (s : State) : (raise n s).jrnl = s.jrnl := rfl
@[simp] theorem raise_free (n : Nat) (s : State) : (raise n s).free = s.free := rfl

/-! ### raiseCells -/

@[simp] theorem raiseCells_cfgW (n : Nat) (m : Word) (s : State) : (raiseCells n m s).cfgW = s.cfgW := rfl
@[simp] theorem raiseCells_cfg (n : Nat) (m : Word) (s : State) : (raiseCells n m s).cfg = s.cfg := rfl
@[simp] theorem raiseCells_pgErr (n : Nat) (m : Word) (s : State) : (raiseCells n m s).pgErr = s.pgErr := rfl
@[simp] theorem raiseCells_fact (n : Nat) (m : Word) (s : State) : (raiseCells n m s).fact = s.fact := rfl
@[simp] theorem raiseCells_sys (n : Nat) (m : Word) (s : State) : (raiseCells n m s).sys = s.sys := rfl
@[simp] theorem raiseCells_time (n : Nat) (m : Word) (s : State) : (raiseCells n m s).time = s.time := rfl
@[simp] theorem raiseCells_host (n : Nat) (m : Word) (s : State) : (raiseCells n m s).host = s.host := rfl
@[simp] theorem raiseCells_dev (n : Nat) (m : Word) (s : State) : (raiseCells n m s).dev = s.dev := rfl
@[simp] theorem raiseCells_link (n : Nat) (m : Word) (s : State) : (raiseCells n m s).link = s.link := rfl
@[simp] theorem raiseCells_enum (n : Nat) (m : Word) (s : State) : (raiseCells n m s).enum = s.enum := rfl
@[simp] theorem raiseCells_mirr (n : Nat) (m : Word) (s : State) : (raiseCells n m s).mirr = s.mirr := rfl
@[simp] theorem raiseCells_meas (n : Nat) (m : Word) (s : State) : (raiseCells n m s).meas = s.meas := rfl
@[simp] theorem raiseCells_cur (n : Nat) (m : Word) (s : State) : (raiseCells n m s).cur = s.cur := rfl
@[simp] theorem raiseCells_imp (n : Nat) (m : Word) (s : State) : (raiseCells n m s).imp = s.imp := rfl
@[simp] theorem raiseCells_temp (n : Nat) (m : Word) (s : State) : (raiseCells n m s).temp = s.temp := rfl
@[simp] theorem raiseCells_thrm (n : Nat) (m : Word) (s : State) : (raiseCells n m s).thrm = s.thrm := rfl
@[simp] theorem raiseCells_bal (n : Nat) (m : Word) (s : State) : (raiseCells n m s).bal = s.bal := rfl
@[simp] theorem raiseCells_diag (n : Nat) (m : Word) (s : State) : (raiseCells n m s).diag = s.diag := rfl
@[simp] theorem raiseCells_cal (n : Nat) (m : Word) (s : State) : (raiseCells n m s).cal = s.cal := rfl
@[simp] theorem raiseCells_safe (n : Nat) (m : Word) (s : State) : (raiseCells n m s).safe = s.safe := rfl
@[simp] theorem raiseCells_sio (n : Nat) (m : Word) (s : State) : (raiseCells n m s).sio = s.sio := rfl
@[simp] theorem raiseCells_bob (n : Nat) (m : Word) (s : State) : (raiseCells n m s).bob = s.bob := rfl
@[simp] theorem raiseCells_pwr (n : Nat) (m : Word) (s : State) : (raiseCells n m s).pwr = s.pwr := rfl
@[simp] theorem raiseCells_otp (n : Nat) (m : Word) (s : State) : (raiseCells n m s).otp = s.otp := rfl
@[simp] theorem raiseCells_jrnl (n : Nat) (m : Word) (s : State) : (raiseCells n m s).jrnl = s.jrnl := rfl
@[simp] theorem raiseCells_free (n : Nat) (m : Word) (s : State) : (raiseCells n m s).free = s.free := rfl

/-! ### raiseIf -/

@[simp] theorem raiseIf_cfgW (b : Bool) (n : Nat) (s : State) : (raiseIf b n s).cfgW = s.cfgW := rfl
@[simp] theorem raiseIf_cfg (b : Bool) (n : Nat) (s : State) : (raiseIf b n s).cfg = s.cfg := rfl
@[simp] theorem raiseIf_pgErr (b : Bool) (n : Nat) (s : State) : (raiseIf b n s).pgErr = s.pgErr := rfl
@[simp] theorem raiseIf_fact (b : Bool) (n : Nat) (s : State) : (raiseIf b n s).fact = s.fact := rfl
@[simp] theorem raiseIf_sys (b : Bool) (n : Nat) (s : State) : (raiseIf b n s).sys = s.sys := rfl
@[simp] theorem raiseIf_time (b : Bool) (n : Nat) (s : State) : (raiseIf b n s).time = s.time := rfl
@[simp] theorem raiseIf_host (b : Bool) (n : Nat) (s : State) : (raiseIf b n s).host = s.host := rfl
@[simp] theorem raiseIf_dev (b : Bool) (n : Nat) (s : State) : (raiseIf b n s).dev = s.dev := rfl
@[simp] theorem raiseIf_link (b : Bool) (n : Nat) (s : State) : (raiseIf b n s).link = s.link := rfl
@[simp] theorem raiseIf_enum (b : Bool) (n : Nat) (s : State) : (raiseIf b n s).enum = s.enum := rfl
@[simp] theorem raiseIf_mirr (b : Bool) (n : Nat) (s : State) : (raiseIf b n s).mirr = s.mirr := rfl
@[simp] theorem raiseIf_meas (b : Bool) (n : Nat) (s : State) : (raiseIf b n s).meas = s.meas := rfl
@[simp] theorem raiseIf_cur (b : Bool) (n : Nat) (s : State) : (raiseIf b n s).cur = s.cur := rfl
@[simp] theorem raiseIf_imp (b : Bool) (n : Nat) (s : State) : (raiseIf b n s).imp = s.imp := rfl
@[simp] theorem raiseIf_temp (b : Bool) (n : Nat) (s : State) : (raiseIf b n s).temp = s.temp := rfl
@[simp] theorem raiseIf_thrm (b : Bool) (n : Nat) (s : State) : (raiseIf b n s).thrm = s.thrm := rfl
@[simp] theorem raiseIf_bal (b : Bool) (n : Nat) (s : State) : (raiseIf b n s).bal = s.bal := rfl
@[simp] theorem raiseIf_diag (b : Bool) (n : Nat) (s : State) : (raiseIf b n s).diag = s.diag := rfl
@[simp] theorem raiseIf_cal (b : Bool) (n : Nat) (s : State) : (raiseIf b n s).cal = s.cal := rfl
@[simp] theorem raiseIf_safe (b : Bool) (n : Nat) (s : State) : (raiseIf b n s).safe = s.safe := rfl
@[simp] theorem raiseIf_sio (b : Bool) (n : Nat) (s : State) : (raiseIf b n s).sio = s.sio := rfl
@[simp] theorem raiseIf_bob (b : Bool) (n : Nat) (s : State) : (raiseIf b n s).bob = s.bob := rfl
@[simp] theorem raiseIf_pwr (b : Bool) (n : Nat) (s : State) : (raiseIf b n s).pwr = s.pwr := rfl
@[simp] theorem raiseIf_otp (b : Bool) (n : Nat) (s : State) : (raiseIf b n s).otp = s.otp := rfl
@[simp] theorem raiseIf_jrnl (b : Bool) (n : Nat) (s : State) : (raiseIf b n s).jrnl = s.jrnl := rfl
@[simp] theorem raiseIf_free (b : Bool) (n : Nat) (s : State) : (raiseIf b n s).free = s.free := rfl

/-! ### raiseCtx -/

@[simp] theorem raiseCtx_cfgW (n : Nat) (x : FerCtx) (s : State) : (raiseCtx n x s).cfgW = s.cfgW := rfl
@[simp] theorem raiseCtx_cfg (n : Nat) (x : FerCtx) (s : State) : (raiseCtx n x s).cfg = s.cfg := rfl
@[simp] theorem raiseCtx_pgErr (n : Nat) (x : FerCtx) (s : State) : (raiseCtx n x s).pgErr = s.pgErr := rfl
@[simp] theorem raiseCtx_fact (n : Nat) (x : FerCtx) (s : State) : (raiseCtx n x s).fact = s.fact := rfl
@[simp] theorem raiseCtx_sys (n : Nat) (x : FerCtx) (s : State) : (raiseCtx n x s).sys = s.sys := rfl
@[simp] theorem raiseCtx_time (n : Nat) (x : FerCtx) (s : State) : (raiseCtx n x s).time = s.time := rfl
@[simp] theorem raiseCtx_host (n : Nat) (x : FerCtx) (s : State) : (raiseCtx n x s).host = s.host := rfl
@[simp] theorem raiseCtx_dev (n : Nat) (x : FerCtx) (s : State) : (raiseCtx n x s).dev = s.dev := rfl
@[simp] theorem raiseCtx_link (n : Nat) (x : FerCtx) (s : State) : (raiseCtx n x s).link = s.link := rfl
@[simp] theorem raiseCtx_enum (n : Nat) (x : FerCtx) (s : State) : (raiseCtx n x s).enum = s.enum := rfl
@[simp] theorem raiseCtx_mirr (n : Nat) (x : FerCtx) (s : State) : (raiseCtx n x s).mirr = s.mirr := rfl
@[simp] theorem raiseCtx_meas (n : Nat) (x : FerCtx) (s : State) : (raiseCtx n x s).meas = s.meas := rfl
@[simp] theorem raiseCtx_cur (n : Nat) (x : FerCtx) (s : State) : (raiseCtx n x s).cur = s.cur := rfl
@[simp] theorem raiseCtx_imp (n : Nat) (x : FerCtx) (s : State) : (raiseCtx n x s).imp = s.imp := rfl
@[simp] theorem raiseCtx_temp (n : Nat) (x : FerCtx) (s : State) : (raiseCtx n x s).temp = s.temp := rfl
@[simp] theorem raiseCtx_thrm (n : Nat) (x : FerCtx) (s : State) : (raiseCtx n x s).thrm = s.thrm := rfl
@[simp] theorem raiseCtx_bal (n : Nat) (x : FerCtx) (s : State) : (raiseCtx n x s).bal = s.bal := rfl
@[simp] theorem raiseCtx_diag (n : Nat) (x : FerCtx) (s : State) : (raiseCtx n x s).diag = s.diag := rfl
@[simp] theorem raiseCtx_cal (n : Nat) (x : FerCtx) (s : State) : (raiseCtx n x s).cal = s.cal := rfl
@[simp] theorem raiseCtx_safe (n : Nat) (x : FerCtx) (s : State) : (raiseCtx n x s).safe = s.safe := rfl
@[simp] theorem raiseCtx_sio (n : Nat) (x : FerCtx) (s : State) : (raiseCtx n x s).sio = s.sio := rfl
@[simp] theorem raiseCtx_bob (n : Nat) (x : FerCtx) (s : State) : (raiseCtx n x s).bob = s.bob := rfl
@[simp] theorem raiseCtx_pwr (n : Nat) (x : FerCtx) (s : State) : (raiseCtx n x s).pwr = s.pwr := rfl
@[simp] theorem raiseCtx_otp (n : Nat) (x : FerCtx) (s : State) : (raiseCtx n x s).otp = s.otp := rfl
@[simp] theorem raiseCtx_jrnl (n : Nat) (x : FerCtx) (s : State) : (raiseCtx n x s).jrnl = s.jrnl := rfl
@[simp] theorem raiseCtx_free (n : Nat) (x : FerCtx) (s : State) : (raiseCtx n x s).free = s.free := rfl

/-! ### stand -/

@[simp] theorem stand_cfgW (n : Nat) (b : Bool) (s : State) : (stand n b s).cfgW = s.cfgW := rfl
@[simp] theorem stand_cfg (n : Nat) (b : Bool) (s : State) : (stand n b s).cfg = s.cfg := rfl
@[simp] theorem stand_pgErr (n : Nat) (b : Bool) (s : State) : (stand n b s).pgErr = s.pgErr := rfl
@[simp] theorem stand_fact (n : Nat) (b : Bool) (s : State) : (stand n b s).fact = s.fact := rfl
@[simp] theorem stand_sys (n : Nat) (b : Bool) (s : State) : (stand n b s).sys = s.sys := rfl
@[simp] theorem stand_time (n : Nat) (b : Bool) (s : State) : (stand n b s).time = s.time := rfl
@[simp] theorem stand_host (n : Nat) (b : Bool) (s : State) : (stand n b s).host = s.host := rfl
@[simp] theorem stand_dev (n : Nat) (b : Bool) (s : State) : (stand n b s).dev = s.dev := rfl
@[simp] theorem stand_link (n : Nat) (b : Bool) (s : State) : (stand n b s).link = s.link := rfl
@[simp] theorem stand_enum (n : Nat) (b : Bool) (s : State) : (stand n b s).enum = s.enum := rfl
@[simp] theorem stand_mirr (n : Nat) (b : Bool) (s : State) : (stand n b s).mirr = s.mirr := rfl
@[simp] theorem stand_meas (n : Nat) (b : Bool) (s : State) : (stand n b s).meas = s.meas := rfl
@[simp] theorem stand_cur (n : Nat) (b : Bool) (s : State) : (stand n b s).cur = s.cur := rfl
@[simp] theorem stand_imp (n : Nat) (b : Bool) (s : State) : (stand n b s).imp = s.imp := rfl
@[simp] theorem stand_temp (n : Nat) (b : Bool) (s : State) : (stand n b s).temp = s.temp := rfl
@[simp] theorem stand_thrm (n : Nat) (b : Bool) (s : State) : (stand n b s).thrm = s.thrm := rfl
@[simp] theorem stand_bal (n : Nat) (b : Bool) (s : State) : (stand n b s).bal = s.bal := rfl
@[simp] theorem stand_diag (n : Nat) (b : Bool) (s : State) : (stand n b s).diag = s.diag := rfl
@[simp] theorem stand_cal (n : Nat) (b : Bool) (s : State) : (stand n b s).cal = s.cal := rfl
@[simp] theorem stand_safe (n : Nat) (b : Bool) (s : State) : (stand n b s).safe = s.safe := rfl
@[simp] theorem stand_sio (n : Nat) (b : Bool) (s : State) : (stand n b s).sio = s.sio := rfl
@[simp] theorem stand_bob (n : Nat) (b : Bool) (s : State) : (stand n b s).bob = s.bob := rfl
@[simp] theorem stand_pwr (n : Nat) (b : Bool) (s : State) : (stand n b s).pwr = s.pwr := rfl
@[simp] theorem stand_otp (n : Nat) (b : Bool) (s : State) : (stand n b s).otp = s.otp := rfl
@[simp] theorem stand_jrnl (n : Nat) (b : Bool) (s : State) : (stand n b s).jrnl = s.jrnl := rfl
@[simp] theorem stand_free (n : Nat) (b : Bool) (s : State) : (stand n b s).free = s.free := rfl

/-! ### standCells -/

@[simp] theorem standCells_cfgW (n : Nat) (b : Bool) (m : Word) (s : State) : (standCells n b m s).cfgW = s.cfgW := rfl
@[simp] theorem standCells_cfg (n : Nat) (b : Bool) (m : Word) (s : State) : (standCells n b m s).cfg = s.cfg := rfl
@[simp] theorem standCells_pgErr (n : Nat) (b : Bool) (m : Word) (s : State) : (standCells n b m s).pgErr = s.pgErr := rfl
@[simp] theorem standCells_fact (n : Nat) (b : Bool) (m : Word) (s : State) : (standCells n b m s).fact = s.fact := rfl
@[simp] theorem standCells_sys (n : Nat) (b : Bool) (m : Word) (s : State) : (standCells n b m s).sys = s.sys := rfl
@[simp] theorem standCells_time (n : Nat) (b : Bool) (m : Word) (s : State) : (standCells n b m s).time = s.time := rfl
@[simp] theorem standCells_host (n : Nat) (b : Bool) (m : Word) (s : State) : (standCells n b m s).host = s.host := rfl
@[simp] theorem standCells_dev (n : Nat) (b : Bool) (m : Word) (s : State) : (standCells n b m s).dev = s.dev := rfl
@[simp] theorem standCells_link (n : Nat) (b : Bool) (m : Word) (s : State) : (standCells n b m s).link = s.link := rfl
@[simp] theorem standCells_enum (n : Nat) (b : Bool) (m : Word) (s : State) : (standCells n b m s).enum = s.enum := rfl
@[simp] theorem standCells_mirr (n : Nat) (b : Bool) (m : Word) (s : State) : (standCells n b m s).mirr = s.mirr := rfl
@[simp] theorem standCells_meas (n : Nat) (b : Bool) (m : Word) (s : State) : (standCells n b m s).meas = s.meas := rfl
@[simp] theorem standCells_cur (n : Nat) (b : Bool) (m : Word) (s : State) : (standCells n b m s).cur = s.cur := rfl
@[simp] theorem standCells_imp (n : Nat) (b : Bool) (m : Word) (s : State) : (standCells n b m s).imp = s.imp := rfl
@[simp] theorem standCells_temp (n : Nat) (b : Bool) (m : Word) (s : State) : (standCells n b m s).temp = s.temp := rfl
@[simp] theorem standCells_thrm (n : Nat) (b : Bool) (m : Word) (s : State) : (standCells n b m s).thrm = s.thrm := rfl
@[simp] theorem standCells_bal (n : Nat) (b : Bool) (m : Word) (s : State) : (standCells n b m s).bal = s.bal := rfl
@[simp] theorem standCells_diag (n : Nat) (b : Bool) (m : Word) (s : State) : (standCells n b m s).diag = s.diag := rfl
@[simp] theorem standCells_cal (n : Nat) (b : Bool) (m : Word) (s : State) : (standCells n b m s).cal = s.cal := rfl
@[simp] theorem standCells_safe (n : Nat) (b : Bool) (m : Word) (s : State) : (standCells n b m s).safe = s.safe := rfl
@[simp] theorem standCells_sio (n : Nat) (b : Bool) (m : Word) (s : State) : (standCells n b m s).sio = s.sio := rfl
@[simp] theorem standCells_bob (n : Nat) (b : Bool) (m : Word) (s : State) : (standCells n b m s).bob = s.bob := rfl
@[simp] theorem standCells_pwr (n : Nat) (b : Bool) (m : Word) (s : State) : (standCells n b m s).pwr = s.pwr := rfl
@[simp] theorem standCells_otp (n : Nat) (b : Bool) (m : Word) (s : State) : (standCells n b m s).otp = s.otp := rfl
@[simp] theorem standCells_jrnl (n : Nat) (b : Bool) (m : Word) (s : State) : (standCells n b m s).jrnl = s.jrnl := rfl
@[simp] theorem standCells_free (n : Nat) (b : Bool) (m : Word) (s : State) : (standCells n b m s).free = s.free := rfl

/-! ### trip -/

@[simp] theorem trip_cfgW (v : Safety) (f : BitVec 8) (a b : Bool) (o : BitVec 6) (w : Bool) (s : State) : (trip v f a b o w s).cfgW = s.cfgW := rfl
@[simp] theorem trip_cfg (v : Safety) (f : BitVec 8) (a b : Bool) (o : BitVec 6) (w : Bool) (s : State) : (trip v f a b o w s).cfg = s.cfg := rfl
@[simp] theorem trip_pgErr (v : Safety) (f : BitVec 8) (a b : Bool) (o : BitVec 6) (w : Bool) (s : State) : (trip v f a b o w s).pgErr = s.pgErr := rfl
@[simp] theorem trip_fact (v : Safety) (f : BitVec 8) (a b : Bool) (o : BitVec 6) (w : Bool) (s : State) : (trip v f a b o w s).fact = s.fact := rfl
@[simp] theorem trip_sys (v : Safety) (f : BitVec 8) (a b : Bool) (o : BitVec 6) (w : Bool) (s : State) : (trip v f a b o w s).sys = s.sys := rfl
@[simp] theorem trip_time (v : Safety) (f : BitVec 8) (a b : Bool) (o : BitVec 6) (w : Bool) (s : State) : (trip v f a b o w s).time = s.time := rfl
@[simp] theorem trip_host (v : Safety) (f : BitVec 8) (a b : Bool) (o : BitVec 6) (w : Bool) (s : State) : (trip v f a b o w s).host = s.host := rfl
@[simp] theorem trip_dev (v : Safety) (f : BitVec 8) (a b : Bool) (o : BitVec 6) (w : Bool) (s : State) : (trip v f a b o w s).dev = s.dev := rfl
@[simp] theorem trip_enum (v : Safety) (f : BitVec 8) (a b : Bool) (o : BitVec 6) (w : Bool) (s : State) : (trip v f a b o w s).enum = s.enum := rfl
@[simp] theorem trip_mirr (v : Safety) (f : BitVec 8) (a b : Bool) (o : BitVec 6) (w : Bool) (s : State) : (trip v f a b o w s).mirr = s.mirr := rfl
@[simp] theorem trip_meas (v : Safety) (f : BitVec 8) (a b : Bool) (o : BitVec 6) (w : Bool) (s : State) : (trip v f a b o w s).meas = s.meas := rfl
@[simp] theorem trip_cur (v : Safety) (f : BitVec 8) (a b : Bool) (o : BitVec 6) (w : Bool) (s : State) : (trip v f a b o w s).cur = s.cur := rfl
@[simp] theorem trip_imp (v : Safety) (f : BitVec 8) (a b : Bool) (o : BitVec 6) (w : Bool) (s : State) : (trip v f a b o w s).imp = s.imp := rfl
@[simp] theorem trip_temp (v : Safety) (f : BitVec 8) (a b : Bool) (o : BitVec 6) (w : Bool) (s : State) : (trip v f a b o w s).temp = s.temp := rfl
@[simp] theorem trip_thrm (v : Safety) (f : BitVec 8) (a b : Bool) (o : BitVec 6) (w : Bool) (s : State) : (trip v f a b o w s).thrm = s.thrm := rfl
@[simp] theorem trip_bal (v : Safety) (f : BitVec 8) (a b : Bool) (o : BitVec 6) (w : Bool) (s : State) : (trip v f a b o w s).bal = s.bal := rfl
@[simp] theorem trip_diag (v : Safety) (f : BitVec 8) (a b : Bool) (o : BitVec 6) (w : Bool) (s : State) : (trip v f a b o w s).diag = s.diag := rfl
@[simp] theorem trip_cal (v : Safety) (f : BitVec 8) (a b : Bool) (o : BitVec 6) (w : Bool) (s : State) : (trip v f a b o w s).cal = s.cal := rfl
@[simp] theorem trip_sio (v : Safety) (f : BitVec 8) (a b : Bool) (o : BitVec 6) (w : Bool) (s : State) : (trip v f a b o w s).sio = s.sio := rfl
@[simp] theorem trip_col (v : Safety) (f : BitVec 8) (a b : Bool) (o : BitVec 6) (w : Bool) (s : State) : (trip v f a b o w s).col = s.col := rfl
@[simp] theorem trip_pwr (v : Safety) (f : BitVec 8) (a b : Bool) (o : BitVec 6) (w : Bool) (s : State) : (trip v f a b o w s).pwr = s.pwr := rfl
@[simp] theorem trip_otp (v : Safety) (f : BitVec 8) (a b : Bool) (o : BitVec 6) (w : Bool) (s : State) : (trip v f a b o w s).otp = s.otp := rfl
@[simp] theorem trip_jrnl (v : Safety) (f : BitVec 8) (a b : Bool) (o : BitVec 6) (w : Bool) (s : State) : (trip v f a b o w s).jrnl = s.jrnl := rfl
@[simp] theorem trip_free (v : Safety) (f : BitVec 8) (a b : Bool) (o : BitVec 6) (w : Bool) (s : State) : (trip v f a b o w s).free = s.free := rfl

/-! ### tripOwn -/

@[simp] theorem tripOwn_cfgW (f : BitVec 8) (a b : Bool) (s : State) : (tripOwn f a b s).cfgW = s.cfgW := rfl
@[simp] theorem tripOwn_cfg (f : BitVec 8) (a b : Bool) (s : State) : (tripOwn f a b s).cfg = s.cfg := rfl
@[simp] theorem tripOwn_pgErr (f : BitVec 8) (a b : Bool) (s : State) : (tripOwn f a b s).pgErr = s.pgErr := rfl
@[simp] theorem tripOwn_fact (f : BitVec 8) (a b : Bool) (s : State) : (tripOwn f a b s).fact = s.fact := rfl
@[simp] theorem tripOwn_sys (f : BitVec 8) (a b : Bool) (s : State) : (tripOwn f a b s).sys = s.sys := rfl
@[simp] theorem tripOwn_time (f : BitVec 8) (a b : Bool) (s : State) : (tripOwn f a b s).time = s.time := rfl
@[simp] theorem tripOwn_host (f : BitVec 8) (a b : Bool) (s : State) : (tripOwn f a b s).host = s.host := rfl
@[simp] theorem tripOwn_dev (f : BitVec 8) (a b : Bool) (s : State) : (tripOwn f a b s).dev = s.dev := rfl
@[simp] theorem tripOwn_enum (f : BitVec 8) (a b : Bool) (s : State) : (tripOwn f a b s).enum = s.enum := rfl
@[simp] theorem tripOwn_mirr (f : BitVec 8) (a b : Bool) (s : State) : (tripOwn f a b s).mirr = s.mirr := rfl
@[simp] theorem tripOwn_meas (f : BitVec 8) (a b : Bool) (s : State) : (tripOwn f a b s).meas = s.meas := rfl
@[simp] theorem tripOwn_cur (f : BitVec 8) (a b : Bool) (s : State) : (tripOwn f a b s).cur = s.cur := rfl
@[simp] theorem tripOwn_imp (f : BitVec 8) (a b : Bool) (s : State) : (tripOwn f a b s).imp = s.imp := rfl
@[simp] theorem tripOwn_temp (f : BitVec 8) (a b : Bool) (s : State) : (tripOwn f a b s).temp = s.temp := rfl
@[simp] theorem tripOwn_thrm (f : BitVec 8) (a b : Bool) (s : State) : (tripOwn f a b s).thrm = s.thrm := rfl
@[simp] theorem tripOwn_bal (f : BitVec 8) (a b : Bool) (s : State) : (tripOwn f a b s).bal = s.bal := rfl
@[simp] theorem tripOwn_diag (f : BitVec 8) (a b : Bool) (s : State) : (tripOwn f a b s).diag = s.diag := rfl
@[simp] theorem tripOwn_cal (f : BitVec 8) (a b : Bool) (s : State) : (tripOwn f a b s).cal = s.cal := rfl
@[simp] theorem tripOwn_sio (f : BitVec 8) (a b : Bool) (s : State) : (tripOwn f a b s).sio = s.sio := rfl
@[simp] theorem tripOwn_col (f : BitVec 8) (a b : Bool) (s : State) : (tripOwn f a b s).col = s.col := rfl
@[simp] theorem tripOwn_pwr (f : BitVec 8) (a b : Bool) (s : State) : (tripOwn f a b s).pwr = s.pwr := rfl
@[simp] theorem tripOwn_otp (f : BitVec 8) (a b : Bool) (s : State) : (tripOwn f a b s).otp = s.otp := rfl
@[simp] theorem tripOwn_jrnl (f : BitVec 8) (a b : Bool) (s : State) : (tripOwn f a b s).jrnl = s.jrnl := rfl
@[simp] theorem tripOwn_free (f : BitVec 8) (a b : Bool) (s : State) : (tripOwn f a b s).free = s.free := rfl

/-! ### jreq -/

@[simp] theorem jreq_cfgW (c n : Nat) (d0 d1 : Word) (l : Nat) (s : State) : (jreq c n d0 d1 l s).cfgW = s.cfgW := rfl
@[simp] theorem jreq_cfg (c n : Nat) (d0 d1 : Word) (l : Nat) (s : State) : (jreq c n d0 d1 l s).cfg = s.cfg := rfl
@[simp] theorem jreq_pgErr (c n : Nat) (d0 d1 : Word) (l : Nat) (s : State) : (jreq c n d0 d1 l s).pgErr = s.pgErr := rfl
@[simp] theorem jreq_fact (c n : Nat) (d0 d1 : Word) (l : Nat) (s : State) : (jreq c n d0 d1 l s).fact = s.fact := rfl
@[simp] theorem jreq_sys (c n : Nat) (d0 d1 : Word) (l : Nat) (s : State) : (jreq c n d0 d1 l s).sys = s.sys := rfl
@[simp] theorem jreq_time (c n : Nat) (d0 d1 : Word) (l : Nat) (s : State) : (jreq c n d0 d1 l s).time = s.time := rfl
@[simp] theorem jreq_host (c n : Nat) (d0 d1 : Word) (l : Nat) (s : State) : (jreq c n d0 d1 l s).host = s.host := rfl
@[simp] theorem jreq_dev (c n : Nat) (d0 d1 : Word) (l : Nat) (s : State) : (jreq c n d0 d1 l s).dev = s.dev := rfl
@[simp] theorem jreq_link (c n : Nat) (d0 d1 : Word) (l : Nat) (s : State) : (jreq c n d0 d1 l s).link = s.link := rfl
@[simp] theorem jreq_enum (c n : Nat) (d0 d1 : Word) (l : Nat) (s : State) : (jreq c n d0 d1 l s).enum = s.enum := rfl
@[simp] theorem jreq_mirr (c n : Nat) (d0 d1 : Word) (l : Nat) (s : State) : (jreq c n d0 d1 l s).mirr = s.mirr := rfl
@[simp] theorem jreq_meas (c n : Nat) (d0 d1 : Word) (l : Nat) (s : State) : (jreq c n d0 d1 l s).meas = s.meas := rfl
@[simp] theorem jreq_cur (c n : Nat) (d0 d1 : Word) (l : Nat) (s : State) : (jreq c n d0 d1 l s).cur = s.cur := rfl
@[simp] theorem jreq_imp (c n : Nat) (d0 d1 : Word) (l : Nat) (s : State) : (jreq c n d0 d1 l s).imp = s.imp := rfl
@[simp] theorem jreq_temp (c n : Nat) (d0 d1 : Word) (l : Nat) (s : State) : (jreq c n d0 d1 l s).temp = s.temp := rfl
@[simp] theorem jreq_thrm (c n : Nat) (d0 d1 : Word) (l : Nat) (s : State) : (jreq c n d0 d1 l s).thrm = s.thrm := rfl
@[simp] theorem jreq_bal (c n : Nat) (d0 d1 : Word) (l : Nat) (s : State) : (jreq c n d0 d1 l s).bal = s.bal := rfl
@[simp] theorem jreq_diag (c n : Nat) (d0 d1 : Word) (l : Nat) (s : State) : (jreq c n d0 d1 l s).diag = s.diag := rfl
@[simp] theorem jreq_cal (c n : Nat) (d0 d1 : Word) (l : Nat) (s : State) : (jreq c n d0 d1 l s).cal = s.cal := rfl
@[simp] theorem jreq_safe (c n : Nat) (d0 d1 : Word) (l : Nat) (s : State) : (jreq c n d0 d1 l s).safe = s.safe := rfl
@[simp] theorem jreq_sio (c n : Nat) (d0 d1 : Word) (l : Nat) (s : State) : (jreq c n d0 d1 l s).sio = s.sio := rfl
@[simp] theorem jreq_bob (c n : Nat) (d0 d1 : Word) (l : Nat) (s : State) : (jreq c n d0 d1 l s).bob = s.bob := rfl
@[simp] theorem jreq_pwr (c n : Nat) (d0 d1 : Word) (l : Nat) (s : State) : (jreq c n d0 d1 l s).pwr = s.pwr := rfl
@[simp] theorem jreq_otp (c n : Nat) (d0 d1 : Word) (l : Nat) (s : State) : (jreq c n d0 d1 l s).otp = s.otp := rfl
@[simp] theorem jreq_free (c n : Nat) (d0 d1 : Word) (l : Nat) (s : State) : (jreq c n d0 d1 l s).free = s.free := rfl

/-! ### jreqMand -/

@[simp] theorem jreqMand_cfgW (c n : Nat) (d0 d1 : Word) (s : State) : (jreqMand c n d0 d1 s).cfgW = s.cfgW := rfl
@[simp] theorem jreqMand_cfg (c n : Nat) (d0 d1 : Word) (s : State) : (jreqMand c n d0 d1 s).cfg = s.cfg := rfl
@[simp] theorem jreqMand_pgErr (c n : Nat) (d0 d1 : Word) (s : State) : (jreqMand c n d0 d1 s).pgErr = s.pgErr := rfl
@[simp] theorem jreqMand_fact (c n : Nat) (d0 d1 : Word) (s : State) : (jreqMand c n d0 d1 s).fact = s.fact := rfl
@[simp] theorem jreqMand_sys (c n : Nat) (d0 d1 : Word) (s : State) : (jreqMand c n d0 d1 s).sys = s.sys := rfl
@[simp] theorem jreqMand_time (c n : Nat) (d0 d1 : Word) (s : State) : (jreqMand c n d0 d1 s).time = s.time := rfl
@[simp] theorem jreqMand_host (c n : Nat) (d0 d1 : Word) (s : State) : (jreqMand c n d0 d1 s).host = s.host := rfl
@[simp] theorem jreqMand_dev (c n : Nat) (d0 d1 : Word) (s : State) : (jreqMand c n d0 d1 s).dev = s.dev := rfl
@[simp] theorem jreqMand_link (c n : Nat) (d0 d1 : Word) (s : State) : (jreqMand c n d0 d1 s).link = s.link := rfl
@[simp] theorem jreqMand_enum (c n : Nat) (d0 d1 : Word) (s : State) : (jreqMand c n d0 d1 s).enum = s.enum := rfl
@[simp] theorem jreqMand_mirr (c n : Nat) (d0 d1 : Word) (s : State) : (jreqMand c n d0 d1 s).mirr = s.mirr := rfl
@[simp] theorem jreqMand_meas (c n : Nat) (d0 d1 : Word) (s : State) : (jreqMand c n d0 d1 s).meas = s.meas := rfl
@[simp] theorem jreqMand_cur (c n : Nat) (d0 d1 : Word) (s : State) : (jreqMand c n d0 d1 s).cur = s.cur := rfl
@[simp] theorem jreqMand_imp (c n : Nat) (d0 d1 : Word) (s : State) : (jreqMand c n d0 d1 s).imp = s.imp := rfl
@[simp] theorem jreqMand_temp (c n : Nat) (d0 d1 : Word) (s : State) : (jreqMand c n d0 d1 s).temp = s.temp := rfl
@[simp] theorem jreqMand_thrm (c n : Nat) (d0 d1 : Word) (s : State) : (jreqMand c n d0 d1 s).thrm = s.thrm := rfl
@[simp] theorem jreqMand_bal (c n : Nat) (d0 d1 : Word) (s : State) : (jreqMand c n d0 d1 s).bal = s.bal := rfl
@[simp] theorem jreqMand_diag (c n : Nat) (d0 d1 : Word) (s : State) : (jreqMand c n d0 d1 s).diag = s.diag := rfl
@[simp] theorem jreqMand_cal (c n : Nat) (d0 d1 : Word) (s : State) : (jreqMand c n d0 d1 s).cal = s.cal := rfl
@[simp] theorem jreqMand_safe (c n : Nat) (d0 d1 : Word) (s : State) : (jreqMand c n d0 d1 s).safe = s.safe := rfl
@[simp] theorem jreqMand_sio (c n : Nat) (d0 d1 : Word) (s : State) : (jreqMand c n d0 d1 s).sio = s.sio := rfl
@[simp] theorem jreqMand_col (c n : Nat) (d0 d1 : Word) (s : State) : (jreqMand c n d0 d1 s).col = s.col := rfl
@[simp] theorem jreqMand_bob (c n : Nat) (d0 d1 : Word) (s : State) : (jreqMand c n d0 d1 s).bob = s.bob := rfl
@[simp] theorem jreqMand_pwr (c n : Nat) (d0 d1 : Word) (s : State) : (jreqMand c n d0 d1 s).pwr = s.pwr := rfl
@[simp] theorem jreqMand_otp (c n : Nat) (d0 d1 : Word) (s : State) : (jreqMand c n d0 d1 s).otp = s.otp := rfl
@[simp] theorem jreqMand_free (c n : Nat) (d0 d1 : Word) (s : State) : (jreqMand c n d0 d1 s).free = s.free := rfl

/-! ### atUs -/

@[simp] theorem atUs_cfgW (us : Nat) (s : State) : (atUs us s).cfgW = s.cfgW := rfl
@[simp] theorem atUs_cfg (us : Nat) (s : State) : (atUs us s).cfg = s.cfg := rfl
@[simp] theorem atUs_pgErr (us : Nat) (s : State) : (atUs us s).pgErr = s.pgErr := rfl
@[simp] theorem atUs_fact (us : Nat) (s : State) : (atUs us s).fact = s.fact := rfl
@[simp] theorem atUs_sys (us : Nat) (s : State) : (atUs us s).sys = s.sys := rfl
@[simp] theorem atUs_host (us : Nat) (s : State) : (atUs us s).host = s.host := rfl
@[simp] theorem atUs_dev (us : Nat) (s : State) : (atUs us s).dev = s.dev := rfl
@[simp] theorem atUs_link (us : Nat) (s : State) : (atUs us s).link = s.link := rfl
@[simp] theorem atUs_enum (us : Nat) (s : State) : (atUs us s).enum = s.enum := rfl
@[simp] theorem atUs_mirr (us : Nat) (s : State) : (atUs us s).mirr = s.mirr := rfl
@[simp] theorem atUs_meas (us : Nat) (s : State) : (atUs us s).meas = s.meas := rfl
@[simp] theorem atUs_cur (us : Nat) (s : State) : (atUs us s).cur = s.cur := rfl
@[simp] theorem atUs_imp (us : Nat) (s : State) : (atUs us s).imp = s.imp := rfl
@[simp] theorem atUs_temp (us : Nat) (s : State) : (atUs us s).temp = s.temp := rfl
@[simp] theorem atUs_thrm (us : Nat) (s : State) : (atUs us s).thrm = s.thrm := rfl
@[simp] theorem atUs_bal (us : Nat) (s : State) : (atUs us s).bal = s.bal := rfl
@[simp] theorem atUs_diag (us : Nat) (s : State) : (atUs us s).diag = s.diag := rfl
@[simp] theorem atUs_cal (us : Nat) (s : State) : (atUs us s).cal = s.cal := rfl
@[simp] theorem atUs_safe (us : Nat) (s : State) : (atUs us s).safe = s.safe := rfl
@[simp] theorem atUs_sio (us : Nat) (s : State) :
    (atUs us s).sio = tpDrive (1000 * (125 * s.time.slot.val + us)) s := rfl
@[simp] theorem atUs_col (us : Nat) (s : State) :
    (atUs us s).col = (atNs (1000 * (125 * s.time.slot.val + us)) s).col := rfl
@[simp] theorem atUs_bob (us : Nat) (s : State) : (atUs us s).bob = s.bob := rfl
@[simp] theorem atUs_pwr (us : Nat) (s : State) : (atUs us s).pwr = s.pwr := rfl
@[simp] theorem atUs_otp (us : Nat) (s : State) : (atUs us s).otp = s.otp := rfl
@[simp] theorem atUs_jrnl (us : Nat) (s : State) : (atUs us s).jrnl = s.jrnl := rfl
@[simp] theorem atUs_free (us : Nat) (s : State) : (atUs us s).free = s.free := rfl

/-! ### atNs -/

@[simp] theorem atNs_cfgW (ns : Nat) (s : State) : (atNs ns s).cfgW = s.cfgW := rfl
@[simp] theorem atNs_cfg (ns : Nat) (s : State) : (atNs ns s).cfg = s.cfg := rfl
@[simp] theorem atNs_pgErr (ns : Nat) (s : State) : (atNs ns s).pgErr = s.pgErr := rfl
@[simp] theorem atNs_fact (ns : Nat) (s : State) : (atNs ns s).fact = s.fact := rfl
@[simp] theorem atNs_sys (ns : Nat) (s : State) : (atNs ns s).sys = s.sys := rfl
@[simp] theorem atNs_host (ns : Nat) (s : State) : (atNs ns s).host = s.host := rfl
@[simp] theorem atNs_dev (ns : Nat) (s : State) : (atNs ns s).dev = s.dev := rfl
@[simp] theorem atNs_link (ns : Nat) (s : State) : (atNs ns s).link = s.link := rfl
@[simp] theorem atNs_enum (ns : Nat) (s : State) : (atNs ns s).enum = s.enum := rfl
@[simp] theorem atNs_mirr (ns : Nat) (s : State) : (atNs ns s).mirr = s.mirr := rfl
@[simp] theorem atNs_meas (ns : Nat) (s : State) : (atNs ns s).meas = s.meas := rfl
@[simp] theorem atNs_cur (ns : Nat) (s : State) : (atNs ns s).cur = s.cur := rfl
@[simp] theorem atNs_imp (ns : Nat) (s : State) : (atNs ns s).imp = s.imp := rfl
@[simp] theorem atNs_temp (ns : Nat) (s : State) : (atNs ns s).temp = s.temp := rfl
@[simp] theorem atNs_thrm (ns : Nat) (s : State) : (atNs ns s).thrm = s.thrm := rfl
@[simp] theorem atNs_bal (ns : Nat) (s : State) : (atNs ns s).bal = s.bal := rfl
@[simp] theorem atNs_diag (ns : Nat) (s : State) : (atNs ns s).diag = s.diag := rfl
@[simp] theorem atNs_cal (ns : Nat) (s : State) : (atNs ns s).cal = s.cal := rfl
@[simp] theorem atNs_safe (ns : Nat) (s : State) : (atNs ns s).safe = s.safe := rfl
@[simp] theorem atNs_bob (ns : Nat) (s : State) : (atNs ns s).bob = s.bob := rfl
@[simp] theorem atNs_pwr (ns : Nat) (s : State) : (atNs ns s).pwr = s.pwr := rfl
@[simp] theorem atNs_otp (ns : Nat) (s : State) : (atNs ns s).otp = s.otp := rfl
@[simp] theorem atNs_jrnl (ns : Nat) (s : State) : (atNs ns s).jrnl = s.jrnl := rfl
@[simp] theorem atNs_free (ns : Nat) (s : State) : (atNs ns s).free = s.free := rfl
@[simp] theorem atNs_sio (ns : Nat) (s : State) : (atNs ns s).sio = tpDrive ns s := rfl
@[simp] theorem atNs_ns (ns : Nat) (s : State) : (atNs ns s).time.ns = ns := rfl
@[simp] theorem atNs_dyn (ns : Nat) (s : State) : (atNs ns s).col.dyn = s.col.dyn := rfl

/-! ### What the operations write -/

@[simp] theorem settle_pins (s : State) : (settle s).safe.pins = s.safe.pins &&& permitAllowed s := rfl
@[simp] theorem settle_safetyState (s : State) : (settle s).safe.state = s.safe.state := rfl
@[simp] theorem settle_chanA (s : State) : (settle s).safe.a = s.safe.a := rfl
@[simp] theorem settle_chanB (s : State) : (settle s).safe.b = s.safe.b := rfl
@[simp] theorem driveA_safetyState (s : State) : (driveA s).safe.state = s.safe.state := rfl
@[simp] theorem driveB_safetyState (s : State) : (driveB s).safe.state = s.safe.state := rfl
@[simp] theorem raise_col (n : Nat) (s : State) : (raise n s).col = colRaise n 0 s.col := rfl
@[simp] theorem raiseCells_col (n : Nat) (m : Word) (s : State) : (raiseCells n m s).col = colRaise n m s.col := rfl
@[simp] theorem stand_col (n : Nat) (b : Bool) (s : State) : (stand n b s).col = colStand n b 0 s.col := rfl
@[simp] theorem standCells_col (n : Nat) (b : Bool) (m : Word) (s : State) :
    (standCells n b m s).col = colStand n b m s.col := rfl
@[simp] theorem trip_tripNow (v : Safety) (f : BitVec 8) (a b : Bool) (o : BitVec 6) (w : Bool) (s : State) :
    (trip v f a b o w s).safe.tripNow = true := by
  cases w <;> simp only [trip, safeTrip, if_true, Bool.false_eq_true, if_false] <;> split <;> rfl

/-- A trip takes every pin low (R33, R391). -/
@[simp] theorem trip_pins (v : Safety) (f : BitVec 8) (a b : Bool) (o : BitVec 6) (w : Bool) (s : State) :
    (trip v f a b o w s).safe.pins = 0 := by
  cases w <;> simp only [trip, safeTrip, if_true, Bool.false_eq_true, if_false] <;> split <;> rfl

/-- Everything a trip can do to the safety state (R378, R394). -/
theorem trip_safetyState (v : Safety) (f : BitVec 8) (a b : Bool) (o : BitVec 6) (w : Bool) (s : State) :
    (trip v f a b o w s).safe.state = if tripRises s.safe.state v then v else s.safe.state := by
  cases w <;> simp only [trip, safeTrip, if_true, Bool.false_eq_true, if_false] <;> split <;> rfl

/-- The cause that a trip records when it changes the safety state (R378). -/
theorem trip_cause (v : Safety) (f : BitVec 8) (a b : Bool) (o : BitVec 6) (w : Bool) (s : State)
    (h : tripRises s.safe.state v = true) :
    (trip v f a b o w s).safe.causeFlags = f ∧ (trip v f a b o w s).safe.causeA = a ∧
      (trip v f a b o w s).safe.causeB = b ∧ (trip v f a b o w s).safe.causeOrigin = o ∧
      (trip v f a b o w s).safe.causeStitch = stitch s := by
  cases w <;> simp only [trip, safeTrip, h, if_true, and_self, Bool.false_eq_true, if_false]

/-- A trip of TRIPPED leaves the part in TRIPPED or LOCKOUT. -/
theorem trip_tripped (f : BitVec 8) (a b : Bool) (o : BitVec 6) (w : Bool) (s : State) :
    tripped (trip .tripped f a b o w s) = true := by
  simp only [tripped, trip_safetyState]
  cases s.safe.state <;> rfl

/-- The TRIP words that a trip of this device sends (R315). -/
theorem trip_word (v : Safety) (f : BitVec 8) (a b : Bool) (o : BitVec 6) (s : State)
    (h : tripRises s.safe.state v = true) :
    (trip v f a b o true s).link.tripTx = s.link.tripTx ++ tripInserts (tripWord o a b f) s := by
  simp only [trip, tripNews, h, Bool.true_or, Bool.and_self, if_true]

/-- What a trip leaves of the link when it sends no word. -/
theorem trip_link (v : Safety) (f : BitVec 8) (a b : Bool) (o : BitVec 6) (s : State) :
    (trip v f a b o false s).link = s.link := by
  simp only [trip, Bool.and_false, Bool.false_eq_true, if_false]

/-! ### Pins (R391) -/

/-- The pins do not decide which pins are allowed. -/
@[simp] theorem permitAllowed_settle (s : State) : permitAllowed (settle s) = permitAllowed s := rfl
@[simp] theorem permitAllowed_driveA (s : State) : permitAllowed (driveA s) = permitAllowed s := rfl
@[simp] theorem permitAllowed_driveB (s : State) : permitAllowed (driveB s) = permitAllowed s := rfl

/-- After `settle` no pin is high that R391 does not allow. -/
theorem settle_allowed (s : State) : (settle s).safe.pins &&& ~~~ permitAllowed (settle s) = 0 := by
  rw [settle_pins, permitAllowed_settle, BitVec.and_assoc, BitVec.and_not_self]; exact BitVec.and_zero

/-- Where the base conditions of R391 fail no pin is allowed. -/
theorem permitAllowed_base (s : State) (h : permitBase s = false) : permitAllowed s = 0 := by
  simp only [permitAllowed, h, Bool.false_eq_true, if_false]

/-- A tripped part allows no pin. -/
theorem permitAllowed_tripped (s : State) (h : tripped s = true) : permitAllowed s = 0 :=
  permitAllowed_base s (by simp only [permitBase, h, Bool.not_true, Bool.and_false, Bool.false_and])

/-- Counters that saturate count up to their top. -/
theorem satInc_eq_min (n top : Nat) : satInc n top = min (n + 1) top := by
  unfold satInc; split <;> omega

end Sys2Proof.Machine
end

