-- ==== Sys2Proof/Tests/Slice0.lean ====
section
/-! SUPPORT. Tests. First one ill-formed term for each check of `Instr.wellFormed`, which the check refuses; then worked
examples of the spec; then, for every statement of Certificates/Slice0 with hypotheses, a named theorem
`witness_<statement>` that shows states and operands which meet them, clause by clause and at the ends of their ranges. -/

namespace Sys2Proof.Tests

open Sys2Proof Sys2Proof.Machine Sys2Proof.Safety

set_option Elab.async false

/-! ### Small states and operands -/

/-- A member at address 2 whose core runs in the given mode, after its start-up pass. -/
def dev (m : Mode) : State :=
  { State.reset with sys := { phase := .coreOn, mode := some m, addr := 2, startDone := true, passLeft := 0 }
                     meas := { State.reset.meas with donePrev := true } }
/-- A head whose core runs in the given mode. -/
def hd (m : Mode) : State :=
  { State.reset with
    sys := { phase := .coreOn, mode := some m, role := .head, addr := 1, startDone := true, passLeft := 0, sending := true }
    meas := { State.reset.meas with donePrev := true } }
/-- A part in a phase with no mode. -/
def inPhase (p : Phase) : State := { State.reset with sys := { phase := p } }
/-- At a boundary that no step has left yet. -/
def fresh (s : State) : State := { s with time := { s.time with fresh := true } }
/-- At stitch `k`, pack time at its boundary. -/
def atStitch (k : Nat) (s : State) : State :=
  { s with time := { s.time with pt := BitVec.ofNat 64 (1000 * k), ptB := BitVec.ofNat 64 (1000 * k) } }
/-- A register's words in force. -/
def withCfg (r : CReg) (w : Word) (s : State) : State := { s with cfg := cfgSet s.cfg r w, cfgW := cfgSet s.cfgW r w }
/-- The state a command answers. -/
def after (o : Out) : State := match o with | .next t => t | _ => State.reset

/-- A host header with zero reserved bits and a wrong or right CRC. -/
def hdr (tag addr : BitVec 6) (reg : BitVec 16) (len : BitVec 8) : HostHdr :=
  { mode3 := false, us := 0, rsvTag := 0, tag := tag, rsvAddr := 0, addr := addr, reg := reg, len := len, crc := 0
    handled := true }
/-- The header with the CRC of R117 over the frame. -/
def sealed (op : Nat) (h : HostHdr) (ws : List Word) : HostHdr :=
  { h with crc := crc16 (headerBytes op h ++ ws.flatMap wordBytes) }
/-- Words of a ring frame with the types that R301 and R308 ask, the last one its check word. -/
def frame (ws : List Word) : List LinkWord := frameOf (ws.headD 0) ws.tail

def sub0 : Sub := ⟨0, 0⟩
def slotIn (n : Fin 8) : SlotIn :=
  { slot := n, cells := List.replicate 32 sub0, stack := sub0, shunt := sub0, point := sub0, ispOut := false, permitRb := 0, si := 0
    tpaRb := true, tpbRb := true, ackN := true, ilim := 0, bstCurrent := 0, vreg := 5000, buckLimit := false
    tsEven := 0, tsOdd := 0, tap := 0 }
def boundaryIn : BoundaryIn :=
  { sosc := 8000, load := 0, dies := List.replicate 8 100, closeOut := none, closeBack := none, copyB := none
    readyL := none, readyU := none, werrL := 0, werrU := 0, iin := 0, vbak := 0, ichg := 0, trimDiff := 0 }
def taskIn : TaskIn := { doneUs := 310, romErr := none, sramCe := [], sramUe := [], romFetch := none, coreCe := [], coreUe := [] }
def breathIn : BreathIn :=
  { coarse := List.replicate 32 (List.replicate 64 1900), ts := List.replicate 16 (List.replicate 8 32768)
    dies := List.replicate 8 (List.replicate 8 100) }
def words (n : Nat) : List LinkWord := List.replicate n ⟨5, 0, false⟩

/-! ### Well-formedness: what each check refuses -/

theorem test_wf_wr : (Instr.wr (hdr 0 1 0x0320 1) [0]).wellFormed = true ∧ (Instr.wr (hdr 0 1 0x0320 1) []).wellFormed = false ∧
    (Instr.wr (hdr 0 0 0x0320 1) [0]).wellFormed = false := by decide
theorem test_wf_upset : (Instr.recorderPatrol [⟨8388607, 1⟩]).wellFormed = true ∧ (Instr.recorderPatrol [⟨8388608, 1⟩]).wellFormed = false ∧
    (Instr.recorderPatrol [⟨0, 0⟩]).wellFormed = false ∧ (Instr.bulk (hdr 0 1 0 1) 0 [⟨8388608, 1⟩]).wellFormed = false := by decide
theorem test_wf_address : (Instr.registerWrite 0x0320 0).wellFormed = true ∧ (Instr.registerWrite 0x0322 0).wellFormed = false ∧
    (Instr.latchClear 0x1231 0).wellFormed = false := by decide
theorem test_wf_commandFrame : (Instr.commandFrameReceive .out 124 (words 3) [] true).wellFormed = true ∧
    (Instr.commandFrameReceive .out 125 (words 3) [] true).wellFormed = false ∧ (Instr.commandFrameReceive .out 0 [] [] true).wellFormed = false ∧
    (Instr.commandFrameReceive .out 0 (words 73) [] true).wellFormed = false ∧
    (Instr.commandFrameReceive .out 0 (words 3) [⟨8388608, 1⟩] true).wellFormed = false := by decide
theorem test_wf_siFilterEdge : (Instr.siFilterEdge .a 0 true 999 (List.replicate 201 true)).wellFormed = true ∧
    (Instr.siFilterEdge .a 0 true 1000 (List.replicate 201 true)).wellFormed = false ∧
    (Instr.siFilterEdge .a 0 true 0 (List.replicate 200 true)).wellFormed = false := by decide +kernel
theorem test_wf_replyFrame : (Instr.replyFrameReceive .l (words 67)).wellFormed = true ∧
    (Instr.replyFrameReceive .l (words 2)).wellFormed = false ∧ (Instr.replyFrameReceive .l (words 68)).wellFormed = false := by decide
theorem test_wf_linkServiceBusy : (Instr.linkServiceBusy (words 72)).wellFormed = true ∧
    (Instr.linkServiceBusy (words 73)).wellFormed = false ∧ (Instr.linkServiceBusy []).wellFormed = false := by decide
theorem test_wf_slotBoundary : (Instr.slotBoundary (slotIn 7)).wellFormed = true ∧
    (Instr.slotBoundary { slotIn 7 with cells := [] }).wellFormed = false ∧
    (Instr.slotBoundary { slotIn 7 with shunt := ⟨0, 2⟩ }).wellFormed = false ∧
    (Instr.slotBoundary { slotIn 7 with cells := List.replicate 32 ⟨0, -2⟩ }).wellFormed = false := by decide
theorem test_wf_stitchBoundary : (Instr.stitchBoundary boundaryIn).wellFormed = true ∧
    (Instr.stitchBoundary { boundaryIn with dies := [] }).wellFormed = false ∧
    (Instr.stitchBoundary { boundaryIn with factory := [.engine 1, .read 8388607] }).wellFormed = true ∧
    (Instr.stitchBoundary { boundaryIn with factory := [.write 8388608 0] }).wellFormed = false := by decide
theorem test_wf_safetyTask : (Instr.safetyTask { taskIn with romErr := some 393215, sramCe := [262143] }).wellFormed = true ∧
    (Instr.safetyTask { taskIn with romErr := some 393216 }).wellFormed = false ∧
    (Instr.safetyTask { taskIn with sramCe := [262144] }).wellFormed = false ∧
    (Instr.safetyTask { taskIn with sramUe := [262144] }).wellFormed = false ∧
    (Instr.safetyTask { taskIn with romFetch := some 393216 }).wellFormed = false ∧
    (Instr.safetyTask { taskIn with coreCe := [(262144, .read)] }).wellFormed = false ∧
    (Instr.safetyTask { taskIn with coreUe := [(262144, .read)] }).wellFormed = false := by decide
theorem test_wf_trimVerifyEnd : (Instr.trimVerifyEnd [] (List.replicate 32 0) true).wellFormed = true ∧
    (Instr.trimVerifyEnd [] (List.replicate 31 0) true).wellFormed = false := by decide
theorem test_wf_commandBurst : (Instr.commandBurstReceive .out (words 47)).wellFormed = true ∧
    (Instr.commandBurstReceive .out (words 14)).wellFormed = false ∧ (Instr.commandBurstReceive .out (words 48)).wellFormed = false := by decide
theorem test_wf_frames_of_one_length : (Instr.summaryReceive .l 2 (words 4)).wellFormed = true ∧
    (Instr.summaryReceive .l 2 (words 3)).wellFormed = false ∧ (Instr.tackReceive .out (words 5)).wellFormed = false ∧
    (Instr.idRecordReceive .out 350 (words 4)).wellFormed = false ∧ (Instr.commitReceive .out (words 8) 0 0).wellFormed = false := by decide
theorem test_wf_radioFrames : (Instr.beaconReceive 44000 (List.replicate 32 0) 0).wellFormed = true ∧
    (Instr.beaconReceive 44000 [] 0).wellFormed = false ∧ (Instr.beaconReceive 44000 (List.replicate 33 0) 0).wellFormed = false ∧
    (Instr.memberFrameReceive 0 [] 0).wellFormed = false ∧
    (Instr.memberFrameReceive 0 (List.replicate 33 0) 0).wellFormed = false := by decide
theorem test_wf_eventRecord : (Instr.eventRecordReceive .u (words 51)).wellFormed = true ∧
    (Instr.eventRecordReceive .u (words 5)).wellFormed = false ∧ (Instr.eventRecordReceive .u (words 52)).wellFormed = false := by decide
theorem test_wf_breathCheck : (Instr.breathCheck breathIn).wellFormed = true ∧
    (Instr.breathCheck { breathIn with coarse := [] }).wellFormed = false ∧
    (Instr.breathCheck { breathIn with coarse := List.replicate 32 [] }).wellFormed = false ∧
    (Instr.breathCheck { breathIn with ts := [] }).wellFormed = false ∧
    (Instr.breathCheck { breathIn with ts := List.replicate 16 [] }).wellFormed = false ∧
    (Instr.breathCheck { breathIn with dies := List.replicate 8 [] }).wellFormed = false := by decide
theorem test_wf_places : (Instr.idRecordReceive .out 350 (words 5)).wellFormed = true ∧
    (Instr.idRecordReceive .out 351 (words 5)).wellFormed = false ∧ (Instr.wakeFrameReceive 250 []).wellFormed = true ∧
    (Instr.wakeFrameReceive 251 []).wellFormed = false := by decide
theorem test_wf_memberAddresses : (Instr.mirrorJudge 2).wellFormed = true ∧ (Instr.mirrorJudge 62).wellFormed = true ∧
    (Instr.mirrorJudge 1).wellFormed = false ∧ (Instr.mirrorJudge 63).wellFormed = false ∧
    (Instr.memberRunAdmit 1).wellFormed = false ∧ (Instr.memberRunAdmit 63).wellFormed = false ∧
    (Instr.summaryReceive .l 1 (words 4)).wellFormed = false ∧ (Instr.threadMessageComplete 0).wellFormed = false ∧
    (Instr.threadMessageComplete 63).wellFormed = false ∧ (Instr.threadMessageComplete 1).wellFormed = true := by decide

/-! ### Worked examples of the spec -/

/-- 01_architecture, the example of R49: pack time 5 000 000 000 µs is the boundary of stitch 0x4B40. -/
theorem test_stitch_number : stitch (atStitch 5000000 (dev .run)) = 0x4B40 := by decide +kernel
/-- 05_cell_measurement, the example of R161 to R164: three full words, and their compressed codes. -/
theorem test_cell_words :
    let c (l : List Cell) : State := { dev .run with meas := { (dev .run).meas with cells := l } }
    let s := c [{ stale := false, hist := false, xd := true, value := 3301200 }, { stale := false, hist := false, value := -250000 },
                { stale := false, hist := false, oor := true, value := 5620000 }]
    cellWord s 0 = 0x10325F50 ∧ cellWord s 1 = 0x00FC2F70 ∧ cellWord s 2 = 0x2055C120 ∧
      chainCode 3301200 = 0x947C ∧ chainCode (-250000) = 0x09C4 := by decide +kernel
/-- 05_cell_measurement, the example of R166: one step of the filter with IIR_K = 4. -/
theorem test_filter_step : divRound (filterStep 4 { y := 3300000 * 256, prime := false } 3301600) 256 = 3300100 := by decide +kernel
/-- 06_sync_current_impedance, the example of R185: capture instants 80, 205 and 330 µs into stitches 7000 to 7002, and
the windows of R188 for MW = 3. -/
theorem test_capture_instants :
    captureAt (6999130 * 40) (200 * 40) 15000 (7000000 * 40) = 80 * 40 ∧
    captureAt (6999130 * 40) (200 * 40) 15000 (7001000 * 40) = 205 * 40 ∧
    captureAt (6999130 * 40) (200 * 40) 15000 (7002000 * 40) = 330 * 40 ∧
    windowFirst 3200 3 = 0 ∧ windowFirst 8200 3 = 0 ∧ windowFirst 13200 3 = 1 := by decide +kernel
/-- 10_temperature, the example of R275: ratio codes 32 768, 15 049 and 65 520 with B = 3435 K. -/
theorem test_thermistors : ntcTemp 3435 32768 = 2500 ∧ ntcTemp 3435 15049 = 6000 ∧ qBroken 65520 = true ∧
    qBroken 15049 = false := by decide +kernel
/-- 07_balancing, the example of R229: the interleave of a run of five cells in three stitches. -/
theorem test_interleave : interleave 0x00003E00 30000 = 0x00002C00 ∧ interleave 0x00003E00 30001 = 0x00001A00 ∧
    interleave 0x00003E00 30002 = 0x00003600 := by decide +kernel
/-- 04_host_registers, the first example of R135: the header bytes of the RD frame and of its reply. -/
theorem test_host_frame_bytes :
    headerBytes 1 (hdr 5 7 0x0120 2) = [0x01, 0x05, 0x07, 0x01, 0x20, 0x02] ∧
    (replyBytes { op := 1, tag := 5, addr := 7, stitch := 0x4B40, data := [0x2A05F2C8, 1] }).take 18 =
      [0x01, 0x05, 0x07, 0x00, 0x00, 0x02, 0x4B, 0x40, 0x00, 0x00, 0x2A, 0x05, 0xF2, 0xC8, 0, 0, 0, 1] := by decide +kernel
/-- 11_ibeel_link, the example of R310: a member's summary words of address 17. -/
theorem test_summary_words :
    let s0 := dev .run
    let s : State := { s0 with
      sys := { s0.sys with addr := 17 }
      meas := { s0.meas with vminIdx := 5, vminCode := 37810, vmaxIdx := 22, vmaxCode := 38090 }
      temp := { s0.temp with maxNone := false, maxT := 3125 }
      dev := { s0.dev with ready := [(0, {}), (1, {})] } }
    sum1 s = 0x93B294CA ∧ sum2 s = 0x25400C35 ∧ bits (sum0 s) 31 26 = 17 ∧ bits (sum0 s) 5 0 = 2 := by decide +kernel
/-- 12_enumeration_recovery, the example of R339: the path delays of member 8. -/
theorem test_path_delays :
    let s : State := { dev .standby with enum := { (dev .standby).enum with
      tackOut := 7, tL := List.replicate 16 1660, tU := List.replicate 16 3390 } }
    pathDelays s true 5280 5280 230 0 = (1660, 3390) ∧ placeOf 1660 3390 = 1 := by decide +kernel
/-- 13_mirror_radio, the example of R360: cycle 500 000, its channel and member 17's slot and nonce. -/
theorem test_mirror_slot : channelIndex 500000 = 0 ∧ slotUs 17 = 2750 ∧
    nonceOf (5000000000 + slotUs 17) 0x51 0 = [0, 0, 0, 1, 0x2A, 0x05, 0xFC, 0xBE, 0x51, 0, 0, 0, 0] := by decide +kernel
/-- 19_otp_journal, the example of R513: W3, W4 and W5 of a THERMAL_SD record. -/
theorem test_journal_words :
    let r : JPend := { code := 2, mand := true, mode := 3, safety := 2, addr := 9, role := 1, source := 112
                       td := 540, tmax := 2450, data0 := 0x00000102 }
    (jrnlWords 0x0001E203 r).take 6 = [0x0001E203, 0, 0, 0x02749470, 0x021C0992, 0x00000102] := by decide +kernel
/-- 19_otp_journal, the same example: `OTP.GSAFE` with generations 0 to 2 used, 0 and 1 valid, 1 in force. -/
theorem test_otp_gsafe : genReg 0b0111 0b0011 (some 1) = 0x00000735 := by decide +kernel
/-- 01_architecture, the example of R39: 861 per mille, with the statistics already shed, sheds the tracker too. -/
theorem test_shedding :
    let s : State := { dev .run with time := { (dev .run).time with shed := 1, loadPeak := 872 }, imp := { (dev .run).imp with fill := 9 } }
    let t := loadBoundary 861 s
    t.time.shed = 2 ∧ t.imp.fill = 0 ∧ t.time.loadPeak = 872 := by decide +kernel
/-- 00_scope, the example of W1C: 0x00000004 to `CELL.PG_EVTL` clears bit 2, which is source 34 (16_fault_collection). -/
theorem test_pg_evtl_clears :
    let s : State := { dev .run with col := { (dev .run).col with lat := 0x0000000F00000000 } }
    (after (exec (.registerWrite 0x0714 4) s)).col.lat = 0x0000000B00000000 := by decide +kernel
/-- 15_safety_inputs_commissioning, the example of R397: the unlock key is SEAL[15:0] of the generation in force. -/
theorem test_unlock_needs_the_key :
    let s : State := { dev .commission with safe := { (dev .commission).safe with state := .lockout } }
    (after (exec (.unlock 1) s)).safe.unlockPend = false ∧ (after (exec (.unlock 1) s)).pgErr.getD 0x10 {} = ⟨0xA, 1, 0x58⟩ := by
  decide +kernel

/-! ### Witnesses: the machine as a whole -/

theorem witness_StepRunsTheFrontCommand : State.reset.pending = [] ∧ step State.reset = .next State.reset := ⟨rfl, rfl⟩
theorem witness_NoCommandLeavesAPinHigherThanAllowed :
    let low (s : State) (l : State) : Prop := exec .xtalFail s = .next l ∧
      (inMode l .run = false ∨ coreRuns l = false ∨ l.safe.state = .tripped ∨ l.safe.state = .lockout ∨ l.link.hold ≠ none)
    low (dev .standby) (dev .standby) ∧ low (inPhase .filled) (inPhase .filled) ∧
    (let s : State := { dev .run with safe := { (dev .run).safe with state := .lockout } }; low s s) ∧
    (let s : State := { dev .run with link := { (dev .run).link with hold := some 0 } }; low s s) := by
  refine ⟨⟨rfl, by decide⟩, ⟨rfl, by decide⟩, ⟨rfl, by decide⟩, ⟨rfl, by decide⟩⟩
theorem witness_EveryStepKeepsTheMemoriesCanonical :
    let s : State := { State.reset with
      pending := [.coreRelease], otp := { State.reset.otp with mem := [(0, 1), (2047, 255)] }, bob := { State.reset.bob with mem := [(5, 1)] } }
    memoriesWf s ∧ ∃ t, step s = .next t := by
  refine ⟨by decide, _, rfl⟩
theorem witness_NoCommandErasesAnOtpBit :
    let s : State := { dev .run with otp := { (dev .run).otp with mem := [(2047, 255)] } }
    memWf s.otp.mem = true ∧ ∃ t, exec .xtalFail s = .next t := by
  refine ⟨by decide, _, rfl⟩
theorem witness_ClosedLockKeepsFactoryAway :
    let s : State := { dev .standby with pending := [.modeReq 3 false] }
    neverFactory s ∧ ∃ t, step s = .next t := by
  refine ⟨by decide, _, rfl⟩
/-- An acknowledge that leaves TRIPPED, an unlock that leaves LOCKOUT, and a trip that neither does. -/
theorem witness_OnlyAnAcknowledgeLeavesTripped :
    let s : State := { fresh (dev .standby) with safe := { (dev .standby).safe with state := .tripped, acks := [⟨none, false, false⟩] } }
    let u : State := { dev .commission with safe := { (dev .commission).safe with state := .lockout, unlockPend := true } }
    let v : State := fresh { dev .commission with
      safe := { (dev .commission).safe with state := .lockout }
      dev := { (dev .commission).dev with bcasts := [{ stitch := 0, tag := 1, reg := 0x1058, data := [sealGen (dev .commission) &&& 0xFFFF] }] } }
    let b : State := { s with
      safe := { s.safe with acks := [] }
      dev := { s.dev with bcasts := [{ stitch := 0, tag := 1, reg := 0x1134, data := [0x5A] }] } }
    (tripped s = true ∧ (∃ r ∈ s.safe.acks, ackDue s r = true) ∧ tripped (after (exec .ackApply s)) = false ∧
      (after (exec .ackApply s)).safe.ackOk = 1) ∧
    tripped (after (exec (.slotBoundary (slotIn 0)) b)) = false ∧
    (u.safe.state = .lockout ∧ (unlockBoundary u).safe.state = .tripped ∧ v.safe.state = .lockout) ∧
    (after (exec .broadcastApply v)).safe.state = .tripped := by decide +kernel
theorem witness_NoWriteRaisesAPermitPin :
    (writeOf (.unlock 0)).isSome = true ∧ (hostFrameOf (.rd (hdr 0 1 0 1))).isSome = true ∧
    (∃ t, exec (.unlock 0) (dev .run) = .next t) ∧ (∃ t, exec (.rd (hdr 0 1 0 1)) (hd .run) = .next t) ∧
    (∃ t, exec (.modeReq 4 true) (dev .standby) = .next t) ∧
    (∃ t, exec (.commandFrameReceive .out 124 (words 3) [] true) (dev .run) = .next t) ∧
    (∃ t, exec .broadcastApply (dev .run) = .next t) :=
  ⟨rfl, rfl, ⟨_, rfl⟩, ⟨_, rfl⟩, ⟨_, rfl⟩, ⟨_, rfl⟩, ⟨_, rfl⟩⟩

/-! ### Witnesses: the host port -/

/-- A frame that the head has CRC-checked, as an operand of the statements below. -/
def rdOk (tag addr : BitVec 6) : HostHdr := sealed 1 (hdr tag addr 0x0024 1) []
def snapOk (tag : BitVec 6) (st : Word) : HostHdr := sealed 4 (hdr tag 0 0 1) [st]
def fetchOk (op : Nat) (tag : BitVec 6) : HostHdr := sealed op (hdr tag 0 0 0) []
def tagWith (s : State) (k : Nat) (g : Tag) : State := { s with host := { s.host with tags := s.host.tags.set k g } }
def acc (c : Instr) (s : State) : Nat := (after (exec c s)).host.accept

/-- One frame for each row of R120: a wrong CRC (7); unknown opcode, nonzero reserved bits, a nonzero upper half of a
stitch word, nonzero REG of BULK, nonzero header of FETCH, nonzero TAG of NEXT (1); LEN 0 or 65, MWR of LEN 2, a broadcast
WR of 61 words, an unaligned REG (6); full broadcasts (5); ADDR 63, ADDR 0 of RD, ADDR 1 of SNAP (2). -/
theorem witness_AcceptByteFollowsItsTable_headers :
    let s := hd .run
    hostFrameOf (.rd (hdr 0 1 0 1)) = some (1, hdr 0 1 0 1, []) ∧ isHead s = true ∧ coreRuns s = true ∧
    crc16 (headerBytes 1 (hdr 0 1 0 1)) ≠ (hdr 0 1 0 1).crc ∧ acc (.rd (hdr 0 1 0 1)) s = 7 ∧
    acc (.unknownOpcode 7 (sealed 7 (hdr 0 1 0 1) [])) s = 1 ∧ acc (.rd (sealed 1 { hdr 0 1 0 1 with rsvTag := 1 } [])) s = 1 ∧
    acc (.rd (sealed 1 { hdr 0 1 0 1 with rsvAddr := 2 } [])) s = 1 ∧ acc (.snap (snapOk 0 0x00010003) 0x00010003) s = 1 ∧
    acc (.bulk (sealed 6 (hdr 0 1 4 1) [0]) 0 []) s = 1 ∧ acc (.fetch (sealed 0xD (hdr 0 1 0 0) [])) s = 1 ∧
    acc (.next (fetchOk 0xC 1)) s = 1 ∧
    acc (.rd (sealed 1 (hdr 0 1 0 0) [])) s = 6 ∧ acc (.rd (sealed 1 (hdr 0 1 0 65) [])) s = 6 ∧
    acc (.mwr (sealed 3 (hdr 0 1 0 2) [0, 0]) 0 0) s = 6 ∧
    frameWidth 2 (hdr 0 0 0 61) = false ∧ frameWidth 2 (hdr 0 0 0 60) = true ∧ frameWidth 1 (hdr 0 1 0 64) = true ∧
    acc (.rd (sealed 1 (hdr 0 1 2 1) [])) s = 6 ∧
    acc (.rd (rdOk 0 63)) s = 2 ∧ acc (.rd (rdOk 0 0)) s = 2 ∧ acc (.snap (sealed 4 (hdr 0 1 0 1) [3]) 3) s = 2 := by decide +kernel
/-- The broadcast queue of 64 words: 61 words pending and a SNAP of 3 fit, 62 and a SNAP do not. -/
theorem witness_AcceptByteFollowsItsTable_full :
    let s (n : Nat) : State := { hd .run with host := { (hd .run).host with trans := [{ op := 2, addr := 0, len := n, tag := 1, namedAt := 2 }] } }
    acc (.snap (snapOk 0 3) 3) (s 58) = 0 ∧ acc (.snap (snapOk 0 3) 3) (s 59) = 5 := by decide +kernel
/-- Tags: busy (8), FETCH of a tag in flight (5) and of a free one (8), REFETCH of nothing (8), NEXT of nothing (5); the
named stitch 1, 2, 3, 1000 and 1001 on; a broadcast that asks for RUN while no SAFETY generation is in force; and the
frames accepted (0). -/
theorem witness_AcceptByteFollowsItsTable_tags :
    let s := hd .standby
    let busy := tagWith s 63 { busy := true }
    let done_ := tagWith s 63 { busy := true, done := true, reply := some {} }
    let kept := tagWith s 63 { last := some {} }
    let ready : State := { done_ with host := { done_.host with doneQ := [63] } }
    let wr (st v : Word) (reg : BitVec 16) : Instr := .wr (sealed 2 (hdr 0 0 reg 1) [st, v]) [st, v]
    acc (.rd (rdOk 63 1)) busy = 8 ∧ acc (.fetch (fetchOk 0xD 63)) busy = 5 ∧ acc (.fetch (fetchOk 0xD 63)) s = 8 ∧
    acc (.refetch (fetchOk 0xE 63)) s = 8 ∧ acc (.next (fetchOk 0xC 0)) s = 5 ∧
    acc (.snap (snapOk 0 2) 2) s = 1 ∧ acc (.snap (snapOk 0 3) 3) s = 0 ∧ acc (.snap (snapOk 0 1000) 1000) s = 0 ∧
    acc (.snap (snapOk 0 1001) 1001) s = 1 ∧ acc (wr 1 0 0x0320) s = 1 ∧ acc (wr 2 0 0x0320) s = 0 ∧
    acc (wr 2 4 0x0024) s = 0xA ∧ acc (wr 2 4 0x0024) (hd .run) = 0 ∧
    acc (.rd (rdOk 63 1)) s = 0 ∧ acc (.fetch (fetchOk 0xD 63)) done_ = 0 ∧ acc (.refetch (fetchOk 0xE 63)) kept = 0 ∧
    acc (.next (fetchOk 0xC 0)) ready = 0 := by decide +kernel
theorem witness_RejectedFrameLeavesOnlyThePort :
    let s := hd .run
    let j (c : Instr) (op : Nat) (h : HostHdr) (ws : List Word) : Nat := acceptJudge op h (padWords (dataCount op h) ws) (frameMet c h s)
    isHead s = true ∧ coreRuns s = true ∧ j (.rd (hdr 0 1 0 1)) 1 (hdr 0 1 0 1) [] = 7 ∧
    j (.fetch (fetchOk 0xD 63)) 0xD (fetchOk 0xD 63) [] = 8 ∧ j (.rd (rdOk 63 63)) 1 (rdOk 63 63) [] = 2 := by decide +kernel
theorem witness_RejectedFrameLeavesOnlyThePort_unknown :
    isHead (hd .run) = true ∧ coreRuns (hd .run) = true ∧
    (∀ op ∈ [(0 : BitVec 8), 7, 0xB, 0xF, 0xFF], op.toNat ∉ [1, 2, 3, 4, 5, 6, 0xC, 0xD, 0xE]) ∧
    crc16 (headerBytes 7 (hdr 0 0 0 0)) ≠ (hdr 0 0 0 0).crc ∧
    crc16 (headerBytes 255 (sealed 255 (hdr 63 63 0 0) [])) = (sealed 255 (hdr 63 63 0 0) []).crc := by decide +kernel
/-- Reads of counters at their largest, past it, and of plain registers up to the end of a page. -/
theorem witness_ReadsClearTheirCountersAlone :
    let s : State := { hd .run with
      sys := { (hd .run).sys with ackCnt := 255 }, host := { (hd .run).host with cmplPeak := 9 }
      link := { (hd .run).link with portL := { werr := 256 } }, pwr := { (hd .run).pwr with brCount := 0xFFFF }
      pgErr := (hd .run).pgErr.set 25 ⟨1, 255, 0x54⟩ }
    let a (reg : Nat) (n : Nat) : Nat × List Word × State := access 1 (BitVec.ofNat 16 reg) n [] 0 s
    coreRuns s = true ∧ isHead s = true ∧ pageExists 4 = true ∧ (a 0x04C0 16).1 = 0 ∧ (a 0x04C0 16).2.2 = s ∧
    ((a 0x0038 1).2.2.sys.ackCnt = 0 ∧ (a 0x0240 1).2.2.host.cmplPeak = 0 ∧ (a 0x0324 1).2.2.link.portL.werr = 0 ∧
      (a 0x1630 1).2.2.pwr.brCount = 0 ∧ ((a 0x190C 1).2.2.pgErr.getD 25 {}).cnt = 0) ∧
    (let q := a 0x0238 3
     q.2.1.getD 2 0 = readReg s 0x0240 ∧ readReg s 0x0240 ≠ 0 ∧ q.2.2.host.cmplPeak = 0 ∧ q.2.2.sys.ackCnt = 255) ∧
    (let m : State := { dev .run with host := { (dev .run).host with cmplPeak := 3 } }
     isHead m = false ∧ coreRuns m = true ∧ (access 1 0x0238 3 [] 0 m).2.1 = [0, 0, 0] ∧
       (access 1 0x0238 3 [] 0 m).2.2.host.cmplPeak = 3) ∧
    (let m : State := { s with time := { s.time with pt := 0x0000000500000006 } }
     (access 1 0x0120 2 [] 0 m).2.1 = [6, 5]) ∧
    (a 0x0120 2).2.1 = [0, 0] ∧ ((a 0x0C48 1).2.1.getD 0 0).toNat % 65536 = 0x8000 := by decide +kernel
/-- RD, WR, MWR, SNRD and BULK of the head, each accepted. -/
theorem witness_HeadExecutesItsTransactionsAtOnce :
    let s := hd .run
    isHead s = true ∧ coreRuns s = true ∧
    acceptJudge 1 (rdOk 63 1) [] (atUs 0 s) = 0 ∧ (rdOk 63 1).addr = 1 ∧
    acceptJudge 2 (sealed 2 (hdr 0 1 0x0320 1) [0]) [0] (atUs 0 s) = 0 ∧
    acceptJudge 3 (sealed 3 (hdr 0 1 0x0320 1) [3, 0]) [3, 0] (atUs 0 s) = 0 ∧
    acceptJudge 5 (sealed 5 (hdr 0 1 0 64) [0]) [0] (atUs 0 s) = 0 ∧
    acceptJudge 6 (sealed 6 (hdr 0 1 0 64) [0]) [0] (atUs 0 s) = 0 := by decide +kernel
/-- A held snapshot, one whose stitch has not ended, none; the registers at the ends of the set; and a BULK over a clean word,
one with a flipped bit and one with two. -/
theorem witness_HeadExecutesItsTransactionsAtOnce_reads :
    let held : Snap := { num := 5, held := true, captured := true, cells := (List.range 32).map (BitVec.ofNat 32), iaux := 77, ts := List.replicate 16 9 }
    let s : State := { hd .run with dev := { (hd .run).dev with snaps := [held, { num := 6 }] } }
    let a (reg : BitVec 16) (n : Nat) (num : Word) : Nat × List Word × State := access 5 reg n [num] 0 s
    (a 0x0720 33 5).1 = 0 ∧ (a 0x0798 2 5).2.1 = [30, 31] ∧ (a 0x0938 1 5).2.1 = [77] ∧ (a 0x0B5C 1 5).2.1 = [9] ∧
    (a 0x0720 1 6).1 = 5 ∧ (a 0x0720 1 7).1 = 1 ∧ (a 0x0720 34 5).1 = 2 ∧ (a 0x092C 1 5).1 = 2 ∧
    (let b : State := { hd .run with bob := { (hd .run).bob with mem := [(0, 1), (9, 2)], errs := [⟨1, 1⟩, ⟨2, 3⟩] } }
     let r := access 6 0 6 [0] 0 b
     r.1 = 0 ∧ r.2.1 = [0x01000000, 0, 0x00020000, 0, 0, 3] ∧ r.2.2.bob.ue = 1 ∧ r.2.2.bob.ce = 1) := by decide +kernel
/-- Frames that wait: while the core restarts, and one that link service does not handle in time; and link service that runs again. -/
theorem witness_HeadExecutesItsTransactionsAtOnce_waits :
    let q : State := { hd .run with sys := { (hd .run).sys with phase := .coreRestart } }
    let late : HostHdr := { rdOk 63 1 with handled := false }
    let n (h : HostHdr) (s : State) : Nat := (after (exec (.rd h) s)).host.trans.length
    let w := after (exec (.rd late) (hd .run))
    isHead q = true ∧ linkUp q = true ∧ coreRuns q = false ∧ acceptJudge 1 (rdOk 63 1) [] (atUs 0 q) = 0 ∧
    acceptJudge 4 (snapOk 0 3) [3] (atUs 0 q) = 0 ∧ acceptJudge 2 (sealed 2 (hdr 0 0 0x0320 1) [2, 0]) [2, 0] (atUs 0 q) = 0 ∧
    (n (rdOk 63 1) q = 1 ∧ n late (hd .run) = 1 ∧ n (rdOk 63 1) (hd .run) = 0) ∧
    (postDue w = false ∧ (after (exec (.postProcessing true) w)).host.doneQ = [63]) ∧
    ((after (exec (.rd (rdOk 62 1)) w)).host.doneQ = [63, 62]) ∧ linkUp (inPhase .lowPower) = false := by decide +kernel
/-- To a member of the map, to an address outside it, and the two broadcasts. -/
theorem witness_AcceptedTransactionsTakeTheirWay :
    let s : State := { hd .run with enum := { (hd .run).enum with map := [{ addr := 1 }, { addr := 2 }, { addr := 62 }] } }
    let w2 := sealed 2 (hdr 0 0 0x0320 1) [2, 0]
    isHead s = true ∧ coreRuns s = true ∧ s.enum.map.any (fun e => e.addr == 62) = true ∧
    acceptJudge 1 (rdOk 63 62) [] (atUs 0 s) = 0 ∧ s.enum.map.any (fun e => e.addr == 61) = false ∧
    acceptJudge 1 (rdOk 63 61) [] (atUs 0 s) = 0 ∧ acceptJudge 2 w2 [2, 0] (atUs 0 s) = 0 ∧ w2.addr = 0 ∧
    acceptJudge 4 (snapOk 0 1000) [1000] (atUs 0 s) = 0 ∧ (snapOk 0 1000).addr = 0 := by decide +kernel
theorem witness_RepliesAreDeliveredOnceAndKept :
    let done_ := tagWith (hd .run) 63 { busy := true, done := true, reply := some {} }
    let s : State := { done_ with host := { done_.host with doneQ := [63] } }
    isHead s = true ∧ coreRuns s = true ∧ s.host.doneQ = [63] ∧ acceptJudge 0xC (fetchOk 0xC 0) [] (atUs 0 s) = 0 ∧
    acceptJudge 0xD (fetchOk 0xD 63) [] (atUs 0 s) = 0 ∧
    acceptJudge 0xE (fetchOk 0xE 63) [] (atUs 0 (tagWith s 63 { last := some {} })) = 0 := by decide +kernel
theorem witness_AbortedFrameIsOnlyCounted :
    let s : State := { hd .run with host := { (hd .run).host with abort := 255 } }
    isHead s = true ∧ coreRuns s = true ∧ (after (exec .frameAbort s)).host.abort = 255 := by decide +kernel

/-! ### Witnesses: register writes -/

/-- Refused writes: a reserved offset (2), a read-only register (3), a value out of range (1), a page that does not exist,
and `HOST` of a member. -/
theorem witness_RefusedWriteLeavesOnlyItsTrace :
    let s := dev .run
    coreRuns s = true ∧ writeOf (.registerWrite 0x0354 0) = some (0x0354, 0) ∧ writeCode 0x0354 0 s = 2 ∧
    writeCode 0x0350 0 s = 3 ∧ writeCode 0x0320 3 s = 1 ∧ pageExists 0x1A = false ∧ writeCode 0x1A20 0 s ≠ 0 ∧
    writeOf (.registerWrite 0xFFFC 0) = some (0xFFFC, 0) ∧ writeCode 0xFFFC 0 s ≠ 0 ∧ isHead s = false ∧ writeCode 0x0220 4 s ≠ 0 ∧
    writeOf (.sealConfirm 1) = some (0x1084, 1) ∧ writeCode 0x1084 1 s ≠ 0 := by decide +kernel
/-- A WR of two registers whose second refuses (1) and one whose first does, the same as a broadcast; ranges that end at
the end of their page and one register past it; an MWR into a value out of range; an RD of a page that does not exist. -/
theorem witness_RefusedWriteLeavesOnlyItsTrace_multi :
    let s := dev .run
    let code (b : Bool) (l : List (Nat × Word)) (k : Nat) : Nat :=
      judgeReg s (l.foldl (fun c e => cfgPut e.1 e.2 c) s.cfgW) (l.getD k (0, 0)).1 (l.getD k (0, 0)).2 b false
    (∀ b : Bool, code b [(0x0624, 8), (0x0628, 2001)] 0 = 0 ∧ code b [(0x0624, 8), (0x0628, 2001)] 1 = 1 ∧
      code b [(0x0624, 9), (0x0628, 2001)] 0 = 1) ∧
    0x06FC % 256 + 4 * 1 = 256 ∧ 256 < 0x06FC % 256 + 4 * 2 ∧ code true [(0x06FC, 0)] 0 = 2 ∧
    writeCode 0x0624 (mwrValue s 0x0624 0xF 9) s = 1 ∧ pageExists (0x1A00 / 256) = false := by decide +kernel
/-- Each register at both ends of its range, and one value beyond, on a running core without an OTP request. -/
theorem witness_PlainRwRegistersTakeTheWrittenValue :
    let s := dev .run
    coreRuns s = true ∧ s.otp.req = none ∧ s.otp.job = none ∧
    (∀ e ∈ [(0x0320, 0, 2), (0x0624, 0, 8), (0x0628, 10, 2000), (0x0630, 10, 22), (0x0A24, 1, 65535), (0x1520, 1, 15), (0x153C, 0, 255)],
      (after (exec (.registerWrite (BitVec.ofNat 16 e.1) (BitVec.ofNat 32 e.2.1)) s)).pgErr = s.pgErr ∧
      (after (exec (.registerWrite (BitVec.ofNat 16 e.1) (BitVec.ofNat 32 e.2.2)) s)).pgErr = s.pgErr ∧
      (after (exec (.registerWrite (BitVec.ofNat 16 e.1) (BitVec.ofNat 32 (e.2.2 + 1))) s)).pgErr ≠ s.pgErr) := by decide +kernel
/-- The registers of several fields: each at values it takes, and at one past a field's range, a tie, or a mode. -/
theorem witness_PlainRwRegistersTakeTheWrittenValue_fields :
    let s := dev .run
    let c (a : Nat) (v : Word) (s : State) : Nat :=
      ((after (exec (.registerWrite (BitVec.ofNat 16 a) v) s)).pgErr.getD (a / 256) {}).code
    coreRuns s = true ∧ s.otp.req = none ∧
    [(0x0920, (0x03E70003 : Word)), (0x0D20, 0x00961194), (0x0D20, 0x000003E8), (0x0D24, 50), (0x0D24, 1000), (0x1420, 0x82),
      (0x1624, 0x00010E10), (0x1624, 1), (0x1628, 0x138801F4), (0x162C, 0x7FFF8000), (0x1244, 0), (0x1258, 0)].all
      (fun e => c e.1 e.2 s == 0 || (e.1 / 256 == 0x12)) = true ∧
    (c 0x0920 0x03E80000 s = 1 ∧ c 0x0D20 0x00971194 s = 1 ∧ c 0x0D24 49 s = 1 ∧ c 0x1420 0x90 s = 1 ∧ c 0x1624 0 s = 1 ∧
      c 0x1628 0x01F401F4 s = 1 ∧ c 0x162C 0x80007FFF s = 1 ∧ c 0x0920 4 s = 1) ∧
    (c 0x0D20 0x00961194 (dev .standby) = 3 ∧ c 0x1420 1 { s with bob := { s.bob with st := 2 } } = 5) ∧
    (∀ e ∈ [(0x1244, CReg.colEnD), (0x1248, .colEnC), (0x124C, .colEnH), (0x1258, .colLvl2), (0x1268, .colLvl6), (0x126C, .colLvl7)],
      c e.1 (cfgGet s.cfgW e.2) s = 0) := by decide +kernel
/-- Values at the ends of each range that differ from the values in force, or equal them; COMMISSION unsealed and sealed,
FACTORY, RUN. -/
theorem witness_SealedFieldsFollowModeAndSeal :
    let s := dev .commission
    coreRuns s = true ∧ s.otp.req = none ∧ s.otp.job = none ∧ s.safe.sealed = false ∧ inMode (dev .factory) .factory = true ∧
    (∀ e ∈ [(CReg.measXchk, 5, 0, 5, 50), (.syncRshunt, 23, 0, 10000, 16777215), (.safeIdir, 11, 0, 1, 4095), (.safeDeg, 26, 16, 10, 1800)],
      bits (BitVec.ofNat 32 (e.2.2.2.1 <<< e.2.2.1)) e.2.1 e.2.2.1 = e.2.2.2.1 ∧
      bits (BitVec.ofNat 32 (e.2.2.2.2 <<< e.2.2.1)) e.2.1 e.2.2.1 = e.2.2.2.2 ∧
      bits (cfgGet s.cfgW e.1) e.2.1 e.2.2.1 ≠ e.2.2.2.1 ∧ bits (cfgGet s.cfgW e.1) e.2.1 e.2.2.1 ≠ e.2.2.2.2) ∧
    (after (exec (.registerWrite 0x1040 4095) s)).pgErr = s.pgErr ∧
    (after (exec (.registerWrite 0x1040 4095) (dev .factory))).pgErr = s.pgErr ∧
    (after (exec (.registerWrite 0x1040 4095) { s with safe := { s.safe with sealed := true } })).pgErr.getD 0x10 {} = ⟨4, 1, 0x40⟩ ∧
    (after (exec (.registerWrite 0x1040 4095) (dev .run))).pgErr.getD 0x10 {} = ⟨3, 1, 0x40⟩ ∧
    (after (exec (.registerWrite 0x1040 10) (dev .run))).pgErr = s.pgErr := by decide +kernel
/-- NCELL at both ends, and voltage limits that keep their order or break it, unsealed and sealed. -/
theorem witness_SealedFieldsFollowModeAndSeal_ties :
    let s := dev .commission
    let w (a : Nat) (v : Word) (s : State) : Nat :=
      ((after (exec (.registerWrite (BitVec.ofNat 16 a) v) s)).pgErr.getD 0x10 {}).code
    let sealed_ : State := { s with safe := { s.safe with sealed := true } }
    coreRuns s = true ∧ s.otp.req = none ∧ s.otp.job = none ∧ s.safe.sealed = false ∧
    w 0x1020 0xFFFF0108 s = 0 ∧ w 0x1020 0x00010020 s = 0 ∧ w 0x1020 0x00010007 s = 1 ∧
    (w 0x1020 0x00010008 sealed_ = 4 ∧ w 0x1020 0x00010008 (dev .run) = 3) ∧
    (bits (cfgGet s.cfgW .safeVov) 12 0, bits (cfgGet s.cfgW .safeVov) 28 16, bits (cfgGet s.cfgW .safeVuv) 12 0) = (4200, 4300, 2800) ∧
    (w 0x1024 0x10FE1036 s = 0 ∧ w 0x1024 0x10361036 s = 1 ∧ w 0x1028 0x07D00A28 s = 0 ∧ w 0x1028 0x0A280A28 s = 1) ∧
    (w 0x1024 (cfgGet s.cfgW .safeVov) (dev .run) = 0 ∧ w 0x1024 0x10FE1036 (dev .run) = 3) := by decide +kernel
theorem witness_ReadOnlyAndReservedOffsetsRefuse :
    let s := dev .standby
    coreRuns s = true ∧ s.otp.req = none ∧ bits (0xFFFFFFFF : Word) 1 0 = 3 ∧
    (∀ a ∈ [0x0324, 0x0350, 0x1820, 0x1834, 0x183C, 0x1920, 0x1924, 0x192C, 0x1950], writeCode a 0 s = 3) ∧
    (∀ a ∈ [0x0354, 0x03FC, 0x1840, 0x18FC, 0x1954, 0x19FC], writeCode a 0 s = 2) := by decide +kernel
theorem witness_ActionRegistersHoldTheirRequest_kept :
    coreRuns (dev .run) = true ∧ (dev .run).otp.req = none ∧ (dev .run).otp.job = none ∧
    (3 : Word) &&& 0xFFFFFFFC = 0 ∧
    [(0x01180100 : Word), 0x014A0A0F].all (fun v => v &&& 0xFE00F0F0 = 0 ∧ 280 ≤ bits v 24 16 ∧ bits v 24 16 ≤ 330 ∧
      1 ≤ bits v 11 8 ∧ bits v 11 8 ≤ 10) = true := by decide +kernel
/-- An own shunt and a word from the head, each with three slots of data: the window that fills, one not yet full, a stitch
without data before and at the restart, a negative and a saturated estimate, an unpopulated cell. -/
def impPart (own : Bool) (n : Nat) (m : MeasSt → MeasSt) (i : ImpSt → ImpSt) : State :=
  let s := withCfg .syncRshunt 50000 (withCfg .impVarThr 1 (withCfg .impCfg 0x106 (withCfg .syncIcfg (if own then 3 else 0)
    (withCfg .safeHarness (BitVec.ofNat 32 n) (dev .run)))))
  let cells (v : Int) : List Sub := (List.range 32).map (fun c => ⟨if c = 1 then 3300000 - v else 3300000 + v, 0⟩)
  { s with
    meas := m { s.meas with prevModOn := true, prevFirst := 0, prevLen := 3, prevShunt := [⟨0, 0⟩, ⟨8000, 0⟩, ⟨16000, 0⟩]
                            prevSubs := [cells 0, cells 10, cells 20]
                            cells := List.replicate 32 { stale := false }
                            res := { s.meas.res with cells := List.replicate 32 (some ⟨3300000, 0⟩) } }
    imp := i { s.imp with curValid := true, curMap := 7, curSubs := [0, 8000, 16000] } }
theorem witness_ImpedanceWindowIsPublished :
    let e : ImpEnt := { p := 3, b := 100000000000000, a := List.replicate 32 (some 300000000000) }
    let full (i : ImpSt) : ImpSt := { i with fill := 63, win := List.replicate 63 (some e), z := List.replicate 32 (5, true, true) }
    let z (s : State) (n : Nat) : Nat × Bool × Bool := (impStep s).imp.z.getD n (0, false, false)
    let gone (m : MeasSt) : MeasSt := { m with prevShunt := [] }
    impRuns (impPart true 32 id id) = true ∧ impRuns (dev .run) = false ∧ impRuns (impPart true 32 id full) = true ∧
    ((impStep (impPart true 32 id full)).imp.fill = 64 ∧ bit (impStep (impPart true 32 id full)).imp.valid 0 = true) ∧
    ((impStep (impPart false 32 id id)).imp.fill = 1 ∧ (impStep (impPart false 32 id id)).imp.valid = 0 ∧
      (impStep (impPart false 32 id id)).imp.csrc = 2) ∧
    (z (impPart true 32 id id) 1 = (0, true, false) ∧ 0 < (z (impPart true 32 id id) 0).1 ∧
      z (impPart true 8 id full) 8 = (0, false, false)) ∧
    (z (impPart true 32 id (fun i => { i with win := [some { e with a := List.replicate 32 (some (10 ^ 22)) }] })) 0).2.2 = true ∧
    ((impStep (impPart true 32 gone (fun i => { full i with noData := 15 }))).imp.fill = 64 ∧
      (impStep (impPart true 32 gone (fun i => { full i with noData := 16 }))).imp.fill = 0) := by decide +kernel
/-- The boundary of O21: with the settings unchanged, and with WIN_K changed or EN raised there. -/
theorem witness_ImpedanceWindowIsPublished_boundary :
    let s := impPart true 32 (fun m => { m with published := true }) id
    let off := withCfg .impCfg 6 s
    let k (c : Cfg) : Nat := bits (cfgGet c .impCfg) 3 0
    let en (c : Cfg) : Bool := bit (cfgGet c .impCfg) 8
    let asks (s : State) : Bool := hwslOn s && coreRuns s && s.sys.mode.isSome && !s.time.fresh && s.dev.inbox.isEmpty &&
      s.dev.bcasts.isEmpty && decide (s.safe.misses < 15) && !thermalDue s && s.meas.published
    let written (s : State) (w : Word) : State := { s with cfgW := cfgSet s.cfgW .impCfg w }
    let up := written off 0x106
    let w := written s 0x107
    asks s = true ∧ asks up = true ∧ asks w = true ∧ s.time.shed ≠ 1 ∧
    (en up.cfg = false ∧ en up.cfgW = true ∧ k up.cfg = k up.cfgW) ∧ k w.cfg ≠ k w.cfgW ∧
    boundaryIn.load.toNat ≤ 850 := by decide +kernel
/-- The action registers: an acknowledge in each of its modes, the unlock key, the search at an idle head, timers that
differ from the values in force or equal them at both ends of the cells, and the calibration commands. -/
theorem witness_ActionRegistersHoldTheirRequest :
    let s := dev .commission
    let u : State := { s with safe := { s.safe with state := .lockout } }
    coreRuns s = true ∧ s.otp.req = none ∧ s.otp.job = none ∧
    (inMode (dev .standby) .standby = true ∧ inMode s .commission = true ∧ inMode (hd .run) .run = true ∧ isHead (hd .run) = true) ∧
    ((0 : Word) &&& 0xFFFF0000 = 0 ∧ bits (0 : Word) 15 0 = bits (sealGen u) 15 0 ∧ u.safe.a.sdi = false ∧ u.safe.b.sdi = false) ∧
    (hd .run).enum.phase = 0 ∧
    (∀ k ∈ [(0 : Fin 16), 15], 2 * k.val + 1 < bits (cfgGet (dev .run).cfgW .safeHarness) 5 0 ∧
      bits (0xFFFFFFFF : Word) 15 0 ≠ tmrRead (dev .run).bal (2 * k.val) ∧ bits (0xFFFFFFFF : Word) 31 16 ≠ tmrRead (dev .run).bal (2 * k.val + 1) ∧
      bits (0 : Word) 15 0 = tmrRead (dev .run).bal (2 * k.val) ∧ bits (0 : Word) 31 16 = tmrRead (dev .run).bal (2 * k.val + 1) ∧
      bits (0xFFFF : Word) 15 0 ≠ tmrRead (dev .run).bal (2 * k.val) ∧ bits (0xFFFF : Word) 31 16 = tmrRead (dev .run).bal (2 * k.val + 1)) ∧
    inMode (dev .factory) .factory = true ∧ (15 : Word).toNat < 16 := by decide +kernel
theorem witness_DiagRequestsAreAccepted :
    let s := dev .run
    let c := dev .commission
    let i (s : State) : Prop := coreRuns s = true ∧ s.otp.req = none ∧ s.otp.job = none ∧ awake s = true ∧ s.sys.startDone = true ∧
      s.diag.unit = none ∧ s.diag.hostQ = [] ∧ s.diag.reqPend = none
    i s ∧ i c ∧ inMode c .run = false ∧ inMode s .run = true ∧
    (∀ sc ∈ [(0 : BitVec 3), 3, 4], sc.toNat ≤ 4 ∧ (sc.toNat < 4 → 8 * sc.toNat < ncell s) ∧ losesBoth s 4 sc.toNat = false) ∧
    losesBoth s 5 0 = false ∧ s.diag.tvPend = false ∧ s.diag.tvLeft = none := by decide +kernel
/-- In RUN: a CTT bit of a cell next to the group, of one of the group and of one outside; a group of fresh results and one with a
stale one; and BST in STANDBY. -/
theorem witness_DiagRequestsAreAccepted_paths :
    let s (n : Nat) : State := { dev .run with diag := { (dev .run).diag with ctt := 1 <<< n } }
    let f (n : Nat) : State := { dev .run with meas := { (dev .run).meas with
      cells := (List.replicate 32 { stale := false, oor := false }).set n {} } }
    let asked (c : Instr) (s : State) : Bool := (after (exec c s)).diag.reqPend.isSome
    (asked (.reqOw 1) (s 7) = false ∧ asked (.reqOw 1) (s 16) = false ∧ asked (.reqOw 1) (s 6) = true ∧ asked (.reqOw 1) (s 17) = true) ∧
    (asked (.reqPzt 1) (s 8) = false ∧ asked (.reqPzt 1) (s 7) = true) ∧
    (asked (.reqCtt 3) (f 31) = false ∧ asked (.reqCtt 3) (f 23) = true ∧ asked (.reqCtt 4) (f 23) = false) ∧
    asked (.reqBst 0) (dev .standby) = false := by decide +kernel
theorem witness_CollectorRegistersAct :
    let s := hd .run
    let q : State := { s with col := { s.col with queue := [{ source := 127, first := 65535 }] } }
    coreRuns s = true ∧ s.otp.req = none ∧ s.otp.job = none ∧ (0x7F : Word) &&& 0xFFFFFF80 = 0 ∧
    [(0x80000000 : Word), 0x8000007E].all (fun v => v &&& 0xFFFFFF80 = 0x80000000 ∧ srcReserved (bits v 6 0) = false) = true ∧
    isHead q = true ∧ q.col.queue = [{ source := 127, first := 65535 }] ∧ inMode (dev .factory) .factory = true ∧
    (0x00FF017F : Word) &&& 0xFF00FE80 = 0 ∧ (dev .factory).col.injSrc = none ∧
    some 127 = some (bits (0x00FF017F : Word) 6 0) := by decide +kernel

/-- Sources of every level, alone and two of one stitch, escalated, disabled and injected; copies with a parity error. -/
theorem witness_OccurrencesActByTheirLevel :
    let p (n : Nat) (f : ColSt → ColSt) (s : State) : State :=
      { s with col := f { s.col with pulse := srcBit n, order := [n] } }
    let d := dev .run
    let again (c : ColSt) : ColSt := { c with lat := srcBit 44, latOcc := srcBit 44 }
    let eff (n : Nat) (s : State) : Nat := (colEval s).col.eff.getD n 0
    (d.col.cnt.length = 128 ∧ d.col.steps.length = 128 ∧ d.col.eff.length = 128 ∧ (p 44 id d).col.order.Nodup ∧
      srcReserved 44 = false ∧ srcReserved 127 = true ∧ enabled d.cfg 44 = true ∧ d.col.dyn = 0 ∧ d.col.injSrc = none) ∧
    (eff 44 (p 44 id d) = 2 ∧ eff 44 (p 44 again d) = 3 ∧ tripped (colEval (p 44 again d)) = true ∧
      eff 44 (p 44 (fun c => { again c with latOcc := 0 }) d) = 2 ∧ eff 96 (p 96 id d) = 0 ∧ eff 34 (p 34 id d) = 1 ∧
      eff 43 (p 43 id d) = 3) ∧
    (let s := p 44 (fun c => { c with pulse := 0, order := [], injSrc := some 44 }) d
     (colEval s).col.cnt.getD 44 0 = 1 ∧ (colEval (p 44 (fun c => { c with dyn := srcBit 44, injSrc := some 44 }) d)).col.cnt.getD 44 0 = 1 ∧
      (colEval (p 44 (fun c => { c with dyn := srcBit 44, dynReal := srcBit 44 }) d)).col.cnt.getD 44 0 = 0) ∧
    (let s := withCfg .colEnD 0 (p 44 id d)
     enabled s.cfg 44 = false ∧ (colEval s).col.cnt.getD 44 0 = 1 ∧ (colEval s).col.lat.getLsbD 44 = false) ∧
    ((p 34 id d).col.stand ||| (p 34 id d).col.pulse = BitVec.ofNat 128 (2 ^ 34) ∧ isHead d = false ∧ d.col.recs = [] ∧
      isHead (p 34 id (hd .run)) = true) ∧
    (eff 35 (withCfg .colCfg 1 (p 35 id d)) < fld (withCfg .colCfg 1 d) .colCfg 1 0 ∧
      ((colEval (p 34 (fun c => { c with fer := some { source := 9 } }) d)).col.fer.map Fer.more) = some true ∧
      ((colEval (p 34 (fun c => { c with kept := srcBit 34 }) d)).jrnl = d.jrnl)) ∧
    (let s := { withCfg .recFselD 0xFFFFFFFF (p 44 id d) with bob := { d.bob with st := 1 } }
     eff 44 s = 2 ∧ freezeSel s.cfg 44 = true ∧ (colEval s).bob.st = 2) ∧
    (let s := p 41 (fun c => { c with pulse := srcBit 41 ||| srcBit 35, order := [41, 35] }) d
     s.col.stand ||| s.col.pulse = BitVec.ofNat 128 (2 ^ 41 + 2 ^ 35) ∧ fld s .colCfg 1 0 = 0 ∧ s.col.fer = none ∧
      enabled s.cfg 35 = true) ∧
    (hwslOn (p 44 id d) = true ∧ coreRuns d = true ∧ d.time.fresh = false ∧ d.dev.inbox = [] ∧ d.dev.bcasts = [] ∧
      boundaryIn.copyB = none ∧ d.safe.misses < 15 ∧ thermalDue d = false ∧ d.sys.mode.isSome = true ∧
      enabled (withCfg .colEnD 0 d).cfgW 44 = false ∧ assigned d.cfgW 43 = 3 ∧ assigned d.cfgW 44 = 2) ∧
    (let x : CopyB := { safety := 0, col := { en := 0, inj := 0, real := 0, dyn := 0, lat := 0, lvl := [], eff := [], steps := [], cnt := [] }
                        sealSet := [], parityErr := true }
     let i := { boundaryIn with copyB := some x }
     i.copyB = some x ∧ x.parityErr = true) := by decide +kernel

/-- The bytes that the seal of R419 covers, of the reset configuration. -/
def sealBytes : List Byte := 1#8 :: (setWords sealRegs {}).flatMap wordBytes
theorem seal_first_bytes : (sealBytes.take 40).foldl crc32Byte 0xFFFFFFFF#32 = 0x1a005a8e#32 := by decide +kernel
theorem seal_last_bytes : (sealBytes.drop 40).foldl crc32Byte 0x1a005a8e#32 = 0x7b29f4ae#32 := by decide +kernel
/-- The seal of the reset configuration, computed over its two halves. -/
theorem seal_of_reset : sealOf {} = 0x84d60b51#32 := by
  show (sealBytes.foldl crc32Byte 0xFFFFFFFF#32) ^^^ 0xFFFFFFFF#32 = _
  rw [← List.take_append_drop 40 sealBytes, List.foldl_append, seal_first_bytes, seal_last_bytes]
  decide
/-- A sealed device in COMMISSION, its SAFETY generation 0 in force; of that generation only the seal is written out. -/
def sealedDev : State :=
  let s := dev .commission
  { s with
    otp := { s.otp with usedS := 1, validS := 1, genS := some 0, mem := memSetBytes [] (blockBase 3 0 + 84) (wordBytes 0x84d60b51) }
    safe := { s.safe with sealed := true } }
theorem seal_of_sealedDev : sealOf sealedDev.cfgW = 0x84d60b51#32 := seal_of_reset
/-- One state for each row of R421, in its order, and one that is accepted; and a pending request. -/
theorem witness_SealConfirmFollowsItsTable :
    let s := dev .commission
    let v := sealOf s.cfgW
    let p : State := { s with otp := { s.otp with req := some { block := 3 } } }
    let full : State := { s with otp := { s.otp with usedS := 15 } }
    p.otp.req = some { block := 3 } ∧ p.thrm.otpInh = false ∧ coreRuns s = true ∧ inMode (dev .run) .commission = false ∧
    p.otp.req.isSome = true ∧ v + 1 ≠ v ∧
    (sealedDev.safe.sealed = true ∧ sealOf sealedDev.cfgW = sealGen sealedDev) ∧
    gensLeft full.otp.usedS = 0 ∧ full.safe.sealed = false ∧ gensLeft s.otp.usedS = 4 ∧ s.otp.req = none ∧ s.otp.job = none := by
  refine ⟨rfl, rfl, rfl, rfl, rfl, by simp, ⟨rfl, ?_⟩, by decide, rfl, by decide, rfl, rfl⟩
  rw [seal_of_sealedDev]
  decide +kernel

/-- The same device with a pack key staged and the pack seal known, and with its PACK generation 0 in force. -/
def stagedDev : State :=
  { sealedDev with mirr := { sealedDev.mirr with staged := [some 1, some 2, some 3, some 4] }, safe := { sealedDev.safe with psealOk := true, pseal := 5 } }
def packedDev : State :=
  { stagedDev with otp := { stagedDev.otp with
    usedP := 1, validP := 1, genP := some 0
    mem := memSetBytes stagedDev.otp.mem (blockBase 4 0 + 4) ([(1 : Word), 2, 3, 4, 0, 2, 5, 0xbe23].flatMap wordBytes) } }
/-- One state for each row of R424, in its order, and one that is accepted. -/
theorem witness_PackConfirmAndOtpCommandFollowTheirTables :
    let h : State := { stagedDev with sys := { stagedDev.sys with role := .head, addr := 1 } }
    inMode (dev .run) .commission = false ∧ (dev .commission).safe.sealed = false ∧ coreRuns sealedDev = true ∧
    (sealedDev.safe.sealed = true ∧ sealedDev.otp.req = none ∧ sealedDev.otp.job = none ∧ stagedKey sealedDev = none) ∧
    (isHead h = true ∧ cfgGet h.cfgW .packMap = h.enum.mapChk ∧ (6 : Word) ≠ h.safe.pseal ∧ stagedKey h ≠ none) ∧
    (isHead stagedDev = false ∧ stagedDev.safe.psealOk = true ∧ (5 : Word) = stagedDev.safe.pseal ∧ (6 : Word) ≠ stagedDev.safe.pseal) ∧
    packHeld packedDev.cfgW 5 packedDev = true ∧ packedDev.safe.sealed = true ∧ gensLeft stagedDev.otp.usedP = 4 ∧
    gensLeft 15 = 0 := by decide +kernel
/-- One state and block for each row of R509. -/
theorem witness_PackConfirmAndOtpCommandFollowTheirTables_otp :
    let s := dev .standby
    let p : State := fresh { s with otp := { s.otp with req := some { block := 5 } } }
    let trim : State := fresh { dev .factory with otp := { (dev .factory).otp with req := some { block := 1 } } }
    let held : State := { s with otp := { s.otp with
      genC := some 0, usedC := 1, mem := memSetBytes [] (blockBase 5 0 + 4) ((setWords configRegs s.cfgW).flatMap wordBytes) } }
    let f := dev .factory
    let u : State := { f with otp := { f.otp with mem := [(0, 1), (0xF0, 1)] } }
    coreRuns s = true ∧ p.otp.req = some { block := 5 } ∧ p.thrm.otpInh = false ∧ p.pwr.buckFault = false ∧ p.time.fresh = true ∧
    (inMode trim .factory = true ∧ trim.sys.modeDue = false ∧ ((after (exec .otpProgramStart trim)).otp.job.map OtpJob.block) = some 1) ∧
    inMode s .factory = false ∧ inMode (dev .run) .standby = false ∧ inMode (dev .run) .commission = false ∧
    (held.otp.genC = some 0 ∧ setWords configRegs held.cfgW = ((genWords held.otp 5 0).drop 1).take 32) ∧
    gensLeft (15 : BitVec 4) = 0 ∧ gensLeft s.otp.usedC = 4 ∧ genUsed u.otp 1 1 = true ∧ genUsed u.otp 2 0 = true ∧
    genUsed f.otp 1 1 = false ∧ genUsed f.otp 2 0 = false := by decide +kernel

/-! ### Witnesses: modes, starts, power -/

/-- A member of a pack: SAFETY and PACK generations in force, commissioned at address 2, the downstream message received. -/
def commissioned (s : State) : State :=
  { s with otp := { s.otp with genS := some 0, genP := some 0, mem := memSetBytes [] (blockBase 4 0 + 24) (wordBytes 2) }
           link := { s.link with thrd := some 0 } }
/-- A sealed member in STANDBY may ask for RUN; one without a generation, one before START_DONE, and a head may not. A
member at address 63 with a change that waits ignores a broadcast. -/
theorem witness_ModeRequestsFollowTheTable :
    let g := commissioned
    let lost : State := { dev .run with sys := { (dev .run).sys with addr := 63, modeNext := some .standby } }
    let idle (s : State) : Prop := coreRuns s = true ∧ s.sys.modeNext = none ∧ s.otp.req = none ∧ s.otp.job = none
    let waits : State := { dev .run with sys := { (dev .run).sys with modeNext := some .standby } }
    let pass : State := { g (dev .standby) with sys := { (dev .standby).sys with startDone := false } }
    let woken : State := { dev .standby with sys := { (dev .standby).sys with wakePend := true } }
    idle (dev .standby) ∧ idle (dev .commission) ∧ idle (dev .run) ∧ (dev .standby).sys.addr ≠ 63 ∧
    (coreRuns waits = true ∧ waits.sys.modeNext ≠ none ∧ waits.sys.addr ≠ 63) ∧
    (coreRuns lost = true ∧ (after (exec (.modeReq 4 true) lost)).pgErr = lost.pgErr ∧
      (after (exec (.modeReq 4 false) lost)).pgErr ≠ lost.pgErr) ∧
    ((g (dev .commission)).otp.genS.isSome = true ∧ (dev .commission).otp.genS.isSome = false) ∧
    (runOwn (g (dev .standby)) = 0 ∧ runOwn (dev .standby) = 0xA ∧ runOwn pass = 5 ∧ runAll (g (hd .standby)) = 0xA) ∧
    (woken.sys.wakePend = true ∧ (dev .standby).sys.wakePend = false) ∧
    (inMode (dev .standby) .standby = true ∧ inMode (dev .commission) .commission = true ∧ inMode (dev .run) .run = true) ∧
    [(0 : Word), 1, 2, 3, 4, 5, 6, 7].all (fun v => v.toNat < 8) = true := by decide +kernel
theorem witness_ModeChangesTakeEffectAndMembersAreAdmitted :
    let s (from_ tgt : Mode) : State := { dev from_ with
      sys := { (dev from_).sys with modeNext := some tgt, modeDue := true }
      bal := { (dev from_).bal with sw := 5, tmr := List.replicate 32 9 }, safe := { (dev from_).safe with pins := 15, state := .degraded } }
    let m (from_ tgt : Mode) : Option Mode := (after (exec .modeChange (s from_ tgt))).sys.mode
    coreRuns (s .run .standby) = true ∧ m .run .standby = some .standby ∧ m .commission .standby = some .standby ∧
    m .standby .run = some .run ∧ m .standby .commission = some .commission ∧ m .standby .sleep = some .sleep ∧
    m .commission .ship = some .ship ∧
    (let x := s .standby .factory
     let open_ : State := { x with sys := { x.sys with lockOpen := true } }
     x.sys.lockOpen = false ∧ (after (exec .modeChange x)).sys.mode = some .standby ∧
     (after (exec .modeChange x)).sys.modeNext = none ∧ (after (exec .modeChange open_)).sys.mode = some .factory) ∧
    (inMode (s .factory .standby) .factory = true ∧ m .factory .standby = none) := by decide +kernel
/-- A device that leaves COMMISSION unsealed and with a changed limit, for each mode it may leave to; one that was sealed. -/
theorem witness_ModeChangesTakeEffectAndMembersAreAdmitted_seal :
    let s (m : Mode) : State := { dev .commission with
      sys := { (dev .commission).sys with modeNext := some m, modeDue := true, lockOpen := true }
      otp := { (dev .commission).otp with genS := some 0 } }
    let x := withCfg .safeIdir 9 (s .standby)
    (coreRuns x = true ∧ inMode x .commission = true ∧ x.safe.sealed = false ∧ x.otp.genS = some 0) ∧
    (cfgGet (reseal x).cfg .safeIdir = 0 ∧ cfgGet (reseal x).cfgW .safeIdir = 0) ∧
    ([Mode.standby, .ship, .factory].all (fun m => (after (exec .modeChange (s m))).safe.sealed)) = true ∧
    (inMode { s .ship with safe := { (s .ship).safe with sealed := true } } .factory = false ∧
      ∀ e ∈ sealRegs, e.1 ≠ CReg.measFilt) := by decide +kernel
/-- A change to SLEEP and to SHIP, of a head with a frame in its port, and one that a thermal shutdown is about to hold. -/
theorem witness_ModeChangesTakeEffectAndMembersAreAdmitted_low :
    let h (m : Mode) : State := { hd .run with
      sys := { (hd .run).sys with modeNext := some m, modeDue := true }, host := { (hd .run).host with abort := 3, irq := true } }
    let x := withCfg .hostCfg 0x103 (h .ship)
    let hot (s : State) : State := { s with thrm := { s.thrm with sdWait := true } }
    let t := after (exec .modeChange x)
    let lock (s : State) : State := after (exec .factoryLockClose { s with sys := { s.sys with lockOpen := true } })
    (coreRuns x = true ∧ x.thrm.sdWait = false ∧ t.host = {} ∧ cfgGet t.cfg .hostCfg = 1) ∧
    (after (exec .modeChange (h .sleep))).sys.phase = .lowPower ∧ (after (exec .modeChange (hot (h .sleep)))).sys.phase = .coreOn ∧
    ((lock (hot (dev .factory))).sys.phase = .coreOn ∧ (lock (hot (dev .factory))).sys.lockOpen = false) := by decide +kernel
/-- The head of a pack of two, its PACK generation in force, and its member's thread message in STANDBY. -/
def runHead : State :=
  let s := hd .run
  { s with
    otp := { s.otp with genP := some 0 }
    enum := { s.enum with inForce := true, map := [{ addr := 1 }, { addr := 2 }], set := 6 }
    safe := { s.safe with psealOk := true }
    link := { s.link with members := s.link.members.set 2 { thread := some (BitVec.ofNat 128 (2 ^ 22 + 2 * 2 ^ 29)) } } }
theorem witness_ModeChangesTakeEffectAndMembersAreAdmitted_members :
    let s := runHead
    let m : State := commissioned (dev .standby)
    (coreRuns s = true ∧ isHead s = true ∧ inMode s .run = true ∧ s.enum.set.getLsbD 2 = true ∧ mapOk s = true ∧
      psealMatch s = true ∧ (copiesOf s 2).any copyTripped = false ∧
      (after (exec (.memberRunAdmit 2) s)).link.admitTx = some 2) ∧
    (coreRuns m = true ∧ isHead m = false ∧ inMode m .standby = true ∧ m.sys.modeNext = none ∧ runOwn m = 0) ∧
    inMode (dev .factory) .factory = true := by decide +kernel
/-- A head in STANDBY whose pack may run, before START_DONE of its member, and with a map that differs from the generation's. -/
theorem witness_ModeRequestsFollowTheTable_head :
    let h : State := { runHead with
      sys := { runHead.sys with mode := some .standby }, otp := { runHead.otp with genS := some 0 } }
    let next (s : State) : Option Mode := (after (exec (.modeReq 4 true) s)).sys.modeNext
    (h.enum.inForce = true ∧ h.enum.mapChk = packWord h 5 ∧ h.safe.pseal = packWord h 7) ∧ next h = some .run ∧
    next { h with link := { h.link with members := h.link.members.modify 2 (fun x => { x with thread := some 0 }) } } = none ∧
    next { h with enum := { h.enum with mapChk := 1 } } = none := by decide +kernel
/-- A broadcast that asks for RUN, named in STANDBY at a head whose pack meets the conditions of R82, before START_DONE, with a member
that does not report START_DONE, and with one that reports a trip. -/
theorem witness_AcceptByteFollowsItsTable_run :
    let h : State := { runHead with
      sys := { runHead.sys with mode := some .standby }, otp := { runHead.otp with genS := some 0 } }
    let m (f : Member → Member) : State := { h with link := { h.link with members := h.link.members.modify 2 f } }
    let wr : Instr := .wr (sealed 2 (hdr 0 0 0x0024 1) [2, 4]) [2, 4]
    isHead h = true ∧ linkUp h = true ∧ h.enum.mapChk = packWord h 5 ∧ h.safe.pseal = packWord h 7 ∧ acc wr h = 0 ∧
    acc wr { h with sys := { h.sys with startDone := false } } = 5 ∧ acc wr (m (fun x => { x with thread := some 0 })) = 5 ∧
    acc wr (m (fun x => { x with wired := some { addr := 2, safety := .tripped } })) = 0xA ∧
    acc wr { h with enum := { h.enum with set := 2 } } = 0xA := by decide +kernel
theorem witness_StartsRunTheStartPath :
    let ph (p : Phase) (f : Sys → Sys) : State := { State.reset with sys := f { phase := p }, safe := { State.reset.safe with state := .degraded } }
    let id_ (y : Sys) : Sys := y
    let asleep_ (y : Sys) : Sys := { y with mode := some .sleep, role := .head, wake := 2 }
    let held : State := { ph .thermalHeld id_ with thrm := { State.reset.thrm with cool := 100 } }
    let outp : State := { ph .handedOver (fun y => { y with rstAfter := true }) with pwr := { State.reset.pwr with src := 1, handback := 0xFFFF } }
    let cause (c : Instr) (s : State) : Nat × Phase := let t := after (exec c s); (t.sys.startCause, t.sys.phase)
    cause .stackPowerUp (ph .unpowered id_) = (0, .softStart) ∧
    cause (.thermalRestart 100) held = (2, .softStart) ∧
    cause .railFaultRecover (ph .railHeld id_) = (0, .softStart) ∧
    cause .handBack (ph .handedOver id_) = (0, .softStart) ∧ cause .handBack outp = (1, .softStart) ∧
    cause (.rstRelease 7) (ph .lowPower (fun y => { y with mode := some .ship, rstLow := true })) = (5, .softStart) ∧
    cause (.rstRelease 7) (ph .resetHeld (fun y => { y with rstLow := true })) = (1, .softStart) ∧
    cause (.csnWake 100) (ph .lowPower asleep_) = (4, .softStart) ∧
    cause (.wakeToneReceive .u) (ph .lowPower asleep_) = (4, .softStart) ∧
    cause (.wakeToneReceive .l) (ph .lowPower (fun y => { y with mode := some .ship })) = (5, .softStart) := by decide +kernel
/-- A rail out at the restart, a breath check's wake with a rail fault, a hand-back with two resets and time on VBAK, and one
that RST_N holds. -/
theorem witness_StartsRunTheStartPath_holds :
    let ph (p : Phase) (f : PwrSt → PwrSt) : State := { inPhase p with pwr := f (inPhase p).pwr }
    let held : State := { ph .thermalHeld (fun y => { y with railOut := true }) with thrm := { State.reset.thrm with cool := 100 } }
    let back (low : Bool) : State :=
      let s := ph .handedOver (fun y => { y with src := 1, bakSum := some 1500000, bakFrom := some 0 })
      atStitch 2000 { s with sys := { s.sys with rstLow := low, rstAfter := true, rstMs := [7, 9] } }
    (held.thrm.cool = 100 ∧ held.pwr.railOut = true ∧ (after (exec (.thermalRestart 100) held)).sys.phase = .railHeld ∧
      (after (exec .railFaultRecover held)).pwr.railOut = false) ∧
    (after (exec .railFaultRecover (ph .railHeld (fun y => { y with breathWake := true })))).link.toneTx = true ∧
    ((after (exec .handBack (back false))).sys.holdMs = 9 ∧ (after (exec .handBack (back false))).jrnl.mand.length = 2 ∧
      (after (exec .handBack (back false))).pwr.bakTime = 3 ∧ (after (exec .handBack (back true))).sys.phase = .resetHeld) ∧
    (let s : State := { ph .handedOver id with sys := { (ph .handedOver id).sys with rstLow := true } }
     s.sys.rstLow = true ∧ (after (exec (.rstRelease 4) s)).sys.rstMs = [4]) := by decide +kernel
/-- The bytes of a wake frame of pack time 5 under the pack key of zeros, and a sleeping part that accepts it. -/
def wakeFrame : List Byte :=
  let hdr_ : List Byte := [0x80, 0] ++ natBytes 8 5
  let x := hdr_ ++ ccmMic (keyBytes [0, 0, 0, 0]) (nonceOf 5 0x80 0) hdr_ []
  x ++ natBytes 2 (crc16 x).toNat
def sleeper : State :=
  { State.reset with
    sys := { phase := .lowPower, mode := some .sleep, addr := 2 }, otp := { State.reset.otp with genP := some 0 }
    mirr := { State.reset.mirr with sniff := true } }
theorem witness_StartsRunTheStartPath_wakeFrame :
    let s := sleeper
    s.sys.phase = .lowPower ∧ s.sys.mode = some .sleep ∧ s.mirr.sniff = true ∧ s.otp.genP.isSome = true ∧
    wakeFrameOk wakeFrame s = true := by decide +kernel
theorem witness_HoldsKeepTheKeepAliveDomain :
    let kept (s : State) : State := withCfg .kaCfg 0x012C0203 { s with pwr := { s.pwr with retOk := true }, bob := { s.bob with st := 1 } }
    let ph (p : Phase) : State := { State.reset with sys := { phase := p } }
    let is (c : Instr) (s : State) (p : Phase) : Prop := (after (exec c s)).sys.phase = p
    let low : Instr := .rstLow 12000 false
    let waits (s : State) : State := { s with thrm := { s.thrm with sdWait := true } }
    is low (kept (dev .run)) .resetHeld ∧ (after (exec low (kept (dev .run)))).bob.refresh = true ∧
    (after (exec low (dev .run))).bob.refresh = false ∧
    (rstAccepts 12000 false = true ∧ rstAccepts 10000 true = true ∧ rstAccepts 11999 false = false ∧ rstAccepts 9999 true = false) ∧
    is low (ph .coreRestart) .resetHeld ∧ is low (ph .filled) .resetHeld ∧ is low (waits (dev .run)) .resetHeld ∧
    is low sleeper .resetHeld ∧ is low (ph .softStart) .resetHeld ∧
    is .stackPowerDown (dev .run) .unpowered ∧ is .stackPowerDown (ph .resetHeld) .unpowered ∧
    is (.railFault 0) (dev .run) .railHeld ∧ is (.railFault 2) (ph .filled) .railHeld ∧
    ((kept (dev .run)).pwr.src = 0 ∧ is .handOver (kept (dev .run)) .handedOver) ∧
    is .thermalSdRecord (waits (dev .run)) .thermalHeld := by decide +kernel
/-- A rail fault in the held reset of thermal shutdown, the deciding boundary's time in the record, and a breath check's wake that
another hold ends. -/
theorem witness_HoldsKeepTheKeepAliveDomain_faults :
    let hot := inPhase .thermalHeld
    let wait : State := { dev .run with thrm := { State.reset.thrm with sdWait := true, sdPt := 77, sdTd := 5 } }
    (after (exec (.railFault 1) hot)).pwr.railOut = true ∧ (after (exec (.railFault 1) (inPhase .railHeld))).pwr.railOut = false ∧
    (wait.thrm.sdWait = true ∧ (after (exec .thermalSdRecord wait)).sys.phase = .thermalHeld) ∧
    (after (exec .stackPowerDown { hot with pwr := { hot.pwr with breathWake := true } })).pwr.breathWake = false := by decide +kernel
theorem witness_StartStepsFollowThePath :
    let ph (p : Phase) (f : Sys → Sys) : State := { State.reset with sys := f { phase := p } }
    let soft := ph .softStart id
    let again := ph .coreRestart (fun y => { y with modeKept := some .run })
    let late : State := { dev .run with safe := { (dev .run).safe with misses := 16 } }
    (soft.sys.phase = .softStart ∧ soft.sys.rstLow = false ∧ (after (exec .vregQualified soft)).sys.phase = .filled) ∧
    (ph .softStart (fun y => { y with rstLow := true })).sys.rstLow = true ∧
    ((after (exec .coreRelease State.reset)).sys.phase = .coreOn ∧ (after (exec .coreRelease again)).sys.mode = some .run) ∧
    (let s := atStitch 35 (ph .coreOn (fun y => { y with role := .head, listen := true, listenFrom := 15000 }))
     coreRuns s = true ∧ isHead s = true ∧ s.sys.listen = true ∧
     s.sys.listenFrom.toNat + 5000 + 1000 * (s.otp.uid.toNat % 16) ≤ s.time.pt.toNat ∧
     (after (exec .headListenEnd s)).sys.sendDue = 1) ∧
    (let s := ph .coreOn (fun y => { y with passRun := true, rampDone := true, owDone := true })
     coreRuns s = true ∧ s.time.fresh = false ∧ s.sys.passRun = true) ∧
    (coreRuns late = true ∧ 16 ≤ late.safe.misses ∧ (after (exec .coreReset late)).sys.phase = .coreRestart) := by decide +kernel
/-- Breath windows of 3.00 V to 3.60 V: no violation, a cell, a thermistor, a die; no die is read where the free map of log 51
would decide. -/
theorem witness_SleepingPartBreathesAndSniffs :
    let s := withCfg .safeHarness 0x00010020 (withCfg .brCfg 0x0001000A (withCfg .mirrCfg 0x34 sleeper))
    let i : BreathIn := { breathIn with dies := [] }
    let bad (i : BreathIn) : Option (Nat × Nat) :=
      breathJudge i { s with thrm := breathDies (i.dies.map (fun d => dieTemps d s.thrm)) s.thrm }
    let dies (l : List (List Int)) : Option (Nat × Nat) := breathJudge i { s with thrm := breathDies l s.thrm }
    s.sys.phase = .lowPower ∧ s.sys.mode = some .sleep ∧ fbit s .brCfg 16 = true ∧
    bad i = none ∧ (bad { i with coarse := [List.replicate 64 0] }).map (fun e => e.1) = some 1 ∧
    (bad { i with ts := [List.replicate 8 65520] }).map (fun e => e.1) = some 2 ∧
    (dies [List.replicate 8 600, List.replicate 8 600]).map (fun e => e.1) = some 3 ∧
    dies [List.replicate 8 600, List.replicate 8 100] = none ∧
    fbit s .mirrCfg 4 = true ∧ s.otp.genP.isSome = true := by decide +kernel
theorem witness_PowerEventsAct :
    let p (f : PwrSt → PwrSt) : State := withCfg .kaCfg 0x012C0202 { dev .run with pwr := f (dev .run).pwr }
    let chg (n : Nat) : State := p (fun x => { x with chg := n })
    let keeper : State := withCfg .kaCfg 0x012C0206 { dev .run with pwr := { (dev .run).pwr with bakAbsent := true } }
    (let s := p (fun x => { x with buckRun := 8 }); awake s = true ∧ 8 ≤ s.pwr.buckRun ∧ s.pwr.buckFault = false) ∧
    (p (fun x => { x with xtalClk := true })).pwr.xtalClk = true ∧
    (chargerOk (chg 1) = true ∧ vcvMv (chg 1) = 3000 ∧ (after (exec (.chargerCv 3000) (chg 1))).pwr.chg = 2) ∧
    (chargerOk (chg 2) = true ∧ 10 * fld (chg 2) .kaCfg 11 8 = 20 ∧ (after (exec (.chargerFull 19) (chg 2))).pwr.chg = 3) ∧
    (chargerOk (chg 3) = true ∧ (after (exec (.chargerRecharge 2899) (chg 3))).pwr.chg = 1) ∧
    ((chg 1).pwr.bakOv = false ∧ (after (exec (.bakOv 3350) (chg 1))).pwr.bakOv = true) ∧
    (let s := p (fun x => { x with bakOv := true }); let c := p (fun x => { x with bakOv := true, cutForGood := true })
     let r := p (fun x => { x with bakOv := true, restarted := true })
     vcvMv s = 3000 ∧ (after (exec (.bakOvRestart 2899 1000 0) s)).pwr.bakOv = false ∧
     (after (exec (.bakOvRestart 2899 1000 0) c)).pwr.cutForGood = true ∧
     (after (exec (.bakOvRestart 2899 1000 60000) r)).pwr.cutForGood = true ∧
     (after (exec (.bakOvRestart 2899 1000 60001) r)).pwr.bakOv = false) ∧
    (chargerMay (chg 1) = true ∧ (after (exec (.bakAbsent 3000 150) (chg 1))).pwr.bakAbsent = true ∧
      (after (exec (.bakAbsent 999 0) (chg 2))).pwr.bakAbsent = true) ∧
    (chargerMay keeper = true ∧ fbit keeper .kaCfg 2 = true ∧ (after (exec (.presenceProbe 3349 149) keeper)).pwr.bakAbsent = false) ∧
    ((after (exec (.retentionBreak 2599) (p (fun x => { x with retOk := true })))).pwr.retOk = false ∧
      (after (exec (.kaContentLoss 1799) (dev .run))).sys.phase = .unpowered) := by decide +kernel

/-- A charger whose probe runs when the element is cut or judged absent; in SHIP the keeper gives way to VBAK, and takes over. -/
theorem witness_PowerEventsAct_sources :
    let p (f : PwrSt → PwrSt) : State := withCfg .kaCfg 0x012C0202 { dev .run with pwr := f (dev .run).pwr }
    let ship (f : PwrSt → PwrSt) : State :=
      let s := p f
      { s with sys := { s.sys with phase := .lowPower, mode := some .ship } }
    (after (exec (.bakOv 3350) (p (fun x => { x with probing := true })))).pwr.probing = false ∧
    (after (exec (.bakAbsent 999 0) (p (fun x => { x with probing := true })))).pwr.probing = false ∧
    (let s := ship (fun x => { x with src := 2, vbak := 2400 })
     bakUsable s = true ∧ s.sys.mode = some .ship ∧ (after (exec (.retentionBreak 2599) s)).pwr.src = 1) ∧
    (let s := ship (fun x => { x with src := 1, keeperOut := true })
     s.sys.phase ≠ .unpowered ∧ (after (exec .stackPowerUp s)).pwr.src = 2) := by decide +kernel
/-! ### Witnesses: trips, inhibits, acknowledge -/

/-- A part with its safety state and both channels set. -/
def safeIn (m : Mode) (f : SafeSt → SafeSt) : State := { dev m with safe := f (dev m).safe }
theorem witness_TripsActAtOnce :
    let tripped_ (c : Instr) (s : State) : Prop := (after (exec c s)).safe.state = .tripped
    let hot (k : Nat) : State := withCfg .safeHarness 0xFFFF0020 { dev .run with
      temp := { (dev .run).temp with ts := (dev .run).temp.ts.set k { ovA := 32, ovB := 32 } } }
    (sltViolates (hot 0) .a 0 false = true ∧ tripped_ (.sltViolation .a 0 false) (hot 0)) ∧
    (sltViolates (hot 15) .b 15 false = true ∧ tripped_ (.sltViolation .b 15 false) (hot 15)) ∧
    (let s := safeIn .run (fun x => { x with a := { x.a with sdiRun := 200 }, b := { x.b with sdiRun := 1600 } })
     (after (exec (.sdiLockout .a) s)).safe.state = .lockout ∧ (after (exec (.sdiLockout .b) s)).safe.state = .lockout) ∧
    (let s : State := { dev .run with thrm := { (dev .run).thrm with sdRun := 2 } }
     awake s = true ∧ s.sys.phase = .coreOn ∧ tripped_ .thermalShutdown s) ∧
    (let s : State := { dev .run with time := { (dev .run).time with slot := 7 } }
     let valid (us : Nat) : State := { s with
       time := { s.time with safeNow := some us }, safe := { s.safe with token := some (0, 0xFF), tokens := 99, misses := 15 } }
     let good := valid 900
     checkOpen s = true ∧ s.time.fresh = false ∧ s.safe.token ≠ some (0, 0xFF) ∧ tripped_ .deadlineCheck s ∧
     tripped_ .deadlineCheck (valid 901) ∧
     good.safe.token = some ((stitch good).setWidth 8, ~~~ (stitch good).setWidth 8) ∧
     (after (exec .deadlineCheck good)).safe.tokens = 100) ∧
    tripped_ .degExpire (safeIn .run (fun x => { x with state := .degraded })) := by decide +kernel
theorem witness_InhibitsLatchAndRelease :
    let cold (k : Nat) : State := withCfg .safeHarness 0xFFFF0020 { dev .run with
      temp := { (dev .run).temp with ts := (dev .run).temp.ts.set k { loA := 32, loB := 32 } } }
    let run : State := safeIn .run (fun x => { x with a := { x.a with sliRunChg := 1, sliRunDsg := 1 }
                                                      b := { x.b with sliRunChg := 3, sliRunDsg := 3 } })
    let rel : State := safeIn .run (fun x => { x with a := { x.a with ov := true, uv := true, ovRel := 8, uvRel := 8 }
                                                      b := { x.b with ov := true, uv := true, ovRel := 8, uvRel := 8 } })
    (sltViolates (cold 0) .a 0 true = true ∧ (after (exec (.sltViolation .a 0 true) (cold 0))).safe.a.lowChg = true) ∧
    (sltViolates (cold 15) .b 15 true = true ∧ (after (exec (.sltViolation .b 15 true) (cold 15))).safe.b.lowChg = true) ∧
    (sliNeed run .a = 1 ∧ sliNeed run .b = 3 ∧ (after (exec (.sliLatch .a false) run)).safe.a.sliChg = true ∧
      (after (exec (.sliLatch .b true) run)).safe.b.sliDsg = true) ∧
    (rel.safe.a.ov = true ∧ 8 ≤ rel.safe.a.ovRel ∧ (after (exec (.inhibitRelease .a true) rel)).safe.a.ov = false ∧
      (after (exec (.inhibitRelease .b false) rel)).safe.b.uv = false) := by decide +kernel
theorem witness_AckPinIsJudgedByItsLength :
    let p (d : Nat) : State := { dev .run with sys := { (dev .run).sys with ackEnded := some d } }
    let n (d : Nat) : Nat := (after (exec .ackNPulse (p d))).safe.acks.length
    let low (k : Nat) : State := { dev .run with sys := { (dev .run).sys with ackLow := true, ackBounds := k } }
    let high (k : Nat) : State := { dev .run with sys := { (dev .run).sys with ackStuck := true, ackBounds := k } }
    (p 50).sys.ackEnded = some 50 ∧ (p 50).sys.ackStuck = false ∧ n 49 = 0 ∧ n 50 = 1 ∧ n 2000 = 1 ∧ n 2001 = 0 ∧
    (ackSampled (low 5002) = true ∧ (after (exec .ackStuck (low 5002))).sys.ackStuck = true ∧
      (after (exec .ackStuck (low 5001))).sys.ackStuck = false) ∧
    (ackSampled (high 1001) = true ∧ (high 1001).sys.ackLow = false ∧ (after (exec .ackRearm (high 1001))).sys.ackStuck = false ∧
      (after (exec .ackRearm (high 1000))).sys.ackStuck = true) := by decide +kernel
theorem witness_AcknowledgeIsJudgedAtItsBoundary :
    let r : AckReq := ⟨some 0, false, true⟩
    let a (s : State) (f : SafeSt → SafeSt) : State := fresh { s with safe := f { s.safe with acks := [r] } }
    let d := a (dev .run) (fun x => { x with state := .tripped })
    let h := a (hd .run) (fun x => { x with a := { x.a with sliChg := true, outChg := true } })
    (d.time.fresh = true ∧ coreRuns d = true ∧ d.safe.acks = [r] ∧ ackDue d r = true) ∧
    (inMode d .run = true ∧ d.safe.tripNow = false ∧ d.safe.state = .tripped ∧ ackTrippedOk d = true ∧ degCause d = false) ∧
    (let s := a (dev .run) (fun x => { x with state := .tripped, b := { x.b with crit := true } }); ackTrippedOk s = false) ∧
    (let s := a (dev .run) (fun x => { x with state := .tripped, byDeadline := true, tokens := 99 }); ackTrippedOk s = false) ∧
    (let s := a (dev .run) (fun x => { x with state := .tripped, byDeadline := true, tokens := 100 }); ackTrippedOk s = true) ∧
    (let s := a (dev .run) (fun x => { x with state := .tripped, tripNow := true }); s.safe.tripNow = true) ∧
    (a (dev .run) (fun x => { x with state := .lockout })).safe.state = .lockout ∧
    ((a (dev .run) id).safe.state = .normal ∧ r.pack = true ∧ isHead (a (dev .run) id) = false) ∧
    (isHead h = true ∧ inMode h .run = true ∧ ackSliOk h = false ∧ ackSliOk (a (hd .run) id) = false) ∧
    (let s := fresh { dev .run with safe := { (dev .run).safe with acks := [⟨some 0, true, false⟩] } }
     isHead s = false ∧ s.safe.state = .normal ∧ (after (exec .ackApply s)).safe.ackRef = 1) ∧
    (let x (n : Nat) : State := let s := a (dev .run) (fun x => { x with state := .tripped, degEntries := n })
       { s with cur := { s.cur with disagree := true } }
     degCause (shutdownDue (newTrips (x 2))) = true ∧ (after (exec .ackApply (x 2))).safe.state = .degraded ∧
     (after (exec .ackApply (x 3))).safe.state = .tripped) ∧
    (let s := a (dev .run) (fun x => { x with state := .degraded, degLeft := 0 })
     (newTrips s).safe.tripNow = true ∧ (after (exec .ackApply s)).safe.ackRef = 1) ∧
    (let u := shutdownDue (newTrips { d with thrm := { d.thrm with sdRun := 2 } })
     u.safe.acks = [r] ∧ ackDue u r = true ∧ u.safe.state = .tripped ∧ u.safe.tripNow = true) ∧
    (let s := withCfg .syncIcfg 3 (a (hd .run) (fun x => { x with b := { x.b with sliDsg := true } }))
     ackSliOk s = true ∧ (after (exec .ackApply s)).safe.b.sliDsg = false) := by decide +kernel
/-- What stands against an acknowledge of a trip, one at a time; and current inhibits latched by a channel whose own source, whose other
source and whose both sources are lost, within the limit and outside it. -/
theorem witness_AcknowledgeIsJudgedAtItsBoundary_stands :
    let r : AckReq := ⟨some 0, false, true⟩
    let a (s : State) (f : SafeSt → SafeSt) : State := fresh { s with safe := f { s.safe with acks := [r] } }
    let d (f : SafeSt → SafeSt) : State := a (dev .run) (fun x => f { x with state := .tripped })
    let refs (s : State) : Nat := (after (exec .ackApply s)).safe.ackRef
    let e := d id
    let copy (f : Copy → Copy) : State :=
      let s := a (hd .run) (fun x => { x with state := .tripped })
      { s with enum := { s.enum with set := 4 }, link := { s.link with members := s.link.members.set 2 { radio := some (f { addr := 2 }) } } }
    let sli (own other out outOther : Bool) : State :=
      let s := a (hd .run) (fun x => { x with a := { x.a with sliChg := true, outChg := out }, b := { x.b with outChg := outOther } })
      { s with cur := { s.cur with isnsLost := own, iauxLost := other } }
    refs e = 0 ∧ refs (d (fun x => { x with a := { x.a with sltOwed := true, sltBack := false } })) = 1 ∧
    refs (d (fun x => { x with b := { x.b with sltOwed := true, sltBack := true } })) = 0 ∧
    refs { e with col := { e.col with dyn := srcBit 43 } } = 1 ∧ refs { e with col := { e.col with dyn := srcBit 44 } } = 0 ∧
    (refs (copy id) = 0 ∧ refs (copy (fun c => { c with safety := .lockout })) = 1 ∧
      refs (copy (fun c => { c with tripB := 0x20 })) = 1 ∧ refs (copy (fun c => { c with tripA := 0xC8 })) = 0) ∧
    (refs (sli false true false true) = 0 ∧ refs (sli false true true false) = 1 ∧ refs (sli true false true false) = 0 ∧
      refs (sli true false false true) = 1 ∧ refs (sli true true false false) = 1) := by decide +kernel

/-! ### Witnesses: the stitch -/

/-- A head with one member of the safety set, whose copy and mirror record vary, and causes of DEGRADED. -/
theorem witness_PackIsJudgedAtTheBoundary :
    let pack (f : Copy → Copy) (g : Member → Member) (s : State) : State :=
      { s with enum := { s.enum with set := 4 }, link := { s.link with
          members := s.link.members.set 2 (g { wired := some (f { addr := 2 }) }) } }
    let h : State := { hd .run with safe := { (hd .run).safe with checked := true } }
    let quiet (s : State) : Bool := hwslOn s && coreRuns s && awake s && !s.time.fresh && s.dev.inbox.isEmpty && s.dev.bcasts.isEmpty &&
      decide (s.safe.misses < 15) && !thermalDue s
    let lock := pack (fun c => { c with safety := .lockout }) id h
    let trip := pack (fun c => { c with tripB := 4 }) id h
    let deg := pack (fun c => { c with deg := true }) id h
    (quiet h = true ∧ isHead h = true ∧ quiet (dev .run) = true ∧ isHead (dev .run) = false) ∧
    (quiet lock = true ∧ (packJudge lock).safe.state = .lockout ∧ (packJudge lock).safe.causeOrigin = 2 ∧
      quiet trip = true ∧ (packJudge trip).safe.state = .tripped ∧ (packJudge trip).safe.causeOrigin = 2 ∧
      (packJudge trip).safe.causeFlags = 1 ∧ (packJudge trip).safe.causeA = true ∧ (packJudge trip).safe.causeB = true ∧
      (packJudge trip).safe.causeStitch = stitch trip ∧ lock.safe.unlockPend = false ∧
      (packJudge (pack id id h)).safe.state = .normal ∧ packJudge (dev .run) = dev .run) ∧
    ((packPermits (pack (fun c => { c with tripA := 0x80 }) id h)).safe.chgA = false ∧ (packPermits (pack id id h)).safe.chgA = true ∧
      (packPermits (pack (fun c => { c with tripA := 0x80 }) id h)).safe.dsgB = true) ∧
    (quiet deg = true ∧ isHead deg = true ∧ deg.safe.state = .normal ∧ inMode deg .run = true) ∧
    ((degStep deg).safe.state = .degraded ∧ (degStep (pack id (fun m => { m with fault := true }) h)).safe.state = .degraded ∧
      (degStep { deg with safe := { deg.safe with degEntries := 3 } }).safe.state = .tripped ∧
      (degStep (pack (fun c => { c with deg := true }) id (hd .factory))).safe.state = .normal ∧
      (degStep { dev .standby with cur := { (dev .standby).cur with iauxLost := true } }).safe.state = .degraded) ∧
    (let d (n : Nat) : State := withCfg .syncIcfg 3 { dev .run with
        cur := { (dev .run).cur with disagree := true }, safe := { (dev .run).safe with degEntries := n, checked := true } }
     quiet (d 0) = true ∧ inMode (d 0) .run = true ∧ currentPresent (d 0) = true ∧ (d 0).cur.disOk < 8 ∧ (d 0).safe.state = .normal ∧
      (degStep (d 2)).safe.state = .degraded ∧ tripped (degStep (d 3)) = true) := by decide +kernel
theorem witness_BoundariesAdvanceTheStitchAndShedLoad :
    let s : State := { dev .run with time := { (dev .run).time with slot := 6 } }
    let hot := inPhase .thermalHeld
    (hwslOn s = true ∧ (slotIn 7).slot.val = nextSlot s ∧ (slotIn 0).slot.val = nextSlot (fresh s)) ∧
    (s.sys.mode.isSome = true ∧ (1 : BitVec 4) ≠ s.safe.pins ∧ s.time.fresh = false) ∧
    (hwslOn (inPhase .unpowered) = false ∧ (slotIn 7).slot.val ≠ nextSlot (dev .run)) ∧
    (hwslOn hot = false ∧ hot.sys.phase = .thermalHeld ∧ (inPhase .unpowered).sys.phase ≠ .thermalHeld) ∧
    (timeBoundary s).time.ptB = 1000 := by decide +kernel
/-- With the HWSL off and VREG absent: VBAK that rises, falls, or is in SHIP. -/
theorem witness_BoundariesAdvanceTheStitchAndShedLoad_sources :
    let s (src : Nat) (m : Option Mode) : State := withCfg .kaCfg 0x012C0202 { State.reset with
      sys := { phase := .lowPower, mode := m }, pwr := { State.reset.pwr with src := src } }
    let t (v : BitVec 12) (s : State) : Nat := (after (exec (.stitchBoundary { boundaryIn with vbak := v }) s)).pwr.src
    hwslOn (s 2 none) = false ∧ t 2400 (s 2 none) = 1 ∧ t 2399 (s 1 none) = 2 ∧ t 2400 (s 2 (some .ship)) = 2 := by decide +kernel
theorem witness_BoundariesAdvanceTheStitchAndShedLoad_load :
    let s : State := { dev .run with
      time := { (dev .run).time with shed := 1, safeNow := some 310 }, safe := { (dev .run).safe with misses := 14 } }
    let q : State := fresh { dev .run with time := { (dev .run).time with shed := 3, quiet := 16 } }
    (coreRuns s = true ∧ s.sys.mode.isSome = true ∧ hwslOn s = true ∧ s.time.fresh = false ∧ s.safe.misses < 15 ∧
      thermalDue s = false ∧ 850 < (851 : BitVec 10).toNat ∧ (700 : BitVec 10).toNat ≤ 700) ∧
    (coreRuns q = true ∧ q.time.fresh = true ∧ 0 < q.time.shed ∧ 16 ≤ q.time.quiet ∧ (after (exec .shedResume q)).time.shed = 0) ∧
    (dev .run).time.fresh = false := by decide +kernel
/-- NCELL 32 in SHARED wiring: the limits of channel B hold 4.3 V, 2.5 V and their critical ones; the second sample in a row
inhibits, or trips. IAUX of a head whose current inputs are present. -/
theorem witness_CoarseConversionsFeedChannelB :
    let s (r : CellRun) : State := { dev .run with
      meas := { (dev .run).meas with modOn := true }, safe := { (dev .run).safe with runs := (dev .run).safe.runs.set 31 r, pins := 15 } }
    let t (code : BitVec 12) (r : CellRun) : State := after (exec (.coarseSample 3 7 code) (s r))
    let h : State := withCfg .syncIcfg 3 (hd .run)
    hwslOn (s {}) = true ∧ acceptedNow (s {}) 7 = true ∧ acceptedNow (s {}) 0 = false ∧ populated (s {}) 31 = true ∧ (s {}).meas.cttCell = none ∧
    31 < (s {}).safe.runs.length ∧ needB (s {}) = 2 ∧
    ((t 4095 { ov := 1, ovc := 1 }).safe.b.ov = true ∧ (t 4095 { ov := 1, ovc := 1 }).safe.state = .tripped) ∧
    ((t 0 { uv := 1, uvc := 1 }).safe.b.uv = true ∧ (t 0 { uv := 1, uvc := 1 }).safe.b.crit = true) ∧
    ((t 1900 { ov := 1, uvc := 1 }).safe.state = .normal) ∧
    (hwslOn h = true ∧ currentPresent h = true ∧ currentRuns h .b = true ∧ iauxIn h 4095 = false) := by decide +kernel
/-- KELVIN wiring, which asks for four samples in a row, in any slot; and a code at each limit with its margin, and one past it. -/
theorem witness_CoarseConversionsFeedChannelB_limits :
    let s (w : Word) (r : CellRun) : State := withCfg .safeVcfg 0x000A0000 (withCfg .safeHarness w { dev .run with
      safe := { (dev .run).safe with runs := (dev .run).safe.runs.set 31 r, pins := 15 } })
    let on (w : Word) (r : CellRun) : State := { s w r with meas := { (s w r).meas with modOn := true } }
    let t (w : Word) (conv : Fin 9) (code : BitVec 12) (r : CellRun) : SafeSt := (after (exec (.coarseSample 3 conv code) (on w r))).safe
    let runs (code : BitVec 12) : CellRun := (t 0xFFFF0120 7 code {}).runs.getD 31 {}
    let margin := bits (hwslWord (on 0xFFFF0120 {}) .safeVcfg 13) 23 16
    hwslOn (on 0xFFFF0120 {}) = true ∧ fbit (on 0xFFFF0120 {}) .safeHarness 8 = true ∧ margin = 10 ∧
    ((runs 2355).ov = 0 ∧ (runs 2356).ov = 1 ∧ (runs 2405).ovc = 0 ∧ (runs 2406).ovc = 1 ∧
      (runs 1645).uv = 0 ∧ (runs 1644).uv = 1 ∧ (runs 1495).uvc = 0 ∧ (runs 1494).uvc = 1) ∧
    ((t 0xFFFF0120 7 4095 { ov := 3 }).b.ov = true ∧ (t 0xFFFF0120 7 4095 { ov := 2 }).b.ov = false ∧
      (t 0xFFFF0120 7 0 { uvc := 3 }).b.crit = true ∧ (t 0xFFFF0020 7 0 { uvc := 1 }).b.crit = true) := by decide +kernel
theorem witness_StitchWorkCompletes :
    let s := dev .run
    let m (f : MeasSt → MeasSt) : State := { s with meas := f s.meas }
    (s.meas.complete = false) ∧
    (let x := { m (fun y => { y with complete := true }) with time := { s.time with slot := 3 } }
     x.meas.nextDone = false ∧ x.meas.mwFirst + x.meas.mwLen ≤ x.time.slot.val ∧ (after (exec .mwResultComplete x)).meas.nextDone = true) ∧
    (let c (n : Nat) (v : Int) : State := m (fun y => { y with complete := true, res := { y.res with cells := y.res.cells.set n (some ⟨v, 0⟩) } })
     taskDue (c 0 0) = true ∧ populated (c 0 0) 31 = true ∧
     (beyondA (c 31 4201000) false true 31 = true ∧ beyondA (c 0 2799000) false false 0 = true) ∧
     (beyondA (c 31 4301000) true true 31 = true ∧ beyondA (c 0 2499000) true false 0 = true)) ∧
    (taskDue { s with time := { s.time with safeNow := some 0 } } = false) ∧
    (let p : State := m (fun y => { y with
       complete := true, published := false, decided := true, prevModOn := true
       cells := y.cells.map (fun (c : Cell) => { c with age := some 1 }), res := { y.res with cells := y.res.cells.set 31 (some ⟨3300000, 0⟩) } })
     postDue p = true ∧ p.meas.complete = true ∧ populated p 31 = true ∧ cellPub p 31 = true ∧ cellPub p 0 = false ∧
     owStands p 0 = false ∧ owStands { p with diag := { p.diag with owPin := 2 } } 0 = true ∧
     populated (withCfg .safeHarness 0xFFFF0008 p) 8 = false) ∧
    (let o : State := { m (fun y => { y with published := false }) with time := { s.time with slot := 7 } }
     coreRuns o = true ∧ awake o = true ∧ o.time.fresh = false ∧ (after (exec .ppOverrun o)).meas.published = true) := by decide +kernel
/-- The average of channel A past its limit by one microvolt and at it; the coarse mean of a cell in XDIS, of one under a closure test,
and of one without a usable average, each past its limit. -/
theorem witness_StitchWorkCompletes_limits :
    let s (f : MeasSt → MeasSt) : State := { dev .run with meas := f { (dev .run).meas with complete := true } }
    let avg (v : Int) (x : MeasSt) : MeasSt := { x with res := { x.res with cells := x.res.cells.set 31 (some ⟨v, 0⟩) } }
    let mean (k : Nat) (x : MeasSt) : MeasSt := { x with res := { x.res with coarse := (List.replicate 32 (0, 0)).set 31 (2 * k, 2) } }
    let xd (x : MeasSt) : MeasSt := { x with cells := x.cells.set 31 { xdis := true } }
    let ov (f : MeasSt → MeasSt) : Bool := (after (exec (.safetyTask taskIn) (s f))).safe.a.ov
    populated (s id) 31 = true ∧ bits (hwslWord (s id) .safeVcfg 13) 23 16 = 70 ∧
    (ov (avg 4200001) = true ∧ ov (avg 4200000) = false) ∧
    (ov (fun x => xd (mean 2351 (avg 0 x))) = true ∧ ov (fun x => xd (mean 2350 (avg 0 x))) = false ∧
      ov (fun x => mean 2351 (avg 0 x)) = false ∧
      ov (fun x => { xd (mean 2351 (avg 0 x)) with cttPrev := some 31 }) = false) ∧
    (ov (mean 2386) = true ∧ ov (mean 2385) = false ∧ ov (fun x => { mean 2386 (avg 0 x) with prevSettling := true }) = true) := by
  decide +kernel
/-- The stack, the shunt and the thermistors of a stitch to publish: each code at the edge of its row of R276, and a stitch
that publishes none of them. -/
theorem witness_StitchWorkCompletes_others :
    let s : State := withCfg .syncIcfg 3 (withCfg .safeHarness 0xFFFF0020 (dev .run))
    let p : State := { s with meas := { s.meas with
      complete := true, published := false, decided := true, prevModOn := true
      res := { s.meas.res with stack := some ⟨105600000, 0⟩, shunt := some ⟨-25, 0⟩, iaux := (4096, 8) } } }
    let q : State := { p with temp := { p.temp with havePrev := true, qPrev := [1966, 1967, 63569, 63570, 32768] } }
    let t := after (exec (.postProcessing false) { q with temp := { q.temp with qPrev := [1966, 63570] } })
    (postDue p = true ∧ p.meas.complete = true ∧ streamGate p = true ∧ p.meas.auxHeldPrev.getLsbD 0 = false) ∧
    (t.meas.vstkStale = false ∧ (t.temp.ts.getD 0 {}).broken = true ∧ (t.temp.ts.getD 1 {}).broken = true) ∧
    (tsPop (withCfg .safeHarness 0x20 q) 0 = false ∧ tsPop q 15 = true ∧ q.diag.path.stand = false ∧ p.temp.havePrev = false) ∧
    (currentPresent p = true ∧ p.meas.auxHeldPrev.getLsbD 1 = false ∧ iauxMean p = some 512) ∧
    (streamGate s = false ∧ s.meas.res.shunt = none ∧ iauxMean s = none) := by decide +kernel

/-! ### Witnesses: measurement sources and the carrier -/

theorem witness_MeasurementSourcesFollowTheirCounts :
    let s := dev .run
    let m (f : MeasSt → MeasSt) : State := { s with meas := f s.meas }
    let c (f : CurSt → CurSt) : State := withCfg .syncIcfg 3 { s with cur := f s.cur }
    let h (f : CurSt → CurSt) : State := withCfg .syncIcfg 3 { hd .run with cur := f s.cur }
    31 < s.meas.cells.length ∧
    ((after (exec (.xdis 31) (m (fun y => { y with cells := y.cells.set 31 { dis := 3 } })))).meas.cells.getD 31 {}).xdis = true ∧
    ((after (exec (.xdis 0) (m (fun y => { y with cells := y.cells.set 0 { xdis := true, noDis := 8 } })))).meas.cells.getD 0 {}).xdis = false ∧
    (after (exec .sumMismatch (m (fun y => { y with sumFail := 2 })))).meas.sumBad = true ∧
    (after (exec .sumMismatch (m (fun y => { y with sumBad := true, sumOk := 8 })))).meas.sumBad = false ∧
    (after (exec .harnessMismatch (m (fun y => { y with harnessOut := 3 })))).meas.harnessBad = true ∧
    (after (exec .harnessMismatch (m (fun y => { y with
      shift := (List.range 32).map (fun n => if n = 31 then List.replicate 8 ((2000, 1), (1974, 1)) else []) })))).meas.harnessBad = true ∧
    (after (exec .harnessMismatch (m (fun y => { y with harnessBad := true, harnessOk := 3 })))).meas.harnessBad = false ∧
    (after (exec .harnessMismatch (m (fun y => { y with harnessBad := true, harnessOk := 2 })))).meas.harnessBad = true ∧
    (after (exec .harnessMismatch (m (fun y => { y with
      harnessBad := true, harnessOk := 3
      shift := (List.range 32).map (fun n => if n = 31 then List.replicate 8 ((2000, 1), (1974, 1)) else []) })))).meas.harnessBad = true ∧
    (after (exec .tsBroken { s with temp := { s.temp with ts := s.temp.ts.set 15 { brk := 32 } } })).temp.broken = true ∧
    currentPresent s = false ∧ currentPresent (c id) = true ∧
    (after (exec .isnsLost (c (fun y => { y with isnsOut := 3 })))).cur.isnsLost = true ∧
    (after (exec .isnsLost (h (fun y => { y with isnsOut := 3, iauxLost := true })))).safe.state = .tripped ∧
    (after (exec .isnsLost (c (fun y => { y with isnsLost := true, isnsOk := 8 })))).cur.isnsLost = false ∧
    (after (exec .iauxLost (c (fun y => { y with iauxOut := 8 })))).cur.iauxLost = true ∧
    (after (exec .iauxLost (h (fun y => { y with iauxOut := 8, isnsLost := true })))).safe.state = .tripped ∧
    (after (exec .iauxLost (c (fun y => { y with iauxLost := true, iauxOk := 8 })))).cur.iauxLost = false ∧
    (after (exec .iDisagree (c (fun y => { y with disRun := 3 })))).cur.disagree = true ∧
    (after (exec .iDisagree (c (fun y => { y with disagree := true, disOk := 8 })))).cur.disagree = false := by decide +kernel
theorem witness_CarrierIsQualifiedAndLost :
    let h (f : CurSt → CurSt) : State := withCfg .syncCfg 0x00640001 { hd .run with cur := f (hd .run).cur }
    let e (f : CurSt → CurSt) (t : Nat) : CurSt := (after (exec (.syncEdge t true 200) (h f))).cur
    (isHead (h id) = true ∧ coreRuns (h id) = true ∧ fbit (h id) .syncCfg 1 = false) ∧ fbit (h id) .syncCfg 0 = true ∧
    (h id).cur.edge = none ∧ (e id 5).edge = some 5 ∧
    ((e (fun y => { y with edge := some 0, intervals := List.replicate 7 2000, since := 7 }) 2000).qual = true) ∧
    ((e (fun y => { y with edge := some 0, intervals := List.replicate 8 2000, since := 6 }) 2000).qual = false) ∧
    ((e (fun y => { y with edge := some 0, qual := true, intervals := List.replicate 7 2000 }) 1999).qual = false) ∧
    ((e (fun y => { y with edge := some 0, qual := true, intervals := List.replicate 7 40000 }) 40001).qual = false) ∧
    ((e (fun y => { y with edge := some 0, intervals := List.replicate 8 15000 }) 4000).qual = false) ∧
    ((e (fun y => { y with edge := some 0, qual := true, intervals := List.replicate 7 2000 }) 2400).qual = false) ∧
    ((e (fun y => { y with edge := some 0, qual := true, intervals := List.replicate 8 40000 }) 40000).qual = true) ∧
    (let s := h (fun y => { y with edge := some 0, qual := true, intervals := List.replicate 8 2000 })
     carrierP s.cur.intervals = 2000 ∧ (after (exec (.syncLost 4000) s)).cur.qual = false ∧ (after (exec (.syncLost 3999) s)).cur.qual = true) ∧
    (let s := withCfg .syncCfg 1 { dev .run with cur := { (dev .run).cur with recMiss := 16 } }
     isHead s = false ∧ fbit s .syncCfg 0 = true ∧ (after (exec .fallback s)).cur.fallback = true) := by decide +kernel

/-! ### Witnesses: balancing, foreground units, tests -/

theorem witness_BalancingActsAtItsPoints :
    let b (f : BalSt → BalSt) : State := fresh { dev .run with bal := f (dev .run).bal }
    let t (f : BalSt → BalSt) : State := after (exec .rotationPoint (b f))
    ((after (exec (.balTimerDecrement 31) (b (fun y => { y with presc := y.presc.set 31 10000, tmr := y.tmr.set 31 1 })))).bal.done = 0x80000000) ∧
    ((b id).time.fresh = true ∧ (b id).bal.rotated = false ∧ (b id).time.ptB.toNat % 1000000 = 0) ∧
    ((t (fun y => { y with eligPrev := 0x80000001, grantPrev := 0x00000001, ptr := 0 })).bal.ptr = 31) ∧
    ((t (fun y => { y with eligPrev := 3, grantPrev := 3, ptr := 7 })).bal.ptr = 7) ∧
    ((after (exec .rotationPoint { b id with thrm := { (b id).thrm with td := 460 } })).bal.budget = 0) ∧
    ((after (exec .rotationPoint { b id with thrm := { (b id).thrm with td := 420 } })).bal.budget = fld (b id) .balCfg 23 16) ∧
    ((b (fun y => { y with vminRun := y.vminRun.set 0 1000 })).bal.vminRun.getD 0 0 = 1000) ∧
    (let u : DUnit := { test := 1, group := 3, dueAt := 0, count := 15 }
     let s : State := atStitch 1000 { b id with diag := { (b id).diag with unit := some u } }
     (fresh s).time.fresh = true ∧ u.pass = false ∧ u.paused = false ∧ u.dueAt + 1000 ≤ stitches s ∧ u.count < 16 ∧
       (after (exec .owPause (fresh s))).bal.pause = some 3) ∧
    (let p (k : Nat) : State := { dev .run with
       bal := { (dev .run).bal with pause := some 3, pauseLeft := k }, diag := { (dev .run).diag with unit := some { test := 1, group := 3 } } }
     hwslOn (p 17) = true ∧ (p 17).time.fresh = false ∧ (p 17).dev.inbox = [] ∧ (p 17).bal.pause = some 3 ∧
       (p 17).bal.pauseLeft ≤ 17 ∧ 2 ≤ (p 2).bal.pauseLeft ∧ (p 1).bal.pauseLeft ≤ 1) := by decide +kernel
/-- The plan of a boundary with timers of populated cells and one beyond them, and with each stop of R222; a grant of five cells whose
interleave leaves a row of two; and a switch in its slot and in the window. -/
theorem witness_BalancingActsAtItsPoints_plan :
    let s (f : State → State) : State :=
      let d : State := withCfg .safeHarness 0xFFFF0008 (dev .run)
      f { d with bal := { d.bal with tmr := ((List.replicate 32 0).set 3 9).set 8 9 } }
    let plan (f : State → State) : Word := (planStitch (s f)).bal.requested
    let sw (n : Fin 8) : State := after (exec (.slotBoundary (slotIn n)) { s (withCfg .balCtrl 0) with
      bal := { (s id).bal with closed := 8 }, time := { (s id).time with slot := n - 1 } })
    hwslOn (s id) = true ∧ plan id = 8 ∧ plan (withCfg .balCtrl 0x10000) = 0 ∧ plan (withCfg .balCfg 0) = 0 ∧
    plan (fun x => { x with sys := { x.sys with mode := some .standby } }) = 0 ∧
    plan (fun x => { x with safe := { x.safe with state := .tripped } }) = 0 ∧
    (interleave 0x1F 0 = 0x16 ∧ interleave 0x1F 2 = 0x1B) ∧
    ((slotIn 7).slot.val = nextSlot { s id with time := { (s id).time with slot := 6 } } ∧ (sw 7).bal.sw = 8 ∧ (sw 2).bal.sw = 0) := by
  decide +kernel
theorem witness_ForegroundUnitsRunInTheirPeriod :
    let s (f : DiagSt → DiagSt) : State := fresh (atStitch 1000 { dev .run with diag := f (dev .run).diag })
    let u (t g : Nat) : DUnit := { test := t, group := g }
    let d (c : Instr) (f : DiagSt → DiagSt) : DiagSt := (after (exec c (s f))).diag
    (periodDue (s id) = true ∧ periodDue (s (fun y => { y with period := some 1000 })) = false) ∧
    ((d .unitDue (fun y => { y with period := some 0 })).due.length = 1 ∧ streaming (s id) = true ∧
      (d .unitDue (fun y => { y with period := some 0, nextUnit := 15, periodS := 1 })).nextUnit = 16 ∧
      (d .unitDue (fun y => { y with period := some 0, nextUnit := 16 })).nextUnit = 16) ∧
    ((d .unitStart (fun y => { y with hostQ := [{ u 2 3 with host := true }], due := [u 1 0] })).due.length = 1 ∧
      (d .unitStart (fun y => { y with due := [u 1 0] })).due = [] ∧ (s id).sys.startDone = true) ∧
    (∀ t ∈ [1, 2, 3, 4], (d .unitComplete (fun y => { y with unit := some { u t 3 with count := unitLen (s id) (u t 3) } })).unit = none) ∧
    (((d .unitComplete (fun y => { y with unit := some { u 1 2 with pass := true, count := 100 } })).unit.map (fun x => x.group)) = some 3 ∧
      (after (exec .unitComplete (s (fun y => { y with unit := some { u 1 3 with pass := true, count := 100 } })))).sys.owDone = true) ∧
    ((d .fgLate (fun y => { y with unit := some (u 1 0) })).late ≠ 0 ∧ (d .fgLate (fun y => { y with unit := some (u 2 0) })).unit = none ∧
      (d .fgLate (fun y => { y with due := [u 4 3] })).due = [] ∧ (d .fgLate (fun y => { y with due := [u 1 3] })).due.length = 1) := by
  decide +kernel
/-- Pins 0, 24 and 32 open at OW_THR = 250 mV, in a unit of group 0 and one of group 3; and a trim verification that is due. -/
theorem witness_TestsAreJudgedAsTheirRulesSay :
    let s (g : Nat) (dv : Nat → Int) : State := { dev .run with diag := { (dev .run).diag with
      owEval := some (g, true), vDn := List.replicate 32 (some 0), vUp := (List.range 32).map (fun n => some (dv n)) } }
    let pins (g : Nat) (dv : Nat → Int) : BitVec 33 := (after (exec .owEvaluate (s g dv))).diag.owPin
    let step (k : Nat) (n : Nat) : Int := if n + 1 = k then 250001 else if n = k then -250001 else 0
    (2 ≤ ncell (s 0 (step 0)) ∧ ncell (s 0 (step 0)) ≤ 32 ∧ fld (s 0 (step 0)) .diagCfg 31 24 = 25 ∧ (s 0 (step 0)).diag.ctt = 0) ∧
    pins 0 (step 0) = 1 ∧ pins 3 (step 24) = 0x1000000 ∧ pins 3 (step 32) = 0x100000000 ∧ pins 1 (fun _ => 0) = 0 ∧
    (let v : State := { dev .run with diag := { (dev .run).diag with tvLeft := some 0, tvN := 1, tvSum := 10000 } }
     v.diag.tvLeft = some 0 ∧ v.diag.tvN ≠ 0 ∧ v.cal.status = 2 ∧
     (after (exec (.trimVerifyEnd [] (List.replicate 32 0) true) v)).cal.result = 2 ∧
     (after (exec (.trimVerifyEnd [] (List.replicate 32 0) true) v)).cal.sumOk = true) := by decide +kernel

/-! ### Witnesses: safety inputs, OTP, the journal -/

theorem witness_SafetyInputsTripTheirChannels :
    let i (f : Si → Si) (g : SioSt → SioSt) : State := withCfg .sioCfg 0x00320003 { dev .run with
      sio := g { (dev .run).sio with settleA := 0, settleB := 0, in0 := f { filtA := true, filtB := true }, in1 := f { filtA := true, filtB := true } } }
    let s := i id id
    let at_ (k : Nat) (sl : Fin 8) (s : State) : State :=
      let t := atStitch k s
      { t with time := { t.time with slot := sl } }
    let state (c : Instr) (s : State) : Safety := (after (exec c s)).safe.state
    (siRuns s .a = true ∧ siRuns s .b = true ∧ siSettled s.sio .a = true ∧ siUse s 0 = true ∧ siUse s 1 = true ∧
      siRuns (inPhase .unpowered) .b = false ∧ siSettled (dev .run).sio .a = false) ∧
    (state (.siFilterEdge .a 0 false 0 (List.replicate 201 false)) s = .tripped ∧ state (.siFilterEdge .b 1 false 0 (List.replicate 201 false)) s = .tripped ∧ state (.siFilterEdge .a 1 true 0 (List.replicate 201 true)) s = .normal) ∧
    (let u := i (fun x => { x with filtA := false }) id
     siLevel u.sio .a 1 = false ∧ state (.siSettled .a) u = .tripped ∧ ssiCond s .a = false ∧ ssiCond s .b = false ∧
     state (.siSettled .a) s = .normal) ∧
    (pointHere (at_ 1 2 s) false = true ∧ pointHere (at_ 3 5 s) true = true ∧ pointHere (at_ 3 7 s) true = true ∧
      pointHere (at_ 2 2 s) false = false) ∧
    (state (.testPoint false 0b1111) (at_ 1 2 (i (fun x => { x with failA := 1, wasUse := true }) id)) = .tripped ∧
      state (.testPoint true 0b0000) (at_ 3 5 (i (fun x => { x with failB := 1, wasUse := true }) id)) = .tripped ∧
      state (.testPoint false 0b1111) (at_ 1 2 (i (fun x => { x with failA := 2 }) id)) = .normal) ∧
    ((after (exec (.testPoint false 0b1010) (at_ 1 2 (i (fun x => { x with pulseA := true, passA := 7, passB := 8 }) id)))).sio.in1.pulseA = false) ∧
    (let u := i (fun x => { x with due := true }) id
     (siGet u.sio 1).due = true ∧ state (.siDisc 1) u = .tripped) := by decide +kernel
/-- Old-level samples in dropouts that came, and at places where none came. -/
theorem witness_SafetyInputsTripTheirChannels_dropouts :
    let s (on : Bool) (run : Nat) : State := atStitch 10 { dev .run with sio := { (dev .run).sio with tpOn := on, tpRun := run } }
    let l (k : Nat) (last : Bool) : List Bool := (List.range 201).map (fun j => if j = 200 then last else j != k)
    let old (k : Nat) (s : State) : Bool := siHolds s true 10400 (l k true)
    siHolds (s true 0) true 10400 (l 300 true) = true ∧ old 90 (s true 0) = false ∧
    (old 86 (s true 1) = true ∧ old 86 (s true 0) = false) ∧
    (siHolds (s true 0) true 9400 (l 200 false) = false ∧
      siHolds (s true 1) true 9400 (l 200 false) = true ∧ (l 200 false).getLastD true = false) ∧
    (let m : State := { s true 3 with sio := { (s true 3).sio with steps := [(10200, 1)] } }
     old 90 m = false ∧ old 86 m = false ∧ siHolds m true 10400 (l 84 true) = false ∧
      siHolds m true 10400 ((List.range 301).map (fun j => j != 86)) = true ∧
      siHolds (s true 3) true 10400 ((List.range 301).map (fun j => j != 86)) = false) := by decide +kernel
/-- Readings at the thresholds, the trims of the first boundary and of the ramp, the background tests and IRQ_N. -/
theorem witness_DieTrimsTestsAndIrqFollowTheStitch :
    let d := dev .run
    let thrm (f : ThrmSt → ThrmSt) : State := { d with thrm := f d.thrm }
    let cal (f : CalSt → CalSt) : State := { d with cal := f d.cal }
    (hwslOn d = true ∧ coreRuns d = true ∧ d.time.fresh = false ∧ thermalDue d = false ∧ d.dev.inbox = [] ∧ d.dev.bcasts = [] ∧
      boundaryIn.copyB = none ∧ d.safe.misses < 15 ∧ d.cal.repair = [] ∧ d.cal.reload = [] ∧ d.otp.job = none ∧
      (thrm (fun x => { x with warn := true, nvmInh := true, sdRun := 1 })).thrm.warn = true) ∧
    (d.cal.checkDue = false ∧ d.cal.ramp = false ∧
      (calBoundary 0 (cal (fun c => { c with ramp := true, ofs := List.replicate 34 510 }))).cal.ofs = List.replicate 34 511 ∧
      (calBoundary 0 (cal (fun c => { c with ramp := true, ofs := List.replicate 34 511 }))).sys.rampDone = true ∧
      (calBoundary 0 (cal (fun c => { c with checkDue := true, ofs := List.replicate 34 511 }))).cal.ramp = true ∧
      (calBoundary 1 (cal (fun c => { c with checkDue := true, status := 1 }))).cal.status = 1 ∧
      (calBoundary 2 (cal (fun c => { c with checkDue := true, status := 1 }))).cal.status = 2) ∧
    (let m (k : Nat) (l : List (Fin 8 × Fin 4 × Nat)) (f : DiagSt → DiagSt) : State :=
       { d with meas := { d.meas with complete := true, prevModOn := true, prevAux := l, res := { d.meas.res with stack := some ⟨k, 0⟩ } }, diag := f d.diag }
     let p : Persist := { out := 2, ok := 7, stand := false }
     let u (s : State) (i : TaskIn) : State := after (exec (.safetyTask i) s)
     taskDue (m 0 [] id) = true ∧ streaming (m 0 [] id) = true ∧ inMode (dev .standby) .standby = true ∧ streamGate (m 0 [] id) = true ∧
      (u (m 0 [(0, 1, 2474), (0, 2, 2000), (0, 3, 2969)] (fun x => { x with ref := p, stk := p, path := p })) taskIn).diag.ref.stand = true ∧
      (u (m 0 [(0, 1, 2526), (0, 2, 0), (0, 3, 3031)] id) taskIn).diag.path.stand = false ∧
      (u (m 0 [(0, 1, 2500), (0, 2, 0), (0, 3, 3000)] (fun x => { x with ref := { p with stand := true }, path := { p with stand := true } })) taskIn).diag.ref.stand = false ∧
      (u (m 0 [] id) { taskIn with romErr := some 0, sramUe := [0], sramCe := [0, 1] }).diag.sramCe = 2) ∧
    (let h := hd .run
     let q (s : State) : State := { s with col := { s.col with queue := [{ source := 64, level := 1 }] } }
     irqNow (q h) = true ∧ irqNow h = false ∧ irqNow (q d) = false) := by decide +kernel
/-- A CONFIG generation of three words, programmed to its end, and its request before its boundary. -/
theorem witness_OtpProgramsItsGeneration :
    let j : OtpJob := { block := 5, gen := 3, words := [1, 2, 0x01020304] }
    let s : State := { dev .standby with otp := { (dev .standby).otp with job := some j } }
    let r (b : Nat) : State := fresh { dev .commission with otp := { (dev .commission).otp with req := some { block := b } } }
    let hot : State := { r 3 with thrm := { (r 3).thrm with otpInh := true } }
    let low : State := { r 5 with pwr := { (r 5).pwr with buckFault := true } }
    (dev .standby).otp.req = none ∧ (dev .standby).otp.job = none ∧
    (hot.otp.req = some { block := 3 } ∧ (after (exec .otpProgramStart hot)).safe.sres = 3) ∧
    (low.pwr.buckFault = true ∧ (after (exec .otpProgramStart low)).otp.result = 3) ∧
    ((after (exec .otpProgramStart (r 1))).otp.result = 3 ∧ (after (exec .otpProgramStart (r 1))).otp.job = none ∧
      (let l := { r 1 with sys := { (r 1).sys with modeDue := true } }; (after (exec .otpProgramStart l)).otp.req = l.otp.req)) ∧
    (hot.otp.result = (after (exec .otpProgramStart hot)).otp.result) ∧
    ((r 4).thrm.otpInh = false ∧ (r 5).pwr.buckFault = false ∧ (r 5).time.fresh = true) ∧
    (let p (b : Nat) (g : Bool) : State := after (exec (.otpProgramComplete g)
       { s with otp := { s.otp with job := some { j with block := b, gen := 1 } } })
     (p 3 true).otp.genS = some 1 ∧ (p 3 true).safe.sres = 2 ∧ (p 3 false).safe.sres = 3 ∧ (p 4 true).otp.genP = some 1) ∧
    (let cut : State := { dev .standby with otp := { (dev .standby).otp with job := some { j with stop := some 1 } } }
     (after (exec (.otpProgramComplete true) cut)).otp.genC = none) ∧
    (s.otp.job = some j ∧ j.stop = none ∧ memWf s.otp.mem = true ∧
      memGet (after (exec (.otpProgramComplete true) s)).otp.mem (blockBase 5 3 + 11) = 4 ∧
      memGet (after (exec (.otpProgramComplete false) s)).otp.mem (blockBase 5 3 + 11) = 0 ∧
      (after (exec (.otpProgramComplete true) s)).otp.genC = some 3 ∧ (after (exec (.otpProgramComplete false) s)).otp.genC = none) := by
  decide +kernel
/-- The words of the first CONFIG generation for the reset configuration but for the check word, and their bytes. -/
def configWords : List Word := genHeader 5 0 :: (setWords configRegs {} ++ [0, 0])
def configBytes : List Byte := configWords.flatMap wordBytes
theorem config_first_bytes : (configBytes.take 70).foldl crc32Byte 0xFFFFFFFF#32 = 0xcdfcf1af#32 := by decide +kernel
theorem config_last_bytes : (configBytes.drop 70).foldl crc32Byte 0xcdfcf1af#32 = 0x70018d02#32 := by decide +kernel
/-- The check word of that generation, computed over its two halves. -/
theorem crc_of_config : crc32Words configWords = 0x8ffe72fd#32 := by
  show (configBytes.foldl crc32Byte 0xFFFFFFFF#32) ^^^ 0xFFFFFFFF#32 = _
  rw [← List.take_append_drop 70 configBytes, List.foldl_append, config_first_bytes, config_last_bytes]
  decide
/-- A generation of which every word is complete when a rail faults, or all but its check word: a short one and that CONFIG generation. -/
def cutDev (b n : Nat) (ws : List Word) : State :=
  { dev .standby with
    sys := { (dev .standby).sys with headEnKept := some true }
    otp := { (dev .standby).otp with job := some { block := b, gen := 0, words := ws, stop := some n }
                                     mem := memSetBytes [] (blockBase b 0) ((ws.take n).flatMap wordBytes) } }
theorem witness_OtpProgramsItsGeneration_cut :
    let ws := genForm 2 0 [1, 2, 3, 0, 0, 0]
    let t (n : Nat) : State := after (exec (.railFault 0) (cutDev 2 n ws))
    genValid (t ws.length).otp 2 0 = true ∧ (t ws.length).otp.result = 1 ∧ (t ws.length).sys.headEnKept = some true ∧
    (t (ws.length - 1)).otp.result = 3 := by decide +kernel
theorem witness_OtpProgramsItsGeneration_cut_config :
    genValid (after (exec (.railFault 0) (cutDev 5 36 (configWords ++ [0x8ffe72fd])))).otp 5 0 = true := by
  have h : genWords (after (exec (.railFault 0) (cutDev 5 36 (configWords ++ [0x8ffe72fd])))).otp 5 0 = configWords ++ [0x8ffe72fd] := by
    decide +kernel
  have c : crcOk (configWords ++ [0x8ffe72fd]) = true := by simp [crcOk, crc_of_config]
  have k : contentOk 5 (configWords ++ [0x8ffe72fd]) = true := by decide +kernel
  simp only [genValid, h, c, k]
  decide +kernel
theorem witness_JournalWritesInNumberOrder :
    let j (f : JrnlSt → JrnlSt) : State := { dev .run with jrnl := f (dev .run).jrnl }
    let w (b : Bool) (s : State) : JrnlSt := (after (exec (.journalRecordWrite b) s)).jrnl
    let q := j (fun x => { x with queue := [{ code := 8 }], next := 511 })
    (j id).jrnl.mand = [] ∧ (j id).jrnl.queue = [] ∧
    (let h : State := { dev .run with thrm := { (dev .run).thrm with sdWait := true } }
     h.jrnl.mand = [] ∧ h.jrnl.queue = [] ∧ h.pwr.src ≠ 2 ∧ (w false h).badSlot = 1 ∧ (w false h).next = h.jrnl.next + 1 ∧
       (w true h).next = h.jrnl.next) ∧
    (decide (3 ≤ ({ q with time := { q.time with shed := 3 } } : State).time.shed) = true) ∧
    ((w true q).queue = [] ∧ (w true q).next = 512 ∧ (w true q).slots.map (fun e => e.1) = [511] ∧ (w false q).badSlot = 1 ∧
      (w false q).queue.length = 1) ∧
    ((w true (j (fun x => { x with mand := [{}], queue := [{}], dropSince := 3 }))).dropSince = 0 ∧
      (w true (j (fun x => { x with mand := [{}], queue := List.replicate 16 {}, dropSince := 3 }))).dropSince = 3) ∧
    ((w true (j (fun x => { x with mand := [{}], next := 46079999 }))).wear = true) ∧
    (let b := { j (fun x => { x with mand := [{}], queue := [{}], busy := some false }) with thrm := { (dev .run).thrm with nvmInh := true } }
     (w true b).queue = [] ∧ (w true b).mand.length = 1 ∧ (w true b).busy = some true) := by decide +kernel

/-! ### Witnesses: the link -/

/-- A member's port with carrier and without a fold, serving OUT. -/
def linked (f : LinkSt → LinkSt) : State :=
  { dev .run with link := f { (dev .run).link with portL := { carrier := true }, portU := { carrier := true }, started := true, serve := 1 } }
/-- Words of the fixed burst. -/
def burst (ws : List Word) : List LinkWord := ws.map (fun w => ⟨0xA, w, false⟩)
theorem witness_StartsBurstsAndTripWordsAreTaken :
    let s := linked id
    let t (c : Instr) (s : State) : LinkSt := (after (exec c s)).link
    let lst : State := { hd .run with sys := { (hd .run).sys with listen := true } }
    let folds (f : LinkSt → LinkSt) : State := linked (fun l => f { l with portU := { carrier := true, folded := true } })
    linkUp s = true ∧ isHead s = false ∧ bits (1 : Word) 14 0 ≠ 0 ∧ bits (0x8000 : Word) 14 0 = 0 ∧ linkUp (hd .run) = true ∧
    ((hd .run).sys.listen = false ∧ (t (.startReceive .u 0 7) (hd .run)).portU.startNs = 7) ∧
    (isHead lst = true ∧ linkUp lst = true ∧ (after (exec (.startReceive .l 0 0) lst)).sys.roleConflict = true) ∧
    (portStream .l = 1 ∧ serveNext s .l 0 = 1 ∧ portStream .u = 2 ∧
      serveNext (linked (fun l => { l with serve := 2, portU := { carrier := false } })) .l 0 = 1 ∧
      (t (.startReceive .l 0x8000 0) s).fwdTx = [(.u, .start 0x8000)] ∧
      (t (.startReceive .l 0x8000 0) (folds id)).fwdTx = [(.l, .start 0x8000)] ∧
      (t (.startReceive .u 0x8000 0) (folds id)).fwdTx = []) ∧
    (let d : State := { s with enum := { s.enum with dOut := 400 } }; pathDelay d 1 = some 400 ∧ pathDelay s 1 = none) ∧
    ((serveNext (linked (fun l => { l with serve := 2 })) .l 0 = 1 ∧ (portStream .l = serveNext s .l 0)) ∧
      (let o : State := linked (fun l => { l with portL := { carrier := true, start := true } })
       serveNext o .u 0 = 1 ∧ o.link.serve = 1 ∧ portStream .u ≠ 1)) ∧
    (s.link.startNow = 0 ∧ (t .startMissed s).startNow = 2) ∧
    ((t (.tripWordReceive .l 0x01020002) s).tokBad = 1 ∧ (t (.tripWordReceive .l 0x0102FFFF) s).hold = some 1 ∧
      (after (exec (.tripWordReceive .u 0x01020000) (hd .run))).safe.state = .tripped) ∧
    (let h := linked (fun l => { l with hold := some 0x8002 })
     (0 + 2 - (0x8002 : BitVec 16)).toNat = 32768 ∧ (t (.tripWordReceive .l 0x01020000) h).hold = some 0x8002) ∧
    (let b := burst (0 :: 0x7D0 :: List.replicate 13 0)
     s.link.serve = streamCode .out ∧ b.length = 15 ∧ (∀ w ∈ b, wordErr w = false ∧ w.ty = 0xA) ∧
      (after (exec (.commandBurstReceive .out b) s)).time.ptB = 2000 ∧
      (portGet (folds id).link (streamPort (streamCode .back))).folded = true ∧
      s.link.serve ≠ streamCode .back ∧ (b.take 14).length < 15) := by decide +kernel
/-- A folded port takes no START. -/
theorem witness_StartsBurstsAndTripWordsAreTaken_folded :
    let s := linked (fun l => { l with portU := { carrier := true, folded := true } })
    linkUp s = true ∧ s.link.portU.folded = true ∧ (after (exec (.startReceive .u 0x8000 0) s)).link.serve = s.link.serve := by
  decide +kernel
/-- A member's own container on the first pass and on a later one, and what a head notes of a container. -/
theorem witness_SummariesRepliesAndMessagesAreTaken_own :
    let s (later : Bool) : State := linked (fun l => { l with cont := 1, portL := { carrier := true, later := later } })
    let h : State := { hd .run with enum := { (hd .run).enum with map := [{ addr := 1 }, { addr := 2 }] } }
    let e : List LinkWord := List.replicate 4 ⟨0xF, 0, false⟩
    let box (a : BitVec 6) (ws : List LinkWord) : Nat := (member (after (exec (.summaryReceive .l a ws) h)) 2).box
    (s false).sys.addr.toNat ≤ (s false).link.cont + 1 ∧ portUsable (s false).link .l = true ∧
    ((after (exec (.summaryReceive .l 2 e) (s false))).link.sumOut.length = 4 ∧
      (after (exec (.summaryReceive .l 2 e) (s true))).link.sumOut = [] ∧
      (after (exec (.summaryReceive .l 3 e) (s false))).link.sumOut = []) ∧
    (box 2 e = 1 ∧ box 2 (e.take 3) = 0 ∧ box 2 (words 4) = 2) := by decide +kernel
/-- Summaries, a reply and a thread message as another device forms them. -/
theorem witness_SummariesRepliesAndMessagesAreTaken :
    let s : State := { hd .run with enum := { (hd .run).enum with map := [{ addr := 1 }, { addr := 2 }] } }
    let ws := summaryWords (dev .run)
    let e : List LinkWord := List.replicate 4 ⟨0xF, 0, false⟩
    let t (a : BitVec 6) (w : List LinkWord) : LinkSt := (after (exec (.summaryReceive .l a w) s)).link
    linkUp s = true ∧ isHead s = true ∧ s.sys.sending = true ∧
    ((∀ w ∈ e, w.ty = 0xF ∧ wordErr w = false) ∧ (t 2 e).sumCrc = 0) ∧
    ((∀ w ∈ ws, w.ty = 9 ∧ wordErr w = false) ∧ (t 3 ws).sumCrc = 1 ∧ (t 2 (ws.take 3 ++ ws.take 1)).sumCrc = 1) ∧
    ((copyOfWords (stitch s) 2 (ws.map (fun w => w.payload))).map (fun c => c.addr) = some 2 ∧ 2 < s.link.members.length ∧
      (member s 2).now = none ∧ ((t 2 ws).members.getD 2 {}).wired.isSome = true) := by decide +kernel
/-- The reply of the only transaction to address 2, and of the second one, which waits for the first. -/
theorem witness_SummariesRepliesAndMessagesAreTaken_replies :
    let x : Trans := { tag := 63, op := 1, addr := 2, seq := 255, len := 1, sent := true }
    let y : Trans := { tag := 62, op := 1, addr := 2, seq := 254, len := 1, sent := true }
    let s (l : List Trans) : State := { hd .run with host := { (hd .run).host with trans := l } }
    let lw := replyFrame 255 { op := 1, tag := 63, addr := 2, data := [7] }
    let t (l : List Trans) : HostSt := (after (exec (.replyFrameReceive .l lw) (s l))).host
    replyIntact lw = true ∧ (∀ w ∈ lw, wordErr w = false) ∧ x.tag.toNat < (s [x]).host.tags.length ∧ x.reply = none ∧
    (t [x]).doneQ = [63] ∧ (t [y, x]).doneQ = [] ∧ ((t [y, x]).trans.map (fun e => e.reply.isSome)) = [false, true] := by
  decide +kernel
/-- A reply at port L from a member whose grant sends it on BACK, from one granted on OUT, in the stitch's first slot, where the grants
of the stitch before still hold, and at port U. -/
theorem witness_SummariesRepliesAndMessagesAreTaken_far :
    let x : Trans := { tag := 63, op := 1, addr := 2, seq := 255, len := 1, sent := true }
    let lw := replyFrame 255 { op := 1, tag := 63, addr := 2, data := [7] }
    let g (back : Bool) : LinkWord := ⟨5, place 2 26 ||| flag back 25, false⟩
    let s (now was : Bool) : State := { hd .run with
      host := { (hd .run).host with trans := [x] }, link := { (hd .run).link with grantTx := [g now], grantWas := [g was] } }
    let alt (p : Port) (s : State) : Option Bool :=
      ((after (exec (.replyFrameReceive p lw) s)).host.tags.getD 63 {}).reply.map (fun r => r.alt)
    let later (s : State) : State := { s with time := { s.time with slot := 1 } }
    alt .l (s false true) = some true ∧ alt .l (s true false) = some false ∧ alt .l (fresh (s true false)) = some true ∧
    alt .l (later (s true false)) = some true ∧ alt .u (s true true) = some false := by decide +kernel
theorem witness_SummariesRepliesAndMessagesAreTaken_messages :
    let msg := threadSeal 5
    let m (x : BitVec 128) (whole : Bool) : State := fresh (linked (fun l => { l with thrdRx := { ended := some (x, whole) } }))
    let h : State := fresh { hd .run with link := { (hd .run).link with
      members := (hd .run).link.members.set 62 { threadRx := { ended := some (msg, true) } } } }
    linkUp (m msg true) = true ∧ isHead (m msg true) = false ∧ threadOk msg = true ∧ threadOk (msg + 1) = false ∧
    (after (exec (.threadMessageComplete 1) (m msg true))).link.thrd = some msg ∧
    (after (exec (.threadMessageComplete 1) (m (msg + 1) true))).link.thrdInval = 1 ∧
    (after (exec (.threadMessageComplete 1) (m msg false))).link.thrdBad = 1 ∧
    (linkUp h = true ∧ (62 : BitVec 6).toNat < h.link.members.length ∧
      (member (after (exec (.threadMessageComplete 62) h)) 62).thread = some msg) ∧
    (dev .run).time.fresh = false := by decide +kernel
theorem witness_PortsFoldAndUnfold :
    let p (q : PortSt) : State := fresh (linked (fun l => { l with portL := q }))
    let h (n r : Nat) : State := { hd .run with
      enum := { (hd .run).enum with phase := n, restarts := r }, link := { (hd .run).link with portL := { carrier := true } } }
    let port (c : Instr) (s : State) : PortSt := (after (exec c s)).link.portL
    linkUp (p {}) = true ∧
    (popCount (0x0E : BitVec 8) < 4 ∧ 4 ≤ popCount (0x0F : BitVec 8) ∧
      (port (.carrierLoss .l (some 0x0E)) (p { carrier := true })).folded = false ∧
      (port (.carrierLoss .l (some 0x0F)) (p { carrier := true })).folded = true) ∧
    ((port (.carrierLoss .l none) (p { carrier := true })).folded = true ∧ (p { folded := true }).link.portL.folded = true) ∧
    ((h 0 0).enum.phase = 0 ∧ stitches (h 3 0) ≤ (h 3 0).enum.startAt + 17 ∧
      (after (exec (.carrierLoss .l none) (h 1 0))).enum.phase = 4 ∧
      (after (exec (.carrierLoss .l none) (h 3 4))).enum.unstable = true) ∧
    ((port (.carrierGain .l) (p {})).carrier = true ∧ (p { carrier := true }).link.portL.carrier = true) ∧
    ((port (.readyStart .l) (p { folded := true, carrier := true, cleanRun := 16 })).readyTx = true) ∧
    ((port (.unfold .l) (p { folded := true, carrier := true, readySent := true, readyRx := true })).folded = false) ∧
    (let s : State := fresh (linked (fun l => { l with epochBad := 2 }))
     s.sys.addr ≠ 63 ∧ (after (exec .epochMismatch s)).sys.addr = 63) ∧
    (isHead (dev .run) = false ∧ isHead (hd .run) = true) := by decide +kernel

/-- A carrier change that aborts a search whose COMMIT has not gone out, and one whose COMMIT has. -/
theorem witness_PortsFoldAndUnfold_commit :
    let h : State := { hd .run with
      enum := { (hd .run).enum with phase := 3, frameTx := words 8 }, link := { (hd .run).link with portL := { carrier := true } } }
    (after (exec (.carrierLoss .l none) (fresh h))).enum.frameTx = [] ∧
    (after (exec (.carrierLoss .l none) h)).enum.frameTx.length = 8 := by decide +kernel

/-! ### Witnesses: transactions on the ring -/

/-- An RD of one register of address 2 with SEQ 5, first sent and as a retry, at a member that expects each SEQ below. -/
theorem witness_MembersServeTheirFrames :
    let f (retried : Bool) (op : Nat) (a : BitVec 6) (n : BitVec 16) : List LinkWord :=
      commandFrame { op := op, tag := 63, addr := a, reg := 0x0024, len := 1, seq := 5, retried := retried, named := n, data := [0] }
    let s (v : Bool) (e : BitVec 8) (l : List (BitVec 8 × Reply)) : State :=
      { dev .run with dev := { (dev .run).dev with seqValid := v, seqExp := e, stored := l } }
    let t (retried : Bool) (s : State) : DevSt := (after (exec (.commandFrameReceive .out 0 (f retried 1 2 0) [] true) s)).dev
    linkUp (s true 5 []) = true ∧ frameIntact (f false 1 2 0) = true ∧ frameIntact (f false 2 0 1) = true ∧
    ((transOf ((f true 1 2 0).map (fun w => w.payload))).retried = true ∧ (s true 5 []).sys.addr = 2) ∧
    ((t false (s false 0 [])).seqExp = 6 ∧ (t false (s true 5 [])).stored.length = 1) ∧
    ((t true (s true 6 [(5, {})])).ready.length = 1 ∧ (t true (s true 6 [(5, {})])).seqExp = 6) ∧
    ((t true (s false 0 [])).ready.map (fun e => e.2.status) = [9] ∧ (t false (s true 133 [])).ready.map (fun e => e.2.status) = [9]) ∧
    ((t false (s true 134 [])).ready = [] ∧ (t false (s true 4 [])).ready = []) ∧
    ((t false (s true 6 [(5, {})])).ready = []) ∧
    ((after (exec (.commandFrameReceive .out 0 (f false 2 0 1000) [] true) (s true 5 []))).dev.bcasts.length = 1) ∧
    (let q : State := { inPhase .coreRestart with sys := { (dev .run).sys with phase := .coreRestart } }
     linkUp q = true ∧ coreRuns q = false ∧ (t false q).inbox.length = 1) ∧
    ((f false 1 3 0) ≠ [] ∧ (after (exec (.commandFrameReceive .out 0 (f false 1 3 0) [] true) (linked id))).link.fwdTx.length = 3 ∧
      frameIntact [] = false ∧ (linked (fun l => { l with portL := { folded := true } })).link.portL.folded = true) := by decide +kernel
theorem witness_TransactionsEndAtTheirBound :
    let x (sent : Bool) : Trans := { tag := 63, op := 2, addr := 2, sent := sent, seq := 7 }
    let s (sent : Bool) : State := atStitch 4 { hd .run with host := { (hd .run).host with trans := [x sent] } }
    let n (c : BoundCase) : List (BitVec 6) := (after (exec (.transactionBoundExpiry 63 c) (s true))).host.doneQ
    let b : Bcast := { stitch := 0, tag := 1, reg := 0x0320, data := [0] }
    let z : Bcast := { stitch := 0, tag := 1, reg := 0x0024, data := [1], woken := true }
    let d : State := fresh { dev .run with dev := { (dev .run).dev with bcasts := [b] } }
    (isHead (s true) = true ∧ linkUp (s true) = true ∧ (x true).again = false ∧ (after (exec (.transactionRetry 63) (s true))).host.retry = 1) ∧
    (let g (sent : Bool) : State := { s sent with sys := { (s sent).sys with phase := .coreRestart, mode := none } }
     isHead (g true) = true ∧ linkUp (g true) = true ∧ coreRuns (g true) = false ∧
       (after (exec (.transactionBoundExpiry 63 .noReply) (g true))).host.doneQ = [63] ∧
       (after (exec (.unreservedFrameExpiry 63) (g false))).host.doneQ = [63]) ∧
    ((x true).accepted + 4 ≤ stitches (s true) ∧ n .notServed = [63] ∧ n .noPath = [63] ∧ n .noReply = [63] ∧ n .seqLost = [63]) ∧
    ((n .noReply).length = 1 ∧ (after (exec (.transactionBoundExpiry 63 .noReply) (s true))).host.ghosts.length = 1 ∧
      (after (exec (.transactionBoundExpiry 63 .seqLost) (s true))).host.ghosts = []) ∧
    (let p (a : Nat) : State := { s true with link := { (s true).link with
        members := (s true).link.members.set 2 { wired := some { addr := 2 }, wiredAt := a, seqOut := 8 } } }
     let q (a : Nat) : State := { p a with host := { (p a).host with
        trans := [{ x true with sentAt := 2 }], ghosts := [{ x true with tag := 5, seq := 8 }, { x true with tag := 6, seq := 6 }] } }
     let t (a : Nat) : State := after (exec (.transactionBoundExpiry 63 .noPath) (q a))
     ((t 1).host.ghosts.map (fun y => y.seq) = [8, 6, 7] ∧ (t 0).host.ghosts.map (fun y => y.seq) = [7, 6]) ∧
     ((member (t 1) 2).seqOut = 8 ∧ (member (t 0) 2).seqOut = 7)) ∧
    ((after (exec (.unreservedFrameExpiry 63) (s false))).host.doneQ = [63] ∧ stitches (hd .run) < (x false).accepted + 4) ∧
    (d.time.fresh = true ∧ coreRuns d = true ∧ b.stitch = stitch d ∧ b.data ≠ [] ∧ d.dev.ready = [] ∧
      judgeWr d b.reg b.data true false = none ∧ judgeWr d 0x0320 [3] true false ≠ none ∧
      (after (exec .broadcastApply d)).cfg.words ≠ d.cfg.words) ∧
    (let q : State := fresh { dev .standby with dev := { (dev .standby).dev with bcasts := [z] } }
     writesOf z.reg z.data = [(0x0024, 1)] ∧ (after (exec .broadcastApply q)).dev.answers.map (fun e => e.2.status) = [5] ∧
       (after (exec .broadcastApply q)).sys.modeNext = none) ∧
    (let q : State := fresh { dev .run with dev := { (dev .run).dev with bcasts := [{ b with data := [3] }] } }
     judgeWr q 0x0320 [3] true false = some (0x0320, 1) ∧ (after (exec .broadcastApply q)).dev.answers.map (fun e => e.2.status) = [1]) ∧
    (let q : State := { dev .run with dev := { (dev .run).dev with snaps := [{ num := 1 }, { num := 2, stitch := 1 }] } }
     q.sys.mode.isSome = true ∧ coreRuns q = true ∧ (after (exec .snapshotCapture q)).dev.snaps.map (fun y => y.captured) = [true, false]) := by
  decide +kernel
/-- A snapshot captured in the stitch that ended, with two held before it: STALE results, and results. -/
theorem witness_TransactionsEndAtTheirBound_snapshot :
    let q (m : MeasSt → MeasSt) : State := { dev .run with
      meas := m { (dev .run).meas with prevStitch := 6, res := { cells := List.replicate 32 (some ⟨-5, 0⟩), stack := some ⟨9, 0⟩, shunt := some ⟨7, 1⟩ } }
      dev := { (dev .run).dev with snaps := [{ num := 3, stitch := 6, captured := true }, { num := 4, stitch := 8 },
        { num := 2, stitch := 2, captured := true, held := true, judging := true }, { num := 1, captured := true, held := true }] } }
    let on (m : MeasSt) : MeasSt := { m with prevModOn := true, complete := true }
    let y (s : State) : Snap := ((snapBoundary s).dev.snaps.filter (fun z => z.held)).getD 0 {}
    ((snapBoundary (q id)).dev.snaps.map (fun z => z.num)) = [4, 3, 2] ∧ (y (q on)).num = 3 ∧
    (y (q id)).cells.getD 0 0 = 0x80000000 ∧ ((y (q id)).ts.length, (y (q on)).cells.length) = (16, 32) := by decide +kernel
theorem witness_TransactionsEndAtTheirBound_busy :
    let ws := commandFrame { op := 1, tag := 1, addr := 2, reg := 0, len := 1, seq := 9 }
    let y := transOf (ws.map (fun w => w.payload))
    let s (k : Nat) : State := atStitch k { inPhase .coreRestart with dev := { (dev .run).dev with inbox := [(y, 4)], seqExp := 9, seqValid := true } }
    linkUp (s 7) = true ∧ isHead (s 7) = false ∧ frameIntact ws = true ∧ (s 7).dev.seqValid = true ∧ stitches (s 7) = 7 ∧
    (after (exec (.linkServiceBusy ws) (s 7))).dev.seqExp = 10 ∧ (after (exec (.linkServiceBusy ws) (s 7))).dev.inbox = [] ∧
    (after (exec (.linkServiceBusy ws) (s 6))).dev.inbox.length = 1 := by decide +kernel
/-- The head's own waiting transaction, which no retry sends and whose bound ends it. -/
theorem witness_TransactionsEndAtTheirBound_own :
    let s : State := atStitch 4 { hd .run with host := { (hd .run).host with trans := [{ tag := 63, op := 1, addr := 1, sent := true }] } }
    (after (exec (.transactionRetry 63) s)).host.retry = 0 ∧
    (after (exec (.transactionBoundExpiry 63 .noReply) s)).host.doneQ = [63] ∧
    (((after (exec (.transactionBoundExpiry 63 .noReply) s)).host.tags.getD 63 {}).reply.map (fun r => r.status)) = some 5 := by
  decide +kernel
/-- A held snapshot that is still judged when XDIS and DISAGREE rise and TS_PATH stands, and one that is not. -/
theorem witness_TransactionsEndAtTheirBound_judging :
    let y : Snap := { num := 1, held := true, captured := true, judging := true, cells := List.replicate 32 0, ts := List.replicate 16 9 }
    let s : State := { dev .run with
      meas := { (dev .run).meas with cells := (dev .run).meas.cells.set 31 { dis := 3 } }
      cur := { (dev .run).cur with disagree := true }, diag := { (dev .run).diag with path := { stand := true } }
      dev := { (dev .run).dev with snaps := [y, { y with num := 0, judging := false }] } }
    let t := (after (exec (.xdis 31) s)).dev.snaps
    t.map (fun z => z.cells.getD 31 0) = [0x10000000, 0] ∧ t.map (fun z => z.isns) = [0x10000000, 0] ∧
    (t.map (fun z => z.ts.getD 0 0 == 9)) = [false, true] := by decide +kernel

/-! ### Witnesses: the search -/

/-- A head in a phase of its search. -/
def searchHead (m : Mode) (phase : Nat) (f : EnumSt → EnumSt) : State :=
  fresh { hd m with enum := f { (hd m).enum with phase := phase, search := 7 } }
theorem witness_SearchesRunTheirPhases :
    let e (c : Instr) (s : State) : EnumSt := (after (exec c s)).enum
    let tack (c : Word) : List LinkWord := tackFrame 7 0 c
    let com : Commit := { search := 7, applyAt := 0, nOut := 1, h := 2 }
    let cf (ab : Word) : List LinkWord := let w := (commitFrame com).map (fun w => w.payload)
      frameOf (w.getD 0 0) [w.getD 1 0, w.getD 2 0 ||| ab, w.getD 3 0, w.getD 4 0, w.getD 5 0, w.getD 6 0, w.getD 7 0]
    linkUp (searchHead .run 0 id) = true ∧ errsDense (tack 1) = false ∧ errsDense (cf 0) = false ∧
    (searchDue (searchHead .run 0 (fun x => { x with want := true })) = true ∧ searchDue (searchHead .run 0 id) = false) ∧
    ((e .searchRestart (searchHead .run 4 (fun x => { x with quiet := 3 }))).phase = 1) ∧
    (tackIntact (tack 1) = true ∧ tackIntact [] = false ∧ (e (.tackReceive .out (tack 0x80000000)) (searchHead .run 1 id)).phase = 4 ∧
      (e (.tackReceive .out []) (searchHead .run 1 (fun x => { x with restarts := 4 }))).unstable = true ∧
      (e (.tackReceive .out (tack 0x40000000)) (searchHead .run 1 id)).unstable = true ∧
      (e (.tackReceive .back (tack 61)) (searchHead .run 1 id)).retBack = some 61 ∧
      (e (.tackReceive .back (tack 61)) (searchHead .run 2 id)).retBack = none) ∧
    (commitIntact (cf 0) = true ∧ (e (.commitReceive .out (cf 0x40000000) 0 0) (searchHead .run 3 id)).phase = 4 ∧
      (e (.commitReceive .out (cf 0) 0 0) (searchHead .run 3 id)).cmtOut = true) ∧
    (e .searchApply (searchHead .run 3 (fun x => { x with commit := some com, closedAll := false }))).inForce = true := by decide +kernel
/-- Records of index 1 and 9 on OUT, at their places and off them. -/
theorem witness_SearchesRunTheirPhases_identify :
    let e (c : Instr) (s : State) : EnumSt := (after (exec c s)).enum
    let ws (i : Nat) : List Word := [1, 2, 3, place 5 26 ||| place i 20]
    let rec_ (i : Nat) : List LinkWord := typed false (ws i ++ [(frameCrc (ws i)).setWidth 32])
    let s (k : Nat) := atStitch k (searchHead .run 2 id)
    (idOf (rec_ 1)).map (fun r => (r.stream, r.index)) = some (.out, 1) ∧ errsDense (rec_ 1) = false ∧
    stitches (s 8) ≤ (s 8).enum.startAt + 8 ∧ ¬ stitches (s 9) ≤ (s 9).enum.startAt + 8 ∧
    (e (.idRecordReceive .out 0 (rec_ 1)) (s 1)).ids.length = 1 ∧ (e (.idRecordReceive .out 0 (rec_ 9)) (s 2)).ids.length = 1 ∧
    (e (.idRecordReceive .out 35 (rec_ 8)) (s 1)).ids.length = 1 ∧
    (e (.idRecordReceive .back 0 (rec_ 1)) (s 1)).phase = 4 ∧ (e (.idRecordReceive .out 5 (rec_ 1)) (s 1)).phase = 4 ∧
    (e (.idRecordReceive .out 0 (rec_ 1)) (s 2)).phase = 4 ∧
    idOf [] = none ∧ (e (.idRecordReceive .out 0 []) (s 1)).phase = 4 := by decide +kernel
theorem witness_SearchesRunTheirPhases_decide :
    let r : IdRec := { index := 1, uid := 9 }
    let s (m : Mode) (f : EnumSt → EnumSt) : State :=
      atStitch 17 (searchHead m 3 (fun x => f { x with ids := [r], closedAll := false, retOut := some 1 }))
    let e (s : State) : EnumSt := (after (exec .searchDecide s)).enum
    let moved (x : EnumSt) : EnumSt := { x with inForce := true, set := 6, map := [{ addr := 1 }, { addr := 2, uid := 8 }] }
    let all : List IdRec := (List.range 62).map (fun k => { stream := .out, index := BitVec.ofNat 6 (k + 1) })
    stitches (s .standby id) = (s .standby id).enum.startAt + 17 ∧ (s .standby id).enum.commit = none ∧
    idsComplete (s .standby id) 1 0 = true ∧ searchH (s .standby id) 1 0 = 2 ∧ loopSpread [] = false ∧
    (e (s .standby id)).commit.isSome = true ∧
    (e (s .standby (fun x => { x with retOut := some 2 }))).phase = 4 ∧
    (e (s .run moved)).held = true ∧
    (e (s .run (fun x => { x with aborted := true, restarts := 4 }))).unstable = true ∧
    (let u := s .standby (fun x => { x with retOut := some 62, ids := all })
     idsComplete u 62 0 = true ∧ searchH u 62 0 = 63 ∧ (e u).unstable = true) := by decide +kernel
theorem witness_MembersTakeTheirAddress :
    let e (c : Instr) (s : State) : EnumSt := (after (exec c s)).enum
    let com : Commit := { search := 7, applyAt := 0, nOut := 1, nBack := 1, h := 3 }
    let s (f : EnumSt → EnumSt) : State := fresh (linked (fun l => { l with serve := 1 })) |> fun x => { x with enum := f x.enum }
    let addr (f : EnumSt → EnumSt) : BitVec 6 := (after (exec .searchApply (s f))).sys.addr
    let first := after (exec (.tackReceive .out (tackFrame 7 0 60)) (s id))
    let again := after (exec (.tackReceive .out (tackFrame 7 0 5)) first)
    (isHead (s id) = false ∧ linkUp (s id) = true ∧ tackIntact [] = false ∧ commitIntact [] = false) ∧
    ((portGet (s id).link .l).folded = false ∧ (portGet (s id).link .u).folded = false ∧
      (tackFrame 7 0 60).countP wordErr = 0 ∧
      (after (exec (.idRecordReceive .back 5 (tackFrame 7 0 60)) (s id))).link.fwdTx.map (fun x => x.1) = [.l, .l, .l, .l] ∧
      (portGet (linked (fun l => { l with portU := { l.portU with folded := true } })).link .u).folded = true) ∧
    (tackIntact (tackFrame 7 0 60) = true ∧ first.enum.tackOut = 61 ∧ first.enum.passOut = true ∧
      first.link.fwdTx.map (fun x => x.1) = [.u, .u, .u, .u] ∧
      (e (.tackReceive .back (tackFrame 7 0 61)) (s id)).tackBack = 0 ∧
      (e (.tackReceive .back (tackFrame 7 0 0x40000000)) (s (fun x => { x with tackSearch := some 7 }))).tackBack = 0) ∧
    (again.enum.tackOut = 61 ∧ again.enum.tackTx = tackFrame 7 0 5 ∧ (again.link.fwdTx.drop 4).map (fun x => x.1) = [.l, .l, .l, .l]) ∧
    (commitIntact (commitFrame com) = true ∧
      (e (.commitReceive .out (commitFrame com) 0 0) (s (fun x => { x with tackSearch := some 7 }))).commit.isSome = true ∧
      (e (.commitReceive .out (commitFrame com) 0 0) (s (fun x => { x with tackSearch := some 6 }))).commit = none ∧
      (let u := linked (fun l => { l with portL := { l.portL with changed := true, folded := true, carrier := true } })
       unsettled u = true ∧ bit (((e (.commitReceive .back (commitFrame com) 0 0) u).tackTx.getD 2 ⟨0, 0, false⟩).payload) 30 = true)) ∧
    (com.applyAt = ringStitch (s id) ∧ addr (fun x => { x with commit := some com, tackOut := 1 }) = 2 ∧
      addr (fun x => { x with commit := some com, tackBack := 1 }) = 3 ∧ addr (fun x => { x with commit := some com }) = 63 ∧
      addr id = 63) := by decide +kernel
/-- START at both ports of a member whose core restarts, in the first and the last stitch of the measure phase and the ones around. -/
theorem witness_MembersTakeTheirAddress_times :
    let s (k : Nat) : State :=
      let x := linked (fun l => { l with startNow := 1, portL := { carrier := true, start := true, startNs := 30 }, portU := { carrier := true } })
      let y : State := { x with
        sys := { x.sys with phase := .coreRestart, mode := none }, enum := { x.enum with tackSearch := some 7, tackAt := 0, dOut := 400, tL := [5] } }
      atStitch k y
    let t (k : Nat) : EnumSt := (startTimes (s k).link (timeBoundary (s k))).enum
    hwslOn (s 1) = true ∧ coreRuns (s 1) = false ∧ linkUp (s 1) = true ∧ (s 1).link.started = true ∧
    ((t 0).tL = [5] ∧ (t 1).tL = [5, 430] ∧ (t 16).tL = [5, 430] ∧ (t 17).tL = [5] ∧ (t 1).tU = []) := by decide +kernel
/-- A COMMIT at a member of either index, folded on its far port or with both means, with one of them missing, and of no index. -/
theorem witness_MembersTakeTheirAddress_delays :
    let com : Commit := { search := 7, applyAt := 0, nOut := 1, nBack := 1, h := 3, closed := true }
    let ws : List LinkWord := let w := (commitFrame com).map (fun w => w.payload)
      frameOf (w.getD 0 0) [w.getD 1 0, w.getD 2 0, 5280 * 65536 + 8780, w.getD 4 0, w.getD 5 0, w.getD 6 0, w.getD 7 0]
    let d (o b : BitVec 6) (tL tU : List Int) (l u : Bool) : Option (Nat × Nat) :=
      let x := linked (fun y => { y with portL := { carrier := true, folded := l }, portU := { carrier := true, folded := u } })
      ((after (exec (.commitReceive .out ws 230 20) { x with enum := { x.enum with
        tackSearch := some 7, tackOut := o, tackBack := b, tL := tL, tU := tU } })).enum.commit).map (fun c => (c.dOut, c.dBack))
    d 7 0 [1660, 1660] [3390] false false = some (1660, 3390) ∧ d 0 7 [1660, 1660] [3390] false false = some (0xFFFF, 5140) ∧
    d 7 0 [] [] false true = some (2630, 0xFFFF) ∧ d 0 7 [] [] true false = some (0xFFFF, 4380) ∧
    d 7 0 [] [3390] false false = some (0xFFFF, 0xFFFF) ∧ d 0 0 [1] [1] false false = some (0xFFFF, 0xFFFF) := by decide +kernel

/-! ### Witnesses: the mirror radio -/

/-- The head and the member of a pack of two, key zero, in the cycle that begins at pack time 0, SESSION 1. -/
def mirrHead : State :=
  let s := hd .run
  { s with otp := { s.otp with genP := some 0 }, enum := { s.enum with map := [{ addr := 1 }, { addr := 2 }], set := 6, h := 2 }
           mirr := { s.mirr with session := 1 } }
def mirrMember : State :=
  let s := dev .run
  { s with otp := { s.otp with genP := some 0 }, mirr := { s.mirr with session := 1 } }
/-- The beacon of the head's cycle 0, and the member's frame of it. -/
def beacon0 : List Byte := beaconFrame mirrHead
def frame2 : List Byte := memberFrame mirrMember
def slotOf (n : Fin 8) (s : State) : State := { s with time := { s.time with slot := n } }
theorem witness_MirrorCyclesAreSentCheckedAndJudged :
    let h := fresh mirrHead
    let m := fresh mirrMember
    let mm (f : MirrSt → MirrSt) : State := { mirrMember with mirr := f mirrMember.mirr }
    (cycleDue h = true ∧ cycleDue m = true ∧ isHead m = false ∧ cycleDue mirrHead = false) ∧
    ([(0 : Word), 5].find? (· != 0) = some 5) ∧
    (mirrorRuns mirrMember = true ∧ cycleSlot mirrMember = 0 ∧ cycleSlot (slotOf 3 mirrMember) = 3 ∧ frameCrcOk 6 16 [] = false) ∧
    (fld mirrMember .mirrTol 27 24 = 3 ∧ (after (exec .beaconLost (mm (fun x => { x with beaconMiss := 4 })))).mirr.lost = true) ∧
    (let s : State := { mm (fun x => { x with beaconMiss := 4 }) with link := { mirrMember.link with state := .split } }
     (after (exec .beaconLost s)).mirr.lost = true) ∧
    ((after (exec (.beaconReceive 44000 [] 0) (slotOf 2 mirrMember))).mirr.otherErr = 1 ∧
      (after (exec (.memberFrameReceive 0 [] 0) (slotOf 4 mirrHead))).mirr.otherErr = 1 ∧
      (mapAtSlot (slotOf 5 mirrHead) 2).1.getLsbD 2 = true ∧ (mapAtSlot (slotOf 5 mirrHead) 3).1.getLsbD 3 = false) ∧
    (slotSends (slotOf 4 mirrMember) = true ∧ slotSends mirrMember = false ∧
      (after (exec (.mirrorSlotSend false) (slotOf 4 mirrMember))).mirr.stopped = true) ∧
    (cycleHolds (slotOf 5 mirrHead) (slotUs 2 + 130) (slotUs 2 + 150) = true ∧ frameCrcOk 2 16 [] = false) ∧
    (let j (b : Nat) : State := slotOf 5 { mirrHead with link := { mirrHead.link with members := mirrHead.link.members.set 2 { both := b } } }
     judgeDue (j 3) 2 = true ∧ judgeDue mirrHead 2 = false ∧ mirrorClass (j 3) 2 = 4 ∧
     (after (exec (.mirrorJudge 2) (j 3))).safe.state = .tripped ∧ (after (exec (.mirrorJudge 2) (j 2))).safe.state = .normal) := by
  decide +kernel
theorem witness_MirrorCyclesAreSentCheckedAndJudged_beacon :
    (after (exec (.beaconReceive 44000 beacon0 7) mirrMember)).mirr.beaconOk = true := by decide +kernel
/-- The second copy of a beacon, at a member that is SPLIT. -/
theorem witness_MirrorCyclesAreSentCheckedAndJudged_split :
    let s := slotOf 2 { mirrMember with link := { mirrMember.link with state := .split } }
    let t := after (exec (.beaconReceive 294300 beacon0 7) s)
    t.mirr.phaseNs = 300 ∧ t.time.radioSync = true := by decide +kernel
theorem witness_MirrorCyclesAreSentCheckedAndJudged_member :
    ((after (exec (.memberFrameReceive 0 frame2 7) (slotOf 5 mirrHead))).link.members.getD 2 {}).radio.isSome = true := by decide +kernel
/-- A frame with a right CRC and a wrong MIC, and a beacon that another address sent. -/
theorem witness_MirrorCyclesAreSentCheckedAndJudged_mic :
    let x : List Byte := List.replicate 26 0
    (after (exec (.beaconReceive 294000 (x ++ natBytes 2 (crc16 x).toNat) 7) (slotOf 2 mirrMember))).mirr.micErr = 1 := by decide +kernel
theorem witness_MirrorCyclesAreSentCheckedAndJudged_content :
    let h : State := { mirrHead with sys := { mirrHead.sys with addr := 3 } }
    (after (exec (.beaconReceive 44000 (beaconFrame h) 7) mirrMember)).mirr.otherErr = 1 := by decide +kernel
/-- The new device of an address whose slot begins before the apply boundary and whose frame ends after it: its frame leaves no copy
and it is not judged. -/
theorem witness_MirrorCyclesAreSentCheckedAndJudged_new :
    let h : State := { mirrHead with enum := { mirrHead.enum with newHere := 4 } }
    let s := atStitch 1 (slotOf 5 h)
    s.enum.newHere.getLsbD 2 = true ∧ slotStitch (atStitch 1 h) 2 < 1 ∧ stitches s = 1 := by decide +kernel

/-! ### Witnesses: the recorder and pack records -/

theorem witness_RecorderAndPackRecordsProceed :
    let b (f : RecSt → RecSt) : State := { dev .run with bob := f (dev .run).bob }
    let c (f : ColSt → ColSt) : State := { hd .run with col := f (hd .run).col }
    let p (k : Nat) : State := atStitch k (c (fun x => { x with openRecs := [{ source := 1 }] }))
    (after (exec .postComplete (b (fun r => { r with st := 2 })))).bob.st = 3 ∧
    (awake (dev .run) = true ∧ awake (inPhase .filled) = false ∧
      (after (exec (.recorderPatrol []) (b (fun r => { r with patTick := 110, patPage := 65535, passes := 255 })))).bob.passes = 0 ∧
      (after (exec (.recorderPatrol []) (b (fun r => { r with patTick := 110, patPage := 65534 })))).bob.patPage = 65535) ∧
    ((after (exec .injectionEnd (c (fun x => { x with injSrc := some 1, injLeft := some 0 })))).col.injSrc = none) ∧
    (isHead (hd .run) = true ∧ (2 : BitVec 6).toNat < (hd .run).link.members.length ∧
      ((after (exec (.eventRecordReceive .u (typed true (eventFrame 2 5 0 [{ source := 127, level := 3, cnt := 255 }])))
        (hd .run))).link.members.getD 2 {}).rseq = some 5 ∧ frameTypes (words 6) = false ∧ errsDense (words 6) = false) ∧
    ((after (exec .packRecordClose (p 20))).col.openRecs = [] ∧ (after (exec .packRecordClose (p 19))).col.openRecs.length = 1) := by
  decide +kernel

/-- A frame inside a page, one at its end, and one before a retired page. -/
theorem witness_RecorderAndPackRecordsProceed_frames :
    let r : RecSt := { (dev .run).bob with st := 1, mem := [(4096, 7)] }
    let ws (n : Nat) : List Word := List.replicate n 0x01020304
    let at_ (p f : Nat) : RecSt := { r with wPage := p, wFrame := f }
    memWf r.mem = true ∧ 4 * (ws 32).length = frameBytes 0 ∧ 4 * (ws 24).length = frameBytes 2 ∧
    memGet (frameWrite 0 (ws 32) (at_ 0 0)).mem 127 = 4 ∧ (frameWrite 2 (ws 24) (at_ 3 9)).wPage = 4 ∧
    (frameWrite 0 (ws 32) { at_ 3 7 with retired := [4] }).wPage = 5 := by decide +kernel

/-- The frames of a boundary at each rate, and the last frame of the ring at the lowest. -/
theorem witness_RecorderAndPackRecordsProceed_boundary :
    let s : State := { dev .run with bob := { (dev .run).bob with st := 1, wPage := 65535, wFrame := 9, rate := 2 }
                                     cfg := cfgSet (dev .run).cfg .recCfg 2 }
    (framesOf s 0).length = 8 ∧ (framesOf s 1).length = 4 ∧ (framesOf s 2).map List.length = [24] ∧
    fld s .recCfg 1 0 = 2 ∧ (recorderWrite s s).bob.wPage = 0 ∧ (recorderWrite s s).bob.wFrame = 0 := by decide +kernel
/-- A boundary of a recorder that records, and of one that counts its post-trigger frames, at each rate. -/
theorem witness_RecorderAndPackRecordsProceed_stitch :
    let s (rate f : Nat) (g : RecSt → RecSt) : State :=
      let x := withCfg .recCfg (BitVec.ofNat 32 rate) (dev .run)
      { x with bob := g { x.bob with st := 1, wPage := 7, wFrame := f, rate := rate, mem := [(9000, 5)] } }
    let asks (s : State) : Bool := hwslOn s && coreRuns s && s.sys.mode.isSome && !s.time.fresh && s.dev.inbox.isEmpty &&
      s.dev.bcasts.isEmpty && decide (s.safe.misses < 15) && !thermalDue s && s.bob.ctrlPend.isEmpty && memWf s.bob.mem
    (∀ e ∈ [(0, 0), (0, 7), (1, 7), (2, 9)], asks (s e.1 e.2 id) = true ∧ fld (s e.1 e.2 id) .recCfg 1 0 = e.1 ∧ e.2 < framesPerPage e.1) ∧
    boundaryIn.factory = [] ∧
    (let p := s 0 3 (fun r => { r with st := 2, post := 8 }); asks p = true ∧ p.bob.trig = none ∧ 8 ≤ p.bob.post) := by decide +kernel
end Sys2Proof.Tests
end

section
/-! Host frames cut short by CS_N (R113, R147). -/

namespace Sys2Proof.Machine

/-- R111: the host port is active at the head alone, while its link is up. -/
theorem headLink_iff (s : State) : headLink s = true ↔ isHead s = true ∧ linkUp s = true :=
  Bool.and_eq_true_iff

/-- R113: where the port is active, FRAME_ABORT counts the frame and touches nothing else before the permits settle. -/
theorem exec_frameAbort_of_headLink {s : State} (hs : headLink s = true) :
    exec .frameAbort s = .next (settle { s with host := { s.host with abort := satInc s.host.abort 0xFF } }) := by
  simp only [exec, execFrameAbort, done, hs, if_true]

/-- Settles O16: the port is active, and its saturating count is the minimum the statement names. -/
theorem abortedFrameIsOnlyCounted : Obligations.AbortedFrameIsOnlyCounted := by
  intro s hHead hLink
  have hs : headLink s = true := (headLink_iff s).2 ⟨hHead, hLink⟩
  rw [exec_frameAbort_of_headLink hs, satInc_eq_min]

end Sys2Proof.Machine
end

section
/-! Refused writes and reads of reserved offsets on the LINK, OTP and JRNL pages (R138, R328, R518, R520). -/

namespace Sys2Proof.Machine

open Sys2Proof.Safety

/-! ### Block offsets of one page -/

/-- Block offsets `lo` to `hi` of one existing page that is neither the HOST nor the FACT page. -/
abbrev BlockRange (lo hi : Nat) : Prop := lo / 256 = hi / 256 ∧ 0x20 ≤ lo % 256 ∧ lo / 256 ≤ 0x19 ∧ lo / 256 ≠ 2

/-- A range that lies inside a span of block registers (R138). -/
abbrev InSpan (lo hi : Nat) : Prop := ∃ e ∈ blockSpans, e.1 ≤ lo ∧ hi ≤ e.2

/-- A range that meets no span of block registers (R138). -/
abbrev OffSpans (lo hi : Nat) : Prop := ∀ e ∈ blockSpans, hi < e.1 ∨ e.2 < lo

/-- A range that meets no register with a writable field. -/
abbrev OffDescs (lo hi : Nat) : Prop := ∀ d ∈ descs, d.base + 4 * d.count ≤ lo ∨ hi < d.base

section
variable {lo hi a : Nat} (h1 : lo ≤ a) (h2 : a ≤ hi) (hb : BlockRange lo hi)
include h1 h2

theorem regExists_of_inSpan (h : InSpan lo hi) : regExists a = true := by
  obtain ⟨e, he, hlo, hhi⟩ := h
  have hany : blockSpans.any (fun e => decide (e.1 ≤ a) && decide (a ≤ e.2)) = true :=
    List.any_eq_true.2 ⟨e, he, by simp only [Bool.and_eq_true, decide_eq_true_eq]; omega⟩
  simp [regExists, hany]

theorem descAt_of_offDescs (h : OffDescs lo hi) : descAt a = none :=
  List.find?_eq_none.2 fun d hd => by
    have := h d hd
    simp only [Bool.and_eq_true, decide_eq_true_eq]
    omega

include hb

theorem pageOf_of_blockRange : pageOf a = lo / 256 := by
  unfold pageOf
  omega

theorem blockOffset_of_blockRange : 0x20 ≤ a % 256 := by
  omega

omit h1 in
theorem isFact_of_blockRange : isFact a = false := by
  have hlt : a < 0x1F20 := by omega
  simp [isFact, hlt]

theorem pageExists_of_blockRange : pageExists (pageOf a) = true := by
  have hpage := pageOf_of_blockRange h1 h2 hb
  obtain ⟨-, -, hle, -⟩ := hb
  simp [hpage, pageExists, hle]

theorem hostFrozen_of_blockRange (s : State) : hostFrozen s a = false := by
  have hpage := pageOf_of_blockRange h1 h2 hb
  obtain ⟨-, -, -, hne⟩ := hb
  simp [hpage, hostFrozen, hne]

theorem regExists_of_offSpans (h : OffSpans lo hi) : regExists a = false := by
  have hany : blockSpans.any (fun e => decide (e.1 ≤ a) && decide (a ≤ e.2)) = false :=
    List.any_eq_false.2 fun e he => by
      have := h e he
      simp only [Bool.and_eq_true, decide_eq_true_eq]
      omega
  simp [regExists, hany, isFact_of_blockRange h2 hb, blockOffset_of_blockRange h1 h2 hb]

end

/-! ### Judgement and record -/

/-- R138: a write to a reserved offset is refused with BAD_ADDR. -/
theorem judgeReg_of_reserved {a : Nat} (h : regExists a = false) (s : State) (t : Cfg) (v : Word) (bcast atHead : Bool) :
    judgeReg s t a v bcast atHead = 2 := by
  simp [judgeReg, h]

/-- R10: a write to a block register without a writable field is refused with WRONG_MODE. -/
theorem judgeReg_of_no_field {a : Nat} (hp : pageExists (pageOf a) = true) (hr : regExists a = true) (hb : 0x20 ≤ a % 256)
    (hf : isFact a = false) (hd : descAt a = none) (s : State) (t : Cfg) (v : Word) (bcast atHead : Bool) :
    judgeReg s t a v bcast atHead = 3 := by
  have hc : ¬ a % 256 < 0x20 := by omega
  simp [judgeReg, hp, hr, hc, hf, hd]

/-- R141: a refused REGISTER_WRITE leaves its record in `PG_ERR` of the page, and the permits settle. -/
theorem exec_registerWrite_of_refused {a code : Nat} {v : Word} {s : State} (hc : coreRuns s = true) (ha : a < 65536)
    (h4 : a % 4 = 0) (hp : pageExists (pageOf a) = true) (hh : hostFrozen s a = false) (hw : writeCode a v s = code)
    (h0 : code ≠ 0) :
    exec (.registerWrite (BitVec.ofNat 16 a) v) s =
      .next (settle { s with pgErr := s.pgErr.modify (a / 256) (fun e => ⟨code, min (e.cnt + 1) 0xFF, a % 256⟩) }) := by
  have hto : (BitVec.ofNat 16 a).toNat = a := (BitVec.toNat_ofNat a 16).trans (Nat.mod_eq_of_lt ha)
  have hof : writeOf (.registerWrite (BitVec.ofNat 16 a) v) = some (a, v) := by simp only [writeOf, hto, h4, if_true]
  rw [exec_write s hc hof, hw, if_neg h0]
  simp only [done, pgRecord, hp, hh, Bool.not_false, Bool.and_self, if_true, satInc_eq_min]
  rfl

/-! ### Reads of reserved offsets -/

/-- R327: LINK holds no register from 0x0354 on. -/
theorem readLink_of_reserved {o : Nat} (h : 0x54 ≤ o) (s : State) : readLink s o = 0 := by
  unfold readLink
  split
  on_goal -1 => rfl
  all_goals omega

/-- R517: OTP holds no register from 0x1840 on. -/
theorem readOtp_of_reserved {o : Nat} (h : 0x40 ≤ o) (s : State) : readOtp s o = 0 := by
  unfold readOtp
  split
  on_goal -1 => rfl
  all_goals omega

/-- R519: JRNL holds no register from 0x1954 on. -/
theorem readJrnl_of_reserved {o : Nat} (h : 0x54 ≤ o) (s : State) : readJrnl s o = 0 := by
  have hview : ¬ (0x30 ≤ o ∧ o < 0x50) := by omega
  unfold readJrnl
  rw [if_neg hview]
  split
  on_goal -1 => rfl
  all_goals omega

theorem readReg_linkPage {a : Nat} (hp : pageOf a = 0x03) (hb : 0x20 ≤ a % 256) (s : State) :
    readReg s a = readLink s (a % 256) := by
  simp [readReg, hostFrozen, hp, pageExists, Nat.not_lt.2 hb]

theorem readReg_otpPage {a : Nat} (hp : pageOf a = 0x18) (hb : 0x20 ≤ a % 256) (s : State) :
    readReg s a = readOtp s (a % 256) := by
  simp [readReg, hostFrozen, hp, pageExists, Nat.not_lt.2 hb]

theorem readReg_jrnlPage {a : Nat} (hp : pageOf a = 0x19) (hb : 0x20 ≤ a % 256) (s : State) :
    readReg s a = readJrnl s (a % 256) := by
  simp [readReg, hostFrozen, hp, pageExists, Nat.not_lt.2 hb]

/-- R13: every register whose read clears or latches exists. -/
theorem readEffect_of_reserved {a : Nat} (h : regExists a = false) (s : State) : readEffect a s = s := by
  unfold readEffect
  split
  on_goal -1 => rfl
  all_goals exact absurd h (by decide)

theorem readClear_of_reserved {a : Nat} (h : regExists a = false) (s : State) : readClear a s = s := by
  have hc : a % 256 ≠ 0x0C := fun hc => by simp [regExists, hc] at h
  simp [readClear, hc, readEffect_of_reserved h]

/-- R138: an RD of one reserved offset that reads zero ends with status OK and changes nothing. -/
theorem access_rd_of_reserved {a : Nat} {s : State} (ha : a < 65536) (h4 : a % 4 = 0) (hp : pageExists (pageOf a) = true)
    (hr : regExists a = false) (hz : readReg s a = 0) (tag : BitVec 6) :
    access 1 (BitVec.ofNat 16 a) 1 [] tag s = (0, [0], s) := by
  have hto : (BitVec.ofNat 16 a).toNat = a := (BitVec.toNat_ofNat a 16).trans (Nat.mod_eq_of_lt ha)
  have hover : rangeOver (BitVec.ofNat 16 a) 1 = false := by
    simp only [rangeOver, hto, decide_eq_false_iff_not]
    omega
  simp [access, accessRd, hto, hp, hover, readRange, hz, readClear_of_reserved hr]

/-! ### `LINK.CFG` -/

/-- A write of one configuration register leaves the others. -/
theorem cfgGet_cfgSet_of_ne {q r : CReg} (h : q.ctorIdx ≠ r.ctorIdx) (c : Cfg) (w : Word) :
    cfgGet (cfgSet c r w) q = cfgGet c q := by
  simp only [cfgGet, cfgSet, List.getD_eq_getElem?_getD, List.getElem?_set_ne (Ne.symm h)]

theorem setWords_cfgSet_of_not_mem {l : List (CReg × Word)} {r : CReg} (h : ∀ e ∈ l, e.1.ctorIdx ≠ r.ctorIdx) (c : Cfg)
    (w : Word) : setWords l (cfgSet c r w) = setWords l c :=
  List.map_congr_left fun e he => by rw [cfgGet_cfgSet_of_ne (h e he)]

theorem descAt_linkCfg : descAt 0x0320 = some ⟨0x0320, 1, 0xFFFFFFFC, some .linkCfg, [⟨1, 0, .rw, false, 0, 2⟩]⟩ := by
  decide

/-- R422, R539: TXAMP belongs to the CONFIG set alone, so only a pending CONFIG request holds it. -/
theorem heldChange_linkCfg {s : State} (h5 : jobIs s.otp.req 5 = false) (v : Word) : heldChange s 0x0320 v = false := by
  obtain ⟨w, hput⟩ : ∃ w, cfgPut 0x0320 v s.cfgW = cfgSet s.cfgW .linkCfg w := by
    simp [cfgPut, descAt_linkCfg]
  have hseal : setWords sealRegs (cfgSet s.cfgW .linkCfg w) = setWords sealRegs s.cfgW :=
    setWords_cfgSet_of_not_mem (by decide) _ _
  have hpack : setWords [(.packMap, 0xFFFFFFFF#32)] (cfgSet s.cfgW .linkCfg w) =
      setWords [(.packMap, 0xFFFFFFFF#32)] s.cfgW :=
    setWords_cfgSet_of_not_mem (by decide) _ _
  simp [heldChange, hput, hseal, hpack, h5]

theorem condJudge_linkCfg {s : State} (h5 : jobIs s.otp.req 5 = false) (v : Word) : condJudge s 0x0320 v = 0 := by
  simp [condJudge, balRw, heldChange_linkCfg h5]

/-- R328: TXAMP = 3 passes its range, so the value is refused, whatever the reserved bits. -/
theorem writeCode_linkCfg_of_txamp {s : State} {v : Word} (hv : bits v 1 0 = 3) (h5 : jobIs s.otp.req 5 = false) :
    writeCode 0x0320 v s = 1 := by
  have hp : pageExists (pageOf 0x0320) = true := by decide
  have hr : regExists 0x0320 = true := by decide
  have hf : isFact 0x0320 = false := by decide
  have hrange : fldOk ⟨1, 0, .rw, false, 0, 2⟩ v = false := by simp [fldOk, fldVal, hv]
  simp [writeCode, judgeReg, hp, hr, hf, descAt_linkCfg, orderedJudge, condJudge_linkCfg h5, fieldsJudge, accJudge, hrange]

/-! ### The statement -/

/-- The registers without a writable field on the LINK, OTP and JRNL pages (R328, R518, R520). -/
def readOnlyRanges : List (Nat × Nat) :=
  [(0x0324, 0x0350), (0x1820, 0x1834), (0x183C, 0x183C), (0x1920, 0x1924), (0x192C, 0x1950)]

/-- The reserved offsets of the LINK, OTP and JRNL pages (R328, R518, R520). -/
def reservedRanges : List (Nat × Nat) := [(0x0354, 0x03FC), (0x1840, 0x18FC), (0x1954, 0x19FC)]

/-- The register map places the read-only ranges on block registers, of which no description has a field. -/
theorem readOnlyRanges_registers :
    ∀ r ∈ readOnlyRanges, BlockRange r.1 r.2 ∧ InSpan r.1 r.2 ∧ OffDescs r.1 r.2 := by
  decide

/-- The register map has no register in the reserved ranges. -/
theorem reservedRanges_empty : ∀ r ∈ reservedRanges, BlockRange r.1 r.2 ∧ OffSpans r.1 r.2 := by
  decide

/-- R328, R518, R520: the reserved offsets read zero. -/
theorem readReg_of_reservedRanges {r : Nat × Nat} {a : Nat} (hr : r ∈ reservedRanges) (h1 : r.1 ≤ a) (h2 : a ≤ r.2)
    (s : State) : readReg s a = 0 := by
  simp only [reservedRanges, List.mem_cons, List.not_mem_nil, or_false] at hr
  obtain rfl | rfl | rfl := hr
  · rw [readReg_linkPage (by simp only [pageOf]; omega) (by omega), readLink_of_reserved (by omega)]
  · rw [readReg_otpPage (by simp only [pageOf]; omega) (by omega), readOtp_of_reserved (by omega)]
  · rw [readReg_jrnlPage (by simp only [pageOf]; omega) (by omega), readJrnl_of_reserved (by omega)]

/-- Settles O20: the judgement of a write to any of these registers is its code, and a reserved offset reads zero. -/
theorem readOnlyAndReservedOffsetsRefuse : Obligations.ReadOnlyAndReservedOffsetsRefuse := by
  intro s hc
  refine ⟨fun v hv h5 => ?_, fun r hr a v h1 h2 h4 => ?_, fun r hr a v tag h1 h2 h4 => ?_⟩
  · exact exec_registerWrite_of_refused hc (by decide) (by decide) (by decide) (by simp [hostFrozen, pageOf])
      (writeCode_linkCfg_of_txamp hv h5) (by decide)
  · obtain ⟨hb, hs, hd⟩ := readOnlyRanges_registers r hr
    have hp := pageExists_of_blockRange h1 h2 hb
    have hw : writeCode a v s = 3 := judgeReg_of_no_field hp (regExists_of_inSpan h1 h2 hs) (blockOffset_of_blockRange h1 h2 hb)
      (isFact_of_blockRange h2 hb) (descAt_of_offDescs h1 h2 hd) ..
    exact exec_registerWrite_of_refused hc (by omega) h4 hp (hostFrozen_of_blockRange h1 h2 hb s) hw (by decide)
  · obtain ⟨hb, ho⟩ := reservedRanges_empty r hr
    have hp := pageExists_of_blockRange h1 h2 hb
    have hx := regExists_of_offSpans h1 h2 hb ho
    have hw : writeCode a v s = 2 := judgeReg_of_reserved hx ..
    exact ⟨exec_registerWrite_of_refused hc (by omega) h4 hp (hostFrozen_of_blockRange h1 h2 hb s) hw (by decide),
      access_rd_of_reserved (by omega) h4 hp hx (readReg_of_reservedRanges hr h1 h2 s) tag⟩

end Sys2Proof.Machine
end

section
/-! The confirmation of the safety parameter set: its judgement and its programming (R421, R539). -/

namespace Sys2Proof.Machine

open Sys2Proof.Safety

/-! ### Programming starts -/

/-- R539: a waiting request whose boundary has come starts; only TRIM and IDENT wait for a change of mode. -/
theorem otpStartDue_of_due {q : OtpJob} {s : State} (hq : s.otp.req = some q) (hb : 3 ≤ q.block) (hf : s.time.fresh = true)
    (ht : q.start ≤ stitches s) : otpStartDue s = otpStart s := by
  have hb' : ¬ q.block < 3 := by omega
  simp [otpStartDue, hq, hf, ht, hb']

/-- R421, R422: unless OTP programming is inhibited, an accepted SAFETY request becomes the running job. -/
theorem otpStart_safety {q : OtpJob} {s : State} (hq : s.otp.req = some q) (hb : q.block = 3) (hi : s.thrm.otpInh = false) :
    (otpStart s).otp.req = none ∧ (otpStart s).otp.job.map OtpJob.block = some 3 ∧ (otpStart s).otp.result = 0 := by
  simp [otpStart, jobContent, hq, hb, hi]

/-! ### The write of `SAFE.SEAL_CONFIRM` -/

theorem descAt_sealConfirm : descAt 0x1084 = some ⟨0x1084, 1, 0, none, [⟨31, 0, .wo, false, 0, 4294967295⟩]⟩ := by
  decide

/-- R429: `SAFE.SEAL_CONFIRM` is write-only, so no configuration register takes its value. -/
theorem cfgPut_sealConfirm (v : Word) (c : Cfg) : cfgPut 0x1084 v c = c := by
  simp [cfgPut, descAt_sealConfirm]

/-- R536: R421 alone judges the write, on the values written before it. -/
theorem writeCode_sealConfirm (v : Word) (s : State) : writeCode 0x1084 v s = sealConfirmJudge s.cfgW s v := by
  have hp : pageExists (pageOf 0x1084) = true := by decide
  have hr : regExists 0x1084 = true := by decide
  have hf : isFact 0x1084 = false := by decide
  simp [writeCode, judgeReg, hp, hr, hf, descAt_sealConfirm, cfgPut_sealConfirm, orderedJudge]

/-- The accepted write has the effect of R421 and no other. -/
theorem applyReg_sealConfirm (t : Cfg) (v : Word) (s : State) :
    applyReg t 0x1084 v false false s = sealConfirmApply v false s := by
  have hh : hostFrozen s 0x1084 = false := by simp [hostFrozen, pageOf]
  have hf : isFact 0x1084 = false := by decide
  simp [applyReg, writeAct, hh, hf, cfgPut_sealConfirm]

/-- R139, R141: a refused confirmation leaves its record in `PG_ERR` of the SAFE page. -/
theorem pgRecord_sealConfirm (code : Nat) (s : State) :
    pgRecord 0x1084 code s =
      { s with pgErr := s.pgErr.modify 0x10 (fun e => ⟨code, min (e.cnt + 1) 0xFF, 0x84⟩) } := by
  simp [pgRecord, pageExists, pageOf, hostFrozen, satInc_eq_min]

/-- The judgement of R421 decides between the effect of the confirmation and the record of its refusal. -/
theorem exec_sealConfirm {s : State} (hc : coreRuns s = true) (v : Word) :
    exec (.sealConfirm v) s = .next (settle (
      if sealConfirmJudge s.cfgW s v = 0 then sealConfirmApply v false s
      else { s with pgErr := s.pgErr.modify 0x10 (fun e => ⟨sealConfirmJudge s.cfgW s v, min (e.cnt + 1) 0xFF, 0x84⟩) })) := by
  rw [exec_write s hc rfl, writeCode_sealConfirm, applyReg_sealConfirm, pgRecord_sealConfirm, done]

/-! ### The conditions of the table -/

/-- R539: an accepted change of mode counts before the mode in force. -/
theorem comesTo_iff (s : State) (m : Mode) :
    comesTo s m = true ↔ s.sys.modeNext = some m ∨ (s.sys.modeNext = none ∧ inMode s m = true) := by
  cases h : s.sys.modeNext <;> simp [comesTo, inMode, h]

/-- R287, R510: a block write that is pending or runs, and the inhibit, make the part busy. -/
theorem otpBusy_or_inhibited_iff (s : State) :
    (otpBusy s || s.thrm.otpInh) = true ↔ s.otp.req.isSome = true ∨ s.otp.job.isSome = true ∨ s.thrm.otpInh = true := by
  simp only [otpBusy, Bool.or_eq_true, or_assoc]

/-- R420, R539: an accepted unseal counts as done. -/
theorem staysSealed_and_held_iff (s : State) (v : Word) :
    (staysSealed s && v == sealGen s) = true ↔ s.safe.sealed = true ∧ s.safe.unsealPend = false ∧ v = sealGen s := by
  simp only [staysSealed, Bool.and_eq_true, Bool.not_eq_true', beq_iff_eq, and_assoc]

/-! ### The statement -/

/-- Settles O26: a due request starts its programming, and each row of the table is one branch of the judgement. -/
theorem sealConfirmFollowsItsTable : Obligations.SealConfirmFollowsItsTable := by
  refine ⟨fun q s hq hb hi hf ht => ?_, fun v s hc => ?_⟩
  · obtain ⟨hreq, hjob, hres⟩ := otpStart_safety hq hb hi
    refine ⟨settle (otpStart s), ?_, hreq, hjob, hres⟩
    show done (otpStartDue s) = _
    rw [otpStartDue_of_due hq (by omega) hf ht, done]
  · intro refused comes busy held
    have hcomes : comesTo s .commission = true ↔ comes .commission := comesTo_iff s .commission
    have hbusy : (otpBusy s || s.thrm.otpInh) = true ↔ busy := otpBusy_or_inhibited_iff s
    have hheld : (staysSealed s && v == sealGen s) = true ↔ held := staysSealed_and_held_iff s v
    rw [exec_sealConfirm hc]
    congr 2
    simp only [sealConfirmJudge, sealConfirmApply, applyAt, Bool.not_eq_true', ← Bool.not_eq_true, hcomes, hbusy, hheld,
      bne_iff_ne, beq_iff_eq, Bool.false_eq_true, if_false]
    by_cases mode : comes .commission
    case neg => simp [mode, refused]
    by_cases prog : busy
    case pos => simp [mode, prog, refused]
    by_cases value : v = sealOf s.cfgW
    case neg => simp [mode, prog, value, refused]
    by_cases same : held
    case pos => simp [mode, prog, value, same]
    by_cases left : gensLeft s.otp.usedS = 0 <;> simp [mode, prog, value, same, left, refused]

end Sys2Proof.Machine
end
